-- ==== Sys2Proof/Word.lean ====
section
/-! DEFINITION. The two word types of the controller: a byte of the serial link, and a stage time of 32 bits (R1). -/

namespace Sys2Proof

/-- One byte of the serial link (R198). -/
abbrev Byte := BitVec 8

/-- A stage time: an unsigned count of microseconds in 32 bits, wrapping modulo 2^32 (R1). -/
abbrev Time := BitVec 32

end Sys2Proof
end

