-- ==== Sys2Proof/Machine/Names.lean ====
section
/-! DEFINITION. The manual's enumerated names: states, causes, modes and kinds (R8, R83, R107, R144, R159, R172, R212, R214). -/

namespace Sys2Proof.Machine

/-- The state of a key (R8, R9). -/
inductive KeyState where
  | rest | shallow | held | armed | struck | uncal | fault | muted
deriving DecidableEq, Repr

/-- The two touch curves (R29). -/
inductive Curve where
  | acoustic | silent
deriving DecidableEq, Repr

/-- The condition of the rail (R83). -/
inductive RailState where
  | clear | engaged | waitQuiet | engaging | disengaging | settling | unplaced | fault
deriving DecidableEq, Repr

/-- The cause of a rail fault (R83). -/
inductive RailCause where
  | travelTimeout | stall | switchConflict | lostPosition
deriving DecidableEq, Repr

/-- One of the two end stops: a rail target, and the name of an end-stop switch (R81, R83). -/
inductive Stop where
  | clear | engaged
deriving DecidableEq, Repr

/-- The stop at which the rail last settled (R84). -/
inductive LastStop where
  | clear | engaged | none
deriving DecidableEq, Repr

/-- The H-bridge of the rail motor (R82). -/
inductive Motor where
  | off | towardClear | towardEngaged
deriving DecidableEq, Repr

/-- The two take slots (R144). -/
inductive Slot where
  | a | b
deriving DecidableEq, Repr

/-- The two sources of notes, which are also the two partitions of the Voice Pool (R107, R110). -/
inductive Source where
  | live | playback
deriving DecidableEq, Repr

/-- The reason for a voice's rate (R118). `part` is the manual's PARTIAL. -/
inductive RateClass where
  | natural | part | damped | fade | frozen
deriving DecidableEq, Repr

/-- The life of a voice (R107). -/
inductive VoicePhase where
  | free | sounding | fading
deriving DecidableEq, Repr

/-- The zone of a damper pedal value (R68). -/
inductive Zone where
  | down | half | lifted
deriving DecidableEq, Repr

/-- How the times of a recording are taken (R159). -/
inductive ClockMode where
  | free | sync
deriving DecidableEq, Repr

/-- The direction of the transfer window (section 8.3). -/
inductive WindowMode where
  | read | write
deriving DecidableEq, Repr

/-- The kind of a take record (R145). -/
inductive RecKind where
  | strike | damperUp | damperDown | pedal | mark
deriving DecidableEq, Repr

/-- How a take came to its slot (R144). -/
inductive TakeOrigin where
  | recorded | uploaded
deriving DecidableEq, Repr

/-- The user that an IN_USE reply names (R147). -/
inductive User where
  | recorder | player
deriving DecidableEq, Repr

/-- The condition of the Recorder (R159). -/
inductive RecState where
  | idle | armed | recording
deriving DecidableEq, Repr

/-- The cause carried by a STOPPED report (R170). -/
inductive StopCause where
  | request | full | timeLimit | playerEnd
deriving DecidableEq, Repr

/-- The condition of the Player (R172). -/
inductive PlayerState where
  | stopped | playing | waiting | paused
deriving DecidableEq, Repr

/-- The guide hand setting (R172). -/
inductive GuideHand where
  | none | left | right | both
deriving DecidableEq, Repr

/-- The condition of the headphone output (R133). -/
inductive OutputState where
  | off | rising | on | falling
deriving DecidableEq, Repr

/-- The three levels of the Headphone Path that glide (R138). -/
inductive Level where
  | master | liveMix | playbackMix
deriving DecidableEq, Repr

/-- The state of the Link (R205). -/
inductive LinkState where
  | active | standby | waking
deriving DecidableEq, Repr

/-- What began a wake (R209, R210). -/
inductive WakeSource where
  | request
  | key (k : Nat)
  | jack
deriving DecidableEq, Repr

/-- The busy reason of a refused STANDBY request (R208). -/
inductive BusyReason where
  | player | recorder | rail | calibration
deriving DecidableEq, Repr

/-- The result code of a reply (R211). -/
inductive ResultCode where
  | ok | accepted | already | badKind | badLength | badValue | badState | inUse | order | full
  | standby | linkBusy | badCheck
deriving DecidableEq, Repr

/-- The eight report classes (R214). -/
inductive ReportClass where
  | key | pedal | trim | rail | voice | player | recorder | system
deriving DecidableEq, Repr

end Sys2Proof.Machine
end

