-- ==== Sys2Proof/Syntax.lean ====
section
/-! DEFINITION. The commands of the controller: one constructor per row of spec/opcode_table.json.
A host request carries the tag of its frame and the values of its body as the frame's fields carry them (R212); an input of the block carries what the input reads; an expiry carries the number of the key, group, pedal or voice it belongs to. -/

namespace Sys2Proof

open Machine

/-- A take record as TAKE_DATA carries it, its fields not yet checked (R152, R213). -/
structure RawRecord where
  time : Nat
  kind : Nat
  subject : Nat
  value : Nat
deriving DecidableEq, Repr

/-- The commands, in the order of spec/opcode_table.json. -/
inductive Instr where
  /-- R207: the supply rises or RESETn is released, with the levels of the two switch inputs (closed or not). -/
  | powerOnReset (clearClosed engagedClosed : Bool)
  /-- R206: the reset that ends the transmission of the reply to RESET, with the levels of the two switch inputs (R81). -/
  | softReset (clearClosed engagedClosed : Bool)
  /-- R198: a byte arrives from the host; `broken` when it came without its stop bit. -/
  | rxByte (byte : Byte) (broken : Bool)
  | rxTimeout
  | dispatchFrame
  | lineGrant
  | txEnd
  | ident (tag : Byte)
  | status (tag : Byte)
  | reports (tag : Byte) (mask : Nat)
  | reset (tag : Byte)
  | standby (tag : Byte)
  | wake (tag : Byte)
  | wakeComplete
  /-- R26: the wake check of one key, with its raw reading. -/
  | wakeCheck (key raw : Nat)
  | thresholds (tag : Byte) (rest damp lift strike : Nat)
  | keyMute (tag : Byte) (key flag : Nat)
  | keyParam (tag : Byte) (key nominal bottom travel : Nat) (levelTrim : Int)
  | keyRead (tag : Byte) (key : Nat)
  /-- R3: a full-rate sample of one key, with its raw reading. -/
  | keySample (key raw : Nat)
  | silentPress (key : Nat)
  | keyFault (key : Nat)
  | keyClear (key : Nat)
  | curveLoad (tag : Byte) (curve : Nat) (entries : List Nat)
  | curveRead (tag : Byte) (curve : Nat)
  | trimSet (tag : Byte) (interval pullIn : Nat)
  | roundExpiry (group : Nat)
  | calComplete
  | calFull (tag : Byte) (group : Nat)
  /-- R64: a sample of one pedal, with its raw reading. -/
  | pedalSample (pedal raw : Nat)
  | sostenutoOn
  | pedalFault (pedal : Nat)
  | pedalClear (pedal : Nat)
  | pedalParam (tag : Byte) (pedal restRaw fullRaw cut : Nat)
  | pedalRead (tag : Byte)
  /-- R81: one of the two end-stop switches completes its debounce. -/
  | switchChange (switch : Stop)
  /-- R92: the over-limit indication of the current sense sets or clears. -/
  | overLimitChange (exceeded : Bool)
  | railSet (tag : Byte) (target : Nat)
  | railRecover (tag : Byte)
  | railRead (tag : Byte)
  | railAbandoned
  | travelTimeout
  | stall
  | settleExpiry
  | voiceSplit (tag : Byte) (liveReserve playbackLends liveLends : Nat)
  | tone (tag : Byte) (tone mode : Nat)
  | layer (tag : Byte) (flag : Nat)
  | decayLoad (tag : Byte) (entries : List Nat) (limit : Nat)
  | voiceRead (tag : Byte) (part : Nat)
  | voiceEnd (voice : Nat)
  | phones (tag : Byte) (enable volume liveMix playbackMix : Nat)
  | jackChange
  | rampEnd
  | glideEnd (level : Level)
  | takeWindow (tag : Byte) (slot mode first last : Nat)
  | takeData (tag : Byte) (records : List RawRecord)
  | takeRead (tag : Byte)
  | takeInfo (tag : Byte) (slot : Nat)
  | takeClear (tag : Byte) (slot : Nat)
  | recArm (tag : Byte) (slot mode : Nat)
  | recMark (tag : Byte) (number : Nat)
  | recStop (tag : Byte)
  | recTimeLimit
  | playStart (tag : Byte) (slot position : Nat)
  | playStop (tag : Byte)
  | playPause (tag : Byte)
  | playResume (tag : Byte)
  | playSeek (tag : Byte) (position : Nat)
  | playLoop (tag : Byte) (start stop count : Nat)
  | playTempo (tag : Byte) (tempo : Nat)
  | playHands (tag : Byte) (splitKey muteMask guide window : Nat)
  | playRead (tag : Byte)
  | dueTimerExpiry
  /-- R133: one tick of the output frame clock, with the raw levels of the jack input and of the two switch inputs at that frame (R81, R134). -/
  | outputFrame (jack clearClosed engagedClosed : Bool)
  /-- R207: the supply falls or the RESETn pin is driven low. -/
  | resetnLow
deriving DecidableEq, Repr

end Sys2Proof
end

