-- ==== Sys2Proof/Config.lean ====
section
/-! DEFINITION. What the manual leaves open: free values, each an opaque constant with no body, so that nothing can be proved of the value it takes (assumption log 15, 16, 19). -/

namespace Sys2Proof.Config

open Sys2Proof.Machine

/-- DESIGN CHOICE (log 16): the byte of a voice's phase in VOICE_READ, which R128 and R212 do not number. -/
opaque phaseCode : VoicePhase → Byte

/-- DESIGN CHOICE (log 16): the byte of a rate class in VOICE_READ, which R128 and R212 do not number. -/
opaque rateClassCode : RateClass → Byte

/-- DESIGN CHOICE (log 16): the byte of a damper zone in PEDAL_READ, which R78 and R212 do not number. -/
opaque zoneCode : Zone → Byte

/-- DESIGN CHOICE (log 16): the byte of a take's origin in TAKE_INFO, which R155 and R212 do not number. -/
opaque originCode : TakeOrigin → Byte

/-- DESIGN CHOICE (log 16): the byte of a slot's state, EMPTY or HOLDING (whether it holds a take), which R212 does not number. -/
opaque slotStateCode : (holding : Bool) → Byte

/-- DESIGN CHOICE (log 16): the byte that names the user in an IN_USE reply, which R147 and R212 do not number. -/
opaque userCode : User → Byte

/-- DESIGN CHOICE (log 19): the byte that stands for a loop's passes done when they exceed 255, which a loop of count 0 reaches (R188, R214). -/
opaque widePasses : Nat → Byte

/-- DESIGN CHOICE (log 15): one sample of the sound set at no attenuation, for a tone, a key, a level and the frames since the note began (R139).
The manual names the inputs and gives no sample values. -/
opaque waveform : (tone key level frames : Nat) → Int

/-- DESIGN CHOICE (log 15): the greatest channel sample, full scale (R140). -/
opaque fullScaleMax : Int

/-- DESIGN CHOICE (log 15): the least channel sample (R140). -/
opaque fullScaleMin : Int

end Sys2Proof.Config
end

