-- ==== Sys2Proof/Machine/State.lean ====
section
/-! DEFINITION. The state of the controller as plain data, block by block (R1, R8, R29, R42, R63, R83, R107, R133, R144, R159, R172, R198), the queue of waiting commands, and the state after a power-on reset. -/

namespace Sys2Proof.Machine

/-! ### Stage Clock and Key Scanner -/

/-- R1: the stage time and its suspended flag. -/
structure StageClock where
  time : Time
  suspended : Bool
deriving DecidableEq, Repr

/-- R5: the four thresholds. -/
structure Thresholds where
  rest : Nat
  damp : Nat
  lift : Nat
  strike : Nat
deriving DecidableEq, Repr

/-- R3: one sample of a key: its stage time, raw reading and depth. -/
structure Sample where
  time : Time
  raw : Nat
  depth : Nat
deriving DecidableEq, Repr

/-- R8: a key record.
`calLost` marks a key whose calibration a KEY_PARAM took away during a FULL calibration of its group (R21).
`resumed` marks a key that has not been sampled since a wake completed, whose next sample is not 20 µs after its latest (R26). -/
structure KeyRec where
  state : KeyState
  restRaw : Option Nat
  nominal : Nat
  bottom : Nat
  travel : Nat
  levelTrim : Int
  muted : Bool
  debt : Int
  stale : Bool
  latest : Option Sample
  previous : Option Sample
  tLift : Option Time
  flight : Option Time
  sounded : Bool
  liftSpent : Bool
  holdOff : Bool
  faultTimer : Option Time
  recovery : Option Time
  calLost : Bool
  resumed : Bool
deriving DecidableEq, Repr

/-- R27: a key record after a power-on reset. -/
def KeyRec.powerOn : KeyRec :=
  { state := .uncal, restRaw := none, nominal := 600, bottom := 3400, travel := 9000, levelTrim := 0,
    muted := false, debt := 0, stale := false, latest := none, previous := none, tLift := none,
    flight := none, sounded := false, liftSpent := false, holdOff := false, faultTimer := none,
    recovery := none, calLost := false, resumed := false }

/-! ### Touch Unit -/

/-- R29: the two touch curves, each a table of 25 levels. -/
structure Curves where
  acoustic : List Nat
  silent : List Nat
deriving DecidableEq, Repr

/-- R37: the default curve. -/
def defaultCurve : List Nat :=
  [1, 12, 22, 31, 39, 46, 53, 59, 65, 70, 75, 80, 84, 88, 92, 96, 100, 103, 106, 109, 112, 115, 119, 123, 127]

/-! ### Trim Engine -/

/-- R47, R55: what a run of readings is judged by: how many, their sum, the least and the greatest, and whether any lay outside 16..4079. -/
structure Readings where
  count : Nat
  sum : Nat
  least : Nat
  greatest : Nat
  outSeen : Bool
deriving DecidableEq, Repr

/-- No reading taken yet. -/
def Readings.none : Readings := { count := 0, sum := 0, least := 4095, greatest := 0, outSeen := false }

/-- R45: the condition of a trim unit. While TRIMMING it has a subject, its readings so far, and the samples of the subject to pass over before the next reading. -/
inductive TrimPhase where
  | idle
  | suspended
  | trimming (subject : Nat) (readings : Readings) (skip : Nat)
deriving DecidableEq, Repr

/-- R45, R46: the trim unit of a group, with its passed-over set. -/
structure TrimUnit where
  phase : TrimPhase
  passedOver : List Nat
deriving DecidableEq, Repr

/-- R54: an examined key of a FULL calibration: whether it was in a positional state at the grant, its readings, and whether it was in REST at each of them. -/
structure Exam where
  key : Nat
  positional : Bool
  readings : Readings
  allRest : Bool
deriving DecidableEq, Repr

/-- R53, R54: the FULL calibration in progress. `rejoin` is the mark to join at completion (R52). -/
structure Calibration where
  group : Nat
  start : Time
  exams : List Exam
  rejoin : Bool
deriving DecidableEq, Repr

/-- R43, R46, R51, R52: the Trim Engine. The reference drive is on exactly while a calibration is in progress. -/
structure TrimEngine where
  interval : Nat
  pullIn : Bool
  rounds : List (Option Time)
  units : List TrimUnit
  fifo : List Nat
  cal : Option Calibration
deriving DecidableEq, Repr

/-! ### Pedal Unit -/

/-- R63: a pedal record; its latest sample is a stage time and a raw reading. -/
structure PedalRec where
  restRaw : Nat
  fullRaw : Nat
  value : Nat
  fault : Bool
  lastReported : Nat
  latest : Option (Time × Nat)
  faultTimer : Option Time
  recovery : Option Time
deriving DecidableEq, Repr

/-- R63, R70, R72: the Pedal Unit. -/
structure PedalUnit where
  recs : List PedalRec
  engaged : Bool
  hold : Option Time
  sostenuto : List Nat
  softCut : Nat
deriving DecidableEq, Repr

/-- R80: a pedal record after a power-on reset. -/
def PedalRec.powerOn : PedalRec :=
  { restRaw := 400, fullRaw := 3600, value := 0, fault := false, lastReported := 0, latest := none,
    faultTimer := none, recovery := none }

/-! ### Rail Drive -/

/-- R81: an end-stop switch: the level of its input at the latest frame, its debounced state, and the frames for which the two have differed. -/
structure Switch where
  level : Bool
  closed : Bool
  run : Nat
deriving DecidableEq, Repr

/-- R83: the state a wait returns to, with the cause of a FAULT. -/
structure RailOrigin where
  state : RailState
  cause : Option RailCause
deriving DecidableEq, Repr

/-- R81, R82, R83: the rail record, the two switches, the motor and the current sense. -/
structure Rail where
  state : RailState
  cause : Option RailCause
  target : Option Stop
  origin : Option RailOrigin
  recovery : Bool
  pendingTarget : Option Stop
  lastStop : LastStop
  quietTimer : Option Time
  travelTimer : Option Time
  stallTimer : Option Time
  settleTimer : Option Time
  motor : Motor
  overLimit : Bool
  clearSwitch : Switch
  engagedSwitch : Switch
deriving DecidableEq, Repr

/-- R81: a switch at a reset, its debounced state taken from its input level. -/
def Switch.atReset (closed : Bool) : Switch := { level := closed, closed := closed, run := 0 }

/-- R105, R106: the rail placed from its switches at a reset. -/
def Rail.placed (clear engaged overLimit : Bool) : Rail :=
  { state := if clear && engaged then .fault else if clear then .clear else if engaged then .engaged else .unplaced
    cause := if clear && engaged then some .switchConflict else none
    target := none, origin := none, recovery := false, pendingTarget := none
    lastStop := if clear && engaged then .none else if clear then .clear else if engaged then .engaged else .none
    quietTimer := none, travelTimer := none, stallTimer := none, settleTimer := none
    motor := .off, overLimit := overLimit
    clearSwitch := Switch.atReset clear, engagedSwitch := Switch.atReset engaged }

/-! ### Voice Pool -/

/-- R107: the fields of a voice that is not FREE. `fading` tells FADING from SOUNDING.
`startFrame` is the output frame at which the note began, which the waveform is counted from (R139). -/
structure Note where
  fading : Bool
  source : Source
  owner : Source
  key : Nat
  level : Nat
  tone : Nat
  aRef : Nat
  tRef : Time
  rateClass : RateClass
  rate : Nat
  start : Time
  deadline : Option Time
  startFrame : Nat
deriving DecidableEq, Repr

/-- R107, R110, R118, R124, R126: the Voice Pool. A voice is `none` when FREE. -/
structure VoicePool where
  voices : List (Option Note)
  liveReserve : Nat
  playbackLends : Bool
  liveLends : Bool
  tone : Nat
  pendingTone : Option Nat
  layer : Bool
  damperLimit : Nat
  decay : List Nat
deriving DecidableEq, Repr

/-- R118: the decay table after a power-on reset, entry k at index k − 1. -/
def powerOnDecay : List Nat := (List.range 88).map fun i => 30 + i * 370 / 87

/-! ### Headphone Path -/

/-- R138: a glide of a level in progress. -/
structure Glide where
  start : Nat
  target : Nat
  count : Nat
deriving DecidableEq, Repr

/-- R138: a level: its setting, the attenuation applied at the present frame in 0.1 dB, and its glide. -/
structure LevelRec where
  setting : Nat
  applied : Nat
  glide : Option Glide
deriving DecidableEq, Repr

/-- R133: the Headphone Path. `frame` counts the ticks of the output frame clock, `jackLevel` is the raw jack input at the latest frame, and `left`, `right` are the samples last produced. -/
structure HeadphonePath where
  frame : Nat
  jackLevel : Bool
  jackPresent : Bool
  jackRun : Nat
  enable : Bool
  master : LevelRec
  liveMix : LevelRec
  playbackMix : LevelRec
  output : OutputState
  ramp : Nat
  freeingOwed : Bool
  left : Int
  right : Int
deriving DecidableEq, Repr

/-- R143: the Headphone Path after a reset, at a frame of its clock and with a raw jack level. -/
def HeadphonePath.atReset (frame : Nat) (jackLevel : Bool) : HeadphonePath :=
  { frame := frame, jackLevel := jackLevel, jackPresent := false, jackRun := 0, enable := true
    master := { setting := 40, applied := 345, glide := none }
    liveMix := { setting := 0, applied := 0, glide := none }
    playbackMix := { setting := 0, applied := 0, glide := none }
    output := .off, ramp := 0, freeingOwed := false, left := 0, right := 0 }

/-! ### Take Store -/

/-- R145: a take record. -/
structure TakeRec where
  time : Nat
  kind : RecKind
  subject : Nat
  value : Nat
deriving DecidableEq, Repr

/-- R144: what a slot in HOLDING holds; its count is the number of its records. -/
structure Take where
  origin : TakeOrigin
  records : List TakeRec
  length : Nat
deriving DecidableEq, Repr

/-- Section 8.3: the open transfer window. -/
structure Window where
  slot : Slot
  mode : WindowMode
  first : Nat
  last : Nat
  cursor : Nat
deriving DecidableEq, Repr

/-- R144, section 8.3: the Take Store. A slot is `none` when EMPTY, the window when closed. -/
structure TakeStore where
  slotA : Option Take
  slotB : Option Take
  window : Option Window
deriving DecidableEq, Repr

/-! ### Recorder -/

/-- R159: what the Recorder holds in RECORDING. `start` and `limit` are present in FREE mode. -/
structure RecRun where
  start : Option Time
  startTime : Nat
  lastDamper : Nat
  lastSostenuto : Nat
  lastSoft : Nat
  limit : Option Time
deriving DecidableEq, Repr

/-- R159: the target and clock mode of a recording; ARMED while `run` is absent, RECORDING while it is present. -/
structure RecJob where
  target : Slot
  mode : ClockMode
  run : Option RecRun
deriving DecidableEq, Repr

/-- R159: the Recorder, IDLE while it has no job. -/
structure Recorder where
  job : Option RecJob
deriving DecidableEq, Repr

/-! ### Player -/

/-- Section 10.6: the loop, with the pedal snapshot at its start and whether it is armed (R189). -/
structure Loop where
  start : Nat
  stop : Nat
  count : Nat
  passes : Nat
  damper : Nat
  sostenuto : Nat
  soft : Nat
  armed : Bool
deriving DecidableEq, Repr

/-- R173: what a Player that is not STOPPED does; a pause keeps whether it was taken from WAITING. -/
inductive PlayPhase where
  | playing
  | waiting
  | paused (fromWaiting : Bool)
deriving DecidableEq, Repr

/-- R172: the fields present while the Player is not STOPPED. `since` is the stage time at which the take time was last brought up to date (R174). -/
structure Session where
  phase : PlayPhase
  slot : Slot
  cursor : Nat
  time : Nat
  remainder : Nat
  since : Time
  due : Option Time
  loop : Option Loop
deriving DecidableEq, Repr

/-- R172: the player record, STOPPED while it has no session. Sets of keys are ascending lists. -/
structure Player where
  session : Option Session
  tempo : Nat
  splitKey : Nat
  muteLeft : Bool
  muteRight : Bool
  guide : GuideHand
  chordWindow : Nat
  damper : Nat
  sostenuto : Nat
  soft : Nat
  engaged : Bool
  keyDown : List Nat
  held : List Nat
  expected : List Nat
  consumed : List Nat
deriving DecidableEq, Repr

/-- R197: the Player after a power-on reset. -/
def Player.powerOn : Player :=
  { session := none, tempo := 100, splitKey := 40, muteLeft := false, muteRight := false, guide := .none
    chordWindow := 60, damper := 0, sostenuto := 0, soft := 0, engaged := false, keyDown := [], held := []
    expected := [], consumed := [] }

/-! ### Link -/

/-- R195: the fourth field of PLAYER_STATE, by the state entered. -/
inductive PlayerDetail where
  | playing
  | waiting (keys : List Nat)
  | paused (fromWaiting : Bool)
  | stopped
deriving DecidableEq, Repr

/-- R214: the reports and their fields. -/
inductive Report where
  | strike (key level flight : Nat) (again stale motion silent : Bool)
  | silentPress (key : Nat)
  | release (key : Nat) (sounded : Bool)
  | keyFault (key : Nat) (left : KeyState) (raw : Nat)
  | keyClear (key : Nat)
  | pedalValue (pedal value : Nat)
  | sostenutoOn (count : Nat)
  | sostenutoOff (count : Nat)
  | pedalFault (pedal raw : Nat)
  | pedalClear (pedal : Nat)
  | stale (key : Nat)
  | trimRecovered (key : Nat) (byFull : Bool)
  | calStart (group examined left : Nat)
  | calDone (group : Nat) (rejected : List Nat)
  | railState (state : RailState) (target : Option Stop) (cause : Option RailCause) (discarded : Bool)
      (lastStop : LastStop) (recovery : Bool)
  | railCancelled (state : RailState) (target : Option Stop)
  | railAbandoned (target : Option Stop) (state : RailState) (cause : Option RailCause)
  | steal (voice : Nat) (oldSource : Source) (oldKey attenuation : Nat) (borrowed : Bool) (newSource : Source)
      (newKey : Nat)
  | toneApplied (tone : Nat)
  | playerState (slot : Slot) (ms : Nat) (detail : PlayerDetail)
  | playEnd (slot : Slot) (ms : Nat)
  | loopJump (start stop count passes : Nat)
  | mark (number time : Nat)
  | guideMiss (key left : Nat)
  | recArmed (slot : Slot) (mode : ClockMode)
  | recStarted (slot : Slot) (mode : ClockMode) (time opening : Nat)
  | recStopped (slot : Slot) (cause : StopCause) (count length : Nat) (holding : Bool)
  | started (soft : Bool)
  | jackIn
  | jackOut
  | wakeKey (key : Nat)
  | awake (source : WakeSource)
  | overrun (count : Nat)
deriving DecidableEq, Repr

/-- A report of the queue with the stage time it carries (R214). -/
structure QueuedReport where
  time : Time
  report : Report
deriving DecidableEq, Repr

/-- R211: a reply: its frame's kind and tag, its result code and the fields after it. -/
structure Reply where
  kind : Byte
  tag : Byte
  code : ResultCode
  fields : List Byte
deriving DecidableEq, Repr

/-- R201: what the transmit line carries. -/
inductive Sending where
  | reply (r : Reply)
  | busy (r : Reply)
  | report (q : QueuedReport)
deriving DecidableEq, Repr

/-- R198: the receiver, with the bytes of the frame in progress. -/
inductive Receiver where
  | hunting
  | awaitLength
  | inBody (length : Byte) (taken : List Byte)
deriving DecidableEq, Repr

/-- R199: a complete frame: its length byte, and its kind, tag, body and check bytes. -/
structure RxFrame where
  length : Byte
  bytes : List Byte
deriving DecidableEq, Repr

/-- R199: an entry of the busy list. -/
structure BusyEntry where
  tag : Byte
  kind : Byte
deriving DecidableEq, Repr

/-- R198 to R203, R206, R209: the Link. Timers counted in frames are frames of the output frame clock.
`replies` holds the replies waiting for the line, oldest first (log 5); `resetDue` is set when the OK reply to RESET has been transmitted (R206). -/
structure Link where
  state : LinkState
  wakeSource : Option WakeSource
  wakeTimer : Option Nat
  receiver : Receiver
  rxTimer : Option Nat
  input : List RxFrame
  busy : List BusyEntry
  replies : List Reply
  line : Option Sending
  resetDue : Bool
  queue : List QueuedReport
  mask : Byte
  overrun : Bool
  dropCount : Nat
deriving DecidableEq, Repr

/-- R203: the report class mask after a reset: RAIL and SYSTEM. -/
def resetMask : Byte := 0x88#8

/-- R206, R207: the Link after a reset, its report queue holding STARTED. -/
def Link.atReset (soft : Bool) (time : Time) : Link :=
  { state := .active, wakeSource := none, wakeTimer := none, receiver := .hunting, rxTimer := none
    input := [], busy := [], replies := [], line := none, resetDue := false
    queue := [{ time := time, report := .started soft }], mask := resetMask, overrun := false, dropCount := 0 }

/-! ### The controller and the machine -/

/-- The twelve blocks of the controller, and whether it is held in power-on reset (R207). -/
structure Controller where
  clock : StageClock
  thresholds : Thresholds
  keys : List KeyRec
  curves : Curves
  trim : TrimEngine
  pedals : PedalUnit
  rail : Rail
  pool : VoicePool
  phones : HeadphonePath
  takes : TakeStore
  recorder : Recorder
  player : Player
  link : Link
  inReset : Bool
deriving DecidableEq, Repr

/-- R43: the stage time of a group's first round expiry, for an interval in µs, after a power-on reset at stage time 0. -/
def firstRound (interval g : Nat) : Time := BitVec.ofNat 32 (interval + g * interval / 11)

/-- R58, R62: the Trim Engine after a power-on reset, with the reference already granted to group 0, whose eight UNCAL keys are examined. -/
def TrimEngine.powerOn : TrimEngine :=
  { interval := 8, pullIn := true
    rounds := (List.range 11).map fun g => some (firstRound 8000000 g)
    units := { phase := .suspended, passedOver := [] } :: List.replicate 10 { phase := .idle, passedOver := [] }
    fifo := [1, 2, 3, 4, 5, 6, 7, 8, 9, 10]
    cal := some
      { group := 0, start := 0#32, rejoin := false
        exams := (List.range 8).map fun i =>
          { key := i + 1, positional := false, readings := Readings.none, allRest := true } } }

/-- Every block at its power-on values (R1, R5, R27, R37, R62, R80, R105, R131, R143, R158, R171, R197, R207), with the levels of the two switch inputs.
The CAL_START report of the grant to group 0 is lost, its class being disabled. -/
def Controller.powerOn (clearClosed engagedClosed : Bool) : Controller :=
  { clock := { time := 0#32, suspended := false }
    thresholds := { rest := 32, damp := 160, lift := 560, strike := 920 }
    keys := List.replicate 88 KeyRec.powerOn
    curves := { acoustic := defaultCurve, silent := defaultCurve }
    trim := TrimEngine.powerOn
    pedals := { recs := List.replicate 3 PedalRec.powerOn, engaged := false, hold := none, sostenuto := [], softCut := 12 }
    rail := Rail.placed clearClosed engagedClosed false
    pool :=
      { voices := List.replicate 64 none, liveReserve := 48, playbackLends := true, liveLends := false, tone := 0
        pendingTone := none, layer := false, damperLimit := 68, decay := powerOnDecay }
    phones := HeadphonePath.atReset 0 false
    takes := { slotA := none, slotB := none, window := none }
    recorder := { job := none }
    player := Player.powerOn
    link := Link.atReset false 0#32
    inReset := false }

/-- The machine: the controller, and the queue of commands that wait, first in first out. -/
structure State where
  ctl : Controller
  pending : List Instr
deriving DecidableEq, Repr

/-- Why the machine stops with a fault. -/
inductive Fault where
  /-- Raised by a command that names a key outside 1..88, which has no record (R8). Safe: the model stops where no event can occur. -/
  | noSuchKey
  /-- Raised by a command that names a group outside 0..10 (R3). Safe: the model stops where no event can occur. -/
  | noSuchGroup
  /-- Raised by a command that names a pedal outside 0..2 (R63). Safe: the model stops where no event can occur. -/
  | noSuchPedal
  /-- Raised by a command that names a voice outside 0..63 (R107). Safe: the model stops where no event can occur. -/
  | noSuchVoice
  /-- Raised by a sample whose raw reading is above 4095, which no sensor gives (R3, R64). Safe: the model stops where no event can occur. -/
  | noSuchReading
deriving DecidableEq, Repr

/-- Why a command is refused. -/
inductive Refusal where
  /-- Raised by an arm of exec whose command has no meaning yet. Safe: the model stops. -/
  | notModelled (mnemonic : String)
deriving DecidableEq, Repr

/-- DESIGN CHOICE (log 1): right after a power-on reset with the clear switch closed and the engaged switch open; no command waits. -/
def State.reset : State := { ctl := Controller.powerOn true false, pending := [] }

end Sys2Proof.Machine
end

