-- ==== Sys2Proof/Machine/Operands.lean ====
section
/-! DEFINITION. The byte forms of fields: how the values of requests, replies and reports lie in the bytes of a frame (R211, R212, R213, R214). -/

namespace Sys2Proof.Machine

/-! ### Fields of two or more bytes -/

/-- A number in `count` bytes, the lowest byte first (section 11.7). -/
def bytesLE (count n : Nat) : List Byte :=
  (List.range count).map fun i => BitVec.ofNat 8 (n / 256 ^ i)

/-- The number that bytes carry, the lowest byte first (section 11.7). -/
def numberLE (bs : List Byte) : Nat :=
  bs.foldr (fun b acc => b.toNat + 256 * acc) 0

/-- A field of `count` bytes whose value is absent: 0xFF in each byte (R212). -/
def absent (count : Nat) : List Byte := List.replicate count 0xFF#8

/-- A field of `count` bytes that may be absent (R212). -/
def optLE (count : Nat) (n : Option Nat) : List Byte :=
  match n with
  | some v => bytesLE count v
  | none => absent count

/-- A signed number in two bytes, in two's complement (section 11.7). -/
def signed2 (i : Int) : List Byte := bytesLE 2 (i % 65536).toNat

/-- The signed value of a byte, in two's complement (section 11.7). -/
def signedByte (b : Byte) : Int := b.toInt

/-- A flag byte that the controller sends: 0 for clear or off (section 11.7).
DESIGN CHOICE (log 36): section 11.7 lets any other value mean set or on; a set flag is sent as 1. -/
def flagByte (b : Bool) : List Byte := [if b then 1#8 else 0#8]

/-- A stage time, in four bytes (R211). -/
def timeBytes (t : Time) : List Byte := bytesLE 4 t.toNat

/-- A byte field of a value that has a code. -/
def codeByte (n : Nat) : List Byte := bytesLE 1 n

/-- A set of keys as a bitmap of 11 bytes: key k is bit (k − 1) modulo 8 of byte floor((k − 1) / 8) (R196). -/
def keyBitmap (keys : List Nat) : List Byte :=
  (List.range 11).map fun i =>
    (List.range 8).foldl (fun (acc : Byte) j => if keys.contains (8 * i + j + 1) then acc ||| (1#8 <<< j) else acc) 0#8

/-! ### Enumerated values (R211, R212) -/

def KeyState.code : KeyState → Nat
  | .rest => 0 | .shallow => 1 | .held => 2 | .armed => 3 | .struck => 4 | .uncal => 5 | .fault => 6 | .muted => 7

def RailState.code : RailState → Nat
  | .clear => 0 | .engaged => 1 | .waitQuiet => 2 | .engaging => 3 | .disengaging => 4 | .settling => 5
  | .unplaced => 6 | .fault => 7

def RailCause.code : RailCause → Nat
  | .travelTimeout => 0 | .stall => 1 | .switchConflict => 2 | .lostPosition => 3

/-- The code of NOT_QUIET, the one cause that RAIL_ABANDONED carries (R89, R212). -/
def notQuietCode : Nat := 4

def Stop.code : Stop → Nat
  | .clear => 0 | .engaged => 1

def LastStop.code : LastStop → Nat
  | .clear => 0 | .engaged => 1 | .none => 2

def Curve.code : Curve → Nat
  | .acoustic => 0 | .silent => 1

def Slot.code : Slot → Nat
  | .a => 0 | .b => 1

def Source.code : Source → Nat
  | .live => 0 | .playback => 1

def ClockMode.code : ClockMode → Nat
  | .free => 0 | .sync => 1

def WindowMode.code : WindowMode → Nat
  | .read => 0 | .write => 1

def PlayerState.code : PlayerState → Nat
  | .stopped => 0 | .playing => 1 | .waiting => 2 | .paused => 3

def GuideHand.code : GuideHand → Nat
  | .none => 0 | .left => 1 | .right => 2 | .both => 3

def RecState.code : RecState → Nat
  | .idle => 0 | .armed => 1 | .recording => 2

def StopCause.code : StopCause → Nat
  | .request => 0 | .full => 1 | .timeLimit => 2 | .playerEnd => 3

def OutputState.code : OutputState → Nat
  | .off => 0 | .rising => 1 | .on => 2 | .falling => 3

def LinkState.code : LinkState → Nat
  | .active => 0 | .standby => 1 | .waking => 2

def BusyReason.code : BusyReason → Nat
  | .player => 0 | .recorder => 1 | .rail => 2 | .calibration => 3

def ResultCode.code : ResultCode → Nat
  | .ok => 0x00 | .accepted => 0x01 | .already => 0x02 | .badKind => 0x10 | .badLength => 0x11
  | .badValue => 0x12 | .badState => 0x13 | .inUse => 0x14 | .order => 0x15 | .full => 0x16
  | .standby => 0x17 | .linkBusy => 0x18 | .badCheck => 0x19

def ReportClass.code : ReportClass → Nat
  | .key => 0 | .pedal => 1 | .trim => 2 | .rail => 3 | .voice => 4 | .player => 5 | .recorder => 6 | .system => 7

def RecKind.code : RecKind → Nat
  | .strike => 1 | .damperUp => 2 | .damperDown => 3 | .pedal => 4 | .mark => 5

/-- The source and key code of what began a wake (R214, AWAKE). -/
def WakeSource.bytes : WakeSource → List Byte
  | .request => [0#8, 0#8]
  | .key k => [1#8, BitVec.ofNat 8 k]
  | .jack => [2#8, 0#8]

/-! ### Values of request fields (R212) -/

def curveOf : Nat → Option Curve
  | 0 => some .acoustic | 1 => some .silent | _ => none

def stopOf : Nat → Option Stop
  | 0 => some .clear | 1 => some .engaged | _ => none

def slotOf : Nat → Option Slot
  | 0 => some .a | 1 => some .b | _ => none

def windowModeOf : Nat → Option WindowMode
  | 0 => some .read | 1 => some .write | _ => none

def clockModeOf : Nat → Option ClockMode
  | 0 => some .free | 1 => some .sync | _ => none

def guideOf : Nat → Option GuideHand
  | 0 => some .none | 1 => some .left | 2 => some .right | 3 => some .both | _ => none

/-- The kind byte of a take record (R213). -/
def recKindOf : Nat → Option RecKind
  | 1 => some .strike | 2 => some .damperUp | 3 => some .damperDown | 4 => some .pedal | 5 => some .mark
  | _ => none

/-- The value ALL of CAL_FULL (R212). -/
def allGroups : Nat := 0xFF

/-! ### Take records (R213) -/

/-- The six bytes of a take record. -/
def TakeRec.bytes (r : TakeRec) : List Byte :=
  bytesLE 3 r.time ++ codeByte r.kind.code ++ codeByte r.subject ++ codeByte r.value

/-- The record that six bytes carry, its fields not yet checked. -/
def rawRecordOf (bs : List Byte) : RawRecord :=
  { time := numberLE (bs.take 3), kind := numberLE ((bs.drop 3).take 1), subject := numberLE ((bs.drop 4).take 1)
    value := numberLE ((bs.drop 5).take 1) }

/-- The first `n` take records of a body. -/
def rawRecordsOf : (n : Nat) → List Byte → List RawRecord
  | 0, _ => []
  | n + 1, bs => rawRecordOf (bs.take 6) :: rawRecordsOf n (bs.drop 6)

/-- The first `n` two-byte numbers of a body. -/
def wordsOf : (n : Nat) → List Byte → List Nat
  | 0, _ => []
  | n + 1, bs => numberLE (bs.take 2) :: wordsOf n (bs.drop 2)

end Sys2Proof.Machine
end

