-- ==== Sys2Proof/Machine/Reports.lean ====
section
/-! DEFINITION. The bytes of report, reply and request frames (R211, R214). -/

namespace Sys2Proof.Machine

/-- The class of a report (R214). -/
def Report.class : Report → ReportClass
  | .strike .. | .silentPress .. | .release .. | .keyFault .. | .keyClear .. => .key
  | .pedalValue .. | .sostenutoOn .. | .sostenutoOff .. | .pedalFault .. | .pedalClear .. => .pedal
  | .stale .. | .trimRecovered .. | .calStart .. | .calDone .. => .trim
  | .railState .. | .railCancelled .. | .railAbandoned .. => .rail
  | .steal .. | .toneApplied .. => .voice
  | .playerState .. | .playEnd .. | .loopJump .. | .mark .. | .guideMiss .. => .player
  | .recArmed .. | .recStarted .. | .recStopped .. => .recorder
  | .started .. | .jackIn | .jackOut | .wakeKey .. | .awake .. | .overrun .. => .system

/-- The report code of a report within its class (R214). -/
def Report.code : Report → Nat
  | .strike .. | .pedalValue .. | .stale .. | .railState .. | .steal .. | .playerState .. | .recArmed .. | .started .. => 1
  | .silentPress .. | .sostenutoOn .. | .trimRecovered .. | .railCancelled .. | .toneApplied .. | .playEnd ..
  | .recStarted .. | .jackIn => 2
  | .release .. | .sostenutoOff .. | .calStart .. | .railAbandoned .. | .loopJump .. | .recStopped .. | .jackOut => 3
  | .keyFault .. | .pedalFault .. | .calDone .. | .mark .. | .wakeKey .. => 4
  | .keyClear .. | .pedalClear .. | .guideMiss .. | .awake .. => 5
  | .overrun .. => 6

/-- The flags of a STRIKE report: REPEAT 1, STALE 2, MOTION 4, SILENT curve 8 (R214). -/
def strikeFlags (again stale motion silent : Bool) : Nat :=
  (if again then 1 else 0) + (if stale then 2 else 0) + (if motion then 4 else 0) + (if silent then 8 else 0)

/-- The byte of a loop's passes done (R188, R214; log 19). -/
def passesByte (passes : Nat) : List Byte :=
  if passes < 256 then codeByte passes else [Config.widePasses passes]

/-- The state and fourth field of PLAYER_STATE (R214). -/
def PlayerDetail.state : PlayerDetail → PlayerState
  | .playing => .playing | .waiting _ => .waiting | .paused _ => .paused | .stopped => .stopped

def PlayerDetail.bytes : PlayerDetail → List Byte
  | .playing => [0#8]
  | .waiting keys => codeByte keys.length ++ keys.flatMap codeByte
  | .paused fromWaiting => codeByte (if fromWaiting then PlayerState.waiting.code else PlayerState.playing.code)
  | .stopped => codeByte StopCause.request.code

/-- The fields of a report after its code and stage time (R214). -/
def Report.fields : Report → List Byte
  | .strike key level flight again isStale motion silent =>
      codeByte key ++ codeByte level ++ bytesLE 4 flight ++ codeByte (strikeFlags again isStale motion silent)
  | .silentPress key => codeByte key
  | .release key sounded => codeByte key ++ flagByte sounded
  | .keyFault key left raw => codeByte key ++ codeByte left.code ++ bytesLE 2 raw
  | .keyClear key => codeByte key
  | .pedalValue pedal value => codeByte pedal ++ codeByte value
  | .sostenutoOn count => codeByte count
  | .sostenutoOff count => codeByte count
  | .pedalFault pedal raw => codeByte pedal ++ bytesLE 2 raw
  | .pedalClear pedal => codeByte pedal
  | .stale key => codeByte key
  | .trimRecovered key byFull => codeByte key ++ flagByte byFull
  | .calStart group examined left => codeByte group ++ codeByte examined ++ codeByte left
  | .calDone group rejected => codeByte group ++ codeByte rejected.length ++ rejected.flatMap codeByte
  | .railState state target cause discarded lastStop recovery =>
      codeByte state.code ++ optLE 1 (target.map Stop.code) ++ optLE 1 (cause.map RailCause.code)
        ++ flagByte discarded ++ codeByte lastStop.code ++ flagByte recovery
  | .railCancelled state target => codeByte state.code ++ optLE 1 (target.map Stop.code)
  | .railAbandoned target state cause =>
      codeByte notQuietCode ++ optLE 1 (target.map Stop.code) ++ codeByte state.code
        ++ optLE 1 (cause.map RailCause.code)
  | .steal voice oldSource oldKey attenuation borrowed newSource newKey =>
      codeByte voice ++ codeByte oldSource.code ++ codeByte oldKey ++ bytesLE 2 attenuation ++ flagByte borrowed
        ++ codeByte newSource.code ++ codeByte newKey
  | .toneApplied tone => codeByte tone
  | .playerState slot ms detail => codeByte detail.state.code ++ codeByte slot.code ++ bytesLE 3 ms ++ detail.bytes
  | .playEnd slot ms => codeByte slot.code ++ bytesLE 3 ms
  | .loopJump start stop count passes => bytesLE 3 start ++ bytesLE 3 stop ++ codeByte count ++ passesByte passes
  | .mark number time => codeByte number ++ bytesLE 3 time
  | .guideMiss key left => codeByte key ++ codeByte left
  | .recArmed slot mode => codeByte slot.code ++ codeByte mode.code
  | .recStarted slot mode time opening =>
      codeByte slot.code ++ codeByte mode.code ++ bytesLE 3 time ++ codeByte opening
  | .recStopped slot cause count length holding =>
      codeByte slot.code ++ codeByte cause.code ++ bytesLE 2 count ++ bytesLE 3 length
        ++ [Config.slotStateCode holding]
  | .started soft => flagByte soft
  | .jackIn => []
  | .jackOut => []
  | .wakeKey key => codeByte key
  | .awake source => source.bytes
  | .overrun count => bytesLE 2 count

/-- The body of a report: its code, its stage time and its fields (R214). -/
def QueuedReport.body (q : QueuedReport) : List Byte :=
  codeByte q.report.code ++ timeBytes q.time ++ q.report.fields

/-- The body of a reply: its result code and its fields (R211). -/
def Reply.body (r : Reply) : List Byte := codeByte r.code.code ++ r.fields

/-- The sum of bytes modulo 256 (R198). -/
def sumBytes (bs : List Byte) : Byte := bs.foldl (· + ·) 0#8

/-- The sync byte (R198). -/
def syncByte : Byte := 0xC3#8

/-- A whole frame: sync, length, kind, tag, body, and the check byte that makes the sum of all but the sync 0 modulo 256 (R211). -/
def frameBytes (kind tag : Byte) (body : List Byte) : List Byte :=
  let counted := BitVec.ofNat 8 (body.length + 2) :: kind :: tag :: body
  syncByte :: counted ++ [- sumBytes counted]

/-- The bytes of what the transmit line carries (R201, R211). -/
def Sending.bytes : Sending → List Byte
  | .reply r => frameBytes r.kind r.tag r.body
  | .busy r => frameBytes r.kind r.tag r.body
  | .report q => frameBytes (BitVec.ofNat 8 (0x70 + q.report.class.code)) 0#8 q.body

end Sys2Proof.Machine
end

