-- ==== Sys2Proof/Machine/Ops.lean ====
section
/-! DEFINITION. The operations every block shares: stage-time arithmetic (R1, R2), the records of keys, groups, pedals, voices and slots, making a report (R202), answering a request (R200), settling a slot and closing the transfer window (R146, R149). -/

namespace Sys2Proof.Machine

/-! ### Stage time (R1, R2) -/

/-- The stage time `us` microseconds after `t`, modulo 2^32. -/
def after (t : Time) (us : Nat) : Time := t + BitVec.ofNat 32 us

/-- The stage time elapsed from `t` to `now`, modulo 2^32 (R1). -/
def elapsed (now t : Time) : Nat := (now - t).toNat

/-- A quotient rounded up. -/
def divUp (a b : Nat) : Nat := (a + b - 1) / b

/-- R2: the stage time has reached a deadline. DEDUCED (log 6): a deadline less than 2^31 µs back counts as reached. -/
def reached (now deadline : Time) : Bool := decide (elapsed now deadline < 2147483648)

namespace Controller

/-- The stage time (R1). -/
def now (c : Controller) : Time := c.clock.time

/-- R2: a timer counted in µs expires: it runs, its deadline is reached, and the Stage Clock is not suspended. -/
def expired (c : Controller) (timer : Option Time) : Bool :=
  match timer with
  | some d => !c.clock.suspended && reached c.now d
  | none => false

/-- A timer counted in output frames expires (R2, R133). -/
def frameReached (c : Controller) (timer : Option Nat) : Bool :=
  match timer with
  | some f => decide (f ≤ c.phones.frame)
  | none => false

end Controller

/-! ### Running a command -/

/-- What a command answers. -/
abbrev Result := Host.Outcome State Fault Refusal

/-- A command acts on the controller and leaves the queue as it is. Held in power-on reset, the controller takes nothing (R207; log 20). -/
def State.run (s : State) (f : Controller → Controller) : Result :=
  if s.ctl.inReset then .next s else .next { s with ctl := f s.ctl }

/-- A command that names a key, 1..88 (R8). -/
def State.runKey (s : State) (k : Nat) (f : Controller → Controller) : Result :=
  if 1 ≤ k ∧ k ≤ 88 then s.run f else .fault .noSuchKey

/-- A sample with its raw reading, 0..4095 (R3, R64). -/
def runReading (raw : Nat) (run : Result) : Result :=
  if raw < 4096 then run else .fault .noSuchReading

/-! ### Key sets -/

/-- Key k joins an ascending set, once. -/
def joinKey (k : Nat) : List Nat → List Nat
  | [] => [k]
  | x :: xs => if k < x then k :: x :: xs else if k = x then x :: xs else x :: joinKey k xs

/-- Key k leaves a set. -/
def leaveKey (k : Nat) (keys : List Nat) : List Nat := keys.filter fun x => x != k

/-! ### Reports (R202) -/

/-- The bit of a class in the report class mask (R203). -/
def classEnabled (mask : Byte) (cls : ReportClass) : Bool := mask.getLsbD cls.code

/-- R202: the most reports the queue holds. -/
def queueRoom : Nat := 64

/-- R202: place a report in the queue, lose it, or drop it with the overrun mark set. -/
def Link.place (l : Link) (q : QueuedReport) : Link :=
  if classEnabled l.mask q.report.class then
    if l.queue.length < queueRoom then { l with queue := l.queue ++ [q] }
    else { l with overrun := true, dropCount := if l.dropCount < 65535 then l.dropCount + 1 else 65535 }
  else l

namespace Controller

/-- Make a report that carries a stage time of its own (R214). -/
def reportAt (c : Controller) (t : Time) (r : Report) : Controller :=
  { c with link := c.link.place { time := t, report := r } }

/-- Make a report that carries the stage time at which it is made (R214). -/
def report (c : Controller) (r : Report) : Controller := c.reportAt c.now r

/-! ### Keys, groups and pedals -/

/-- The record of key k, 1..88 (R8). -/
def key (c : Controller) (k : Nat) : KeyRec := (c.keys[k - 1]?).getD KeyRec.powerOn

/-- Replace the record of key k. -/
def setKey (c : Controller) (k : Nat) (r : KeyRec) : Controller := { c with keys := c.keys.set (k - 1) r }

/-- Change the record of key k. -/
def modKey (c : Controller) (k : Nat) (f : KeyRec → KeyRec) : Controller := c.setKey k (f (c.key k))

/-- The trim unit of group g (R45). -/
def trimUnit (c : Controller) (g : Nat) : TrimUnit :=
  (c.trim.units[g]?).getD { phase := .idle, passedOver := [] }

/-- Replace the trim unit of group g. -/
def setUnit (c : Controller) (g : Nat) (u : TrimUnit) : Controller :=
  { c with trim := { c.trim with units := c.trim.units.set g u } }

/-- The record of pedal p, 0..2 (R63). -/
def pedal (c : Controller) (p : Nat) : PedalRec := (c.pedals.recs[p]?).getD PedalRec.powerOn

/-- Replace the record of pedal p. -/
def setPedal (c : Controller) (p : Nat) (r : PedalRec) : Controller :=
  { c with pedals := { c.pedals with recs := c.pedals.recs.set p r } }

/-- The note of voice i, `none` when the voice is FREE (R107). -/
def voice (c : Controller) (i : Nat) : Option Note := (c.pool.voices[i]?).join

/-- Replace voice i. -/
def setVoice (c : Controller) (i : Nat) (v : Option Note) : Controller :=
  { c with pool := { c.pool with voices := c.pool.voices.set i v } }

/-! ### Take slots (R144, R146) -/

/-- What a slot holds (R144). -/
def take (c : Controller) : Slot → Option Take
  | .a => c.takes.slotA
  | .b => c.takes.slotB

/-- Replace what a slot holds. -/
def setTake (c : Controller) (s : Slot) (t : Option Take) : Controller :=
  match s with
  | .a => { c with takes := { c.takes with slotA := t } }
  | .b => { c with takes := { c.takes with slotB := t } }

/-- The records of a slot, none in EMPTY. -/
def records (c : Controller) (s : Slot) : List TakeRec :=
  match c.take s with
  | some t => t.records
  | none => []

/-- The count of a slot, 0 in EMPTY (R144). -/
def count (c : Controller) (s : Slot) : Nat := (c.records s).length

/-- The length of a slot in ms, 0 in EMPTY (R144). -/
def length (c : Controller) (s : Slot) : Nat :=
  match c.take s with
  | some t => t.length
  | none => 0

end Controller

/-- R144: the most records a slot holds. -/
def slotRoom : Nat := 16384

/-- The time of the last of a list of records, 0 when there is none. -/
def lastTime (rs : List TakeRec) : Nat :=
  match rs.getLast? with
  | some r => r.time
  | none => 0

/-- R146: the take a slot holds after a use that filled it. -/
def settledTake (origin : TakeOrigin) (rs : List TakeRec) (length : Nat) : Option Take :=
  if rs.isEmpty then none else some { origin := origin, records := rs, length := length }

/-- R149: close the transfer window; a WRITE window settles its slot. -/
def Controller.closeWindow (c : Controller) : Controller :=
  match c.takes.window with
  | none => c
  | some w =>
    let c := { c with takes := { c.takes with window := none } }
    match w.mode with
    | .read => c
    | .write => c.setTake w.slot (settledTake .uploaded (c.records w.slot) (lastTime (c.records w.slot)))

/-! ### Answering a request (R200, R211) -/

/-- What the rule of a request answers: its result code and the fields after it. -/
structure Answer where
  code : ResultCode
  fields : List Byte
deriving DecidableEq, Repr

/-- An answer of a result code alone. -/
def bare (code : ResultCode) : Answer := { code := code, fields := [] }

/-- The rule of a request: the controller and the answer it leaves. -/
abbrev Handler := Controller → Controller × Answer

/-- R212: the kinds of the requests that leave an open window as it is (R149). -/
def keepsWindow (kind : Byte) : Bool := kind == 0x29#8 || kind == 0x2A#8

/-- R200, step 5: the kinds answered in standby and while waking: IDENT, STATUS and WAKE. -/
def answeredAsleep (kind : Byte) : Bool := kind == 0x01#8 || kind == 0x02#8 || kind == 0x06#8

/-- R211: put the reply to a request of a kind where it waits for the line. -/
def Controller.pushReply (c : Controller) (kind tag : Byte) (a : Answer) : Controller :=
  { c with link :=
    { c.link with replies := c.link.replies ++ [{ kind := kind, tag := tag, code := a.code, fields := a.fields }] } }

/-- What a reply STANDBY or BAD_LENGTH to a request carries after its result code: the fields that the request's rule gives every reply, or every refused request's reply (log 18). -/
abbrev Shown := Controller → List Byte

/-- The replies STANDBY and BAD_LENGTH to a request whose rule gives them no field (log 18). -/
def noFields : Shown := fun _ => []

/-- R200, steps 3, 5 and 6: the window is closed, a controller in standby or waking answers STANDBY, and any other hands the request to its rule. The reply's kind is the request's plus 0x80 (R211). -/
def Controller.handle (kind tag : Byte) (shown : Shown) (h : Handler) (c : Controller) : Controller :=
  let c := if keepsWindow kind then c else c.closeWindow
  if c.link.state ≠ .active ∧ answeredAsleep kind = false then
    c.pushReply (kind + 0x80#8) tag { code := .standby, fields := shown c }
  else
    let r := h c
    r.1.pushReply (kind + 0x80#8) tag r.2

/-- R200, step 4: the window is closed, and a request whose body length is wrong is answered BAD_LENGTH. -/
def Controller.refuseLength (kind tag : Byte) (shown : Shown) (c : Controller) : Controller :=
  let c := if keepsWindow kind then c else c.closeWindow
  c.pushReply (kind + 0x80#8) tag { code := .badLength, fields := shown c }

end Sys2Proof.Machine
end

