-- ==== Sys2Proof/Machine/Flags.lean ====
section
/-! DEFINITION. The indications the blocks read of one another: quiet (R23), motor running (R82), live path (R99), the curve in use (R38), damper zones (R68), damper up and sostenuto by source (R119), the conditions of a trim unit, of the grant and of a motion (R45, R53, R88), used counts (R110) and the users of a slot (R147). -/

namespace Sys2Proof.Machine

/-- The keys 1..88. -/
def allKeys : List Nat := (List.range 88).map (· + 1)

/-- The keys 8g+1 to 8g+8 of group g (R3). -/
def groupKeys (g : Nat) : List Nat := (List.range 8).map (8 * g + · + 1)

/-- The group of key k (R3). -/
def groupOf (k : Nat) : Nat := (k - 1) / 8

/-- Section 1.5: the states in which the damper of a key is up. -/
def KeyState.up : KeyState → Bool
  | .held | .armed | .struck => true
  | .rest | .shallow | .uncal | .fault | .muted => false

/-- R9: the five positional states. -/
def KeyState.positional : KeyState → Bool
  | .rest | .shallow | .held | .armed | .struck => true
  | .uncal | .fault | .muted => false

/-- R23: the states that keep the keyboard from being quiet. -/
def KeyState.disturbs : KeyState → Bool
  | .shallow | .held | .armed | .struck => true
  | .rest | .uncal | .fault | .muted => false

/-- R18, section 4.2: a raw reading in range. -/
def inRange (raw : Nat) : Bool := decide (16 ≤ raw ∧ raw ≤ 4079)

/-- R68: the zone of a damper pedal value. -/
def zoneOf (p : Nat) : Zone :=
  if p < 64 then .down else if p < 192 then .half else .lifted

namespace Controller

/-- R23: the quiet indication. -/
def quiet (c : Controller) : Bool := c.keys.all fun r => !r.state.disturbs

/-- The keys whose dampers are up, ascending (R71, R162). -/
def upKeys (c : Controller) : List Nat := allKeys.filter fun k => (c.key k).state.up

/-- How many keys are in a state (R205). -/
def countKeys (c : Controller) (p : KeyRec → Bool) : Nat := (c.keys.filter p).length

/-- R82: the motor-running indication. -/
def motorRunning (c : Controller) : Bool := c.rail.motor != .off

/-- R99: the live path is open unless the clear switch is closed, the motor off and layer off. -/
def livePath (c : Controller) : Bool :=
  !(c.rail.clearSwitch.closed && !c.motorRunning && !c.pool.layer)

/-- R38: the curve a strike uses. -/
def curveInUse (c : Controller) : Curve :=
  match c.rail.lastStop with
  | .engaged => .silent
  | .clear | .none => .acoustic

/-- A FULL calibration of group g is in progress (R53). -/
def calibrating (c : Controller) (g : Nat) : Bool :=
  match c.trim.cal with
  | some cal => cal.group == g
  | none => false

/-- R45: a condition that suspends the trim unit of group g holds. -/
def unitSuspended (c : Controller) (g : Nat) : Bool :=
  c.motorRunning || c.calibrating g || c.link.state != .active

/-- R53: the conditions of a grant other than a waiting group. -/
def grantOpen (c : Controller) : Bool :=
  c.trim.cal.isNone
    && (match c.rail.state with
        | .engaging | .disengaging | .settling => false
        | .clear | .engaged | .waitQuiet | .unplaced | .fault => true)
    && c.link.state == .active

/-- R88: the conditions to start a motion. -/
def motionOpen (c : Controller) : Bool :=
  c.quiet && c.trim.cal.isNone && c.link.state == .active

/-- R172: the state of the Player. -/
def playerState (c : Controller) : PlayerState :=
  match c.player.session with
  | none => .stopped
  | some s =>
    match s.phase with
    | .playing => .playing
    | .waiting => .waiting
    | .paused _ => .paused

/-- R159: the state of the Recorder. -/
def recState (c : Controller) : RecState :=
  match c.recorder.job with
  | none => .idle
  | some j => if j.run.isSome then .recording else .armed

/-- A SYNC recording is in progress (R187, R188). -/
def syncRecording (c : Controller) : Bool :=
  match c.recorder.job with
  | some j => j.mode == .sync
  | none => false

/-- R147: the Recorder uses a slot. -/
def recorderUses (c : Controller) (s : Slot) : Bool :=
  match c.recorder.job with
  | some j => j.target == s
  | none => false

/-- R147: the Player uses a slot. -/
def playerUses (c : Controller) (s : Slot) : Bool :=
  match c.player.session with
  | some p => p.slot == s
  | none => false

/-- R119: the damper of key k is up in a source. -/
def damperUp (c : Controller) : Source → Nat → Bool
  | .live, k => (c.key k).state.up
  | .playback, k => c.player.keyDown.contains k

/-- R119: key k is in the sostenuto set of a source. -/
def inSostenuto (c : Controller) : Source → Nat → Bool
  | .live, k => c.pedals.sostenuto.contains k
  | .playback, k => c.player.held.contains k

/-- R119: the damper value of a source. -/
def damperValue (c : Controller) : Source → Nat
  | .live => (c.pedal 0).value
  | .playback => c.player.damper

/-- R110: the used count of a partition. -/
def used (c : Controller) (p : Source) : Nat :=
  (c.pool.voices.filter fun v => match v with | some n => n.owner == p | none => false).length

/-- R110: the reserve of a partition. -/
def reserve (c : Controller) : Source → Nat
  | .live => c.pool.liveReserve
  | .playback => 64 - c.pool.liveReserve

/-- R110: a partition lends its unused reserve to the other. -/
def lends (c : Controller) : Source → Bool
  | .live => c.pool.liveLends
  | .playback => c.pool.playbackLends

/-- Every voice of the pool is FREE (R125). -/
def poolEmpty (c : Controller) : Bool := c.pool.voices.all Option.isNone

/-- R135: the output is wanted on. -/
def outputWanted (c : Controller) : Bool :=
  c.phones.enable && c.phones.jackPresent && c.link.state == .active && decide (0 < c.phones.master.setting)

end Controller

/-- The other partition. -/
def Source.other : Source → Source
  | .live => .playback
  | .playback => .live

end Sys2Proof.Machine
end

