-- ==== Sys2Proof/Machine/Link.lean ====
section
/-! DEFINITION. The Link (chapter 11): reception, the transmit line and its arbiter, the beginning of a wake, and the requests IDENT, STATUS, REPORTS, RESET and WAKE. -/

namespace Sys2Proof.Machine

/-! ### Reception (R198, R199) -/

/-- R199: the most frames the input queue holds, and the most entries the busy list holds. -/
def inputRoom : Nat := 4

/-- R199: a complete frame joins the input queue, or leaves an entry in the busy list, or is discarded. -/
def Link.frameComplete (l : Link) (f : RxFrame) : Link :=
  if l.input.length < inputRoom then { l with input := l.input ++ [f] }
  else if l.busy.length < inputRoom then
    { l with busy := l.busy ++ [{ tag := f.bytes.getD 1 0#8, kind := f.bytes.getD 0 0#8 }] }
  else l

/-- R198: the receiver hunts. -/
def Link.hunt (l : Link) : Link := { l with receiver := .hunting, rxTimer := none }

/-- R198: a byte with its stop bit, at a frame of the output frame clock. -/
def Link.takeByte (l : Link) (b : Byte) (frame : Nat) : Link :=
  match l.receiver with
  | .hunting => if b = syncByte then { l with receiver := .awaitLength, rxTimer := some (frame + 240) } else l
  | .awaitLength =>
    if 2 ≤ b.toNat ∧ b.toNat ≤ 250 then { l with receiver := .inBody b [] } else l.hunt
  | .inBody len taken =>
    if taken.length = len.toNat then l.hunt.frameComplete { length := len, bytes := taken ++ [b] }
    else { l with receiver := .inBody len (taken ++ [b]) }

namespace Controller

/-- R198: a byte arrives; a broken byte ends the frame in progress. -/
def rxByte (b : Byte) (broken : Bool) (c : Controller) : Controller :=
  { c with link := if broken then c.link.hunt else c.link.takeByte b c.phones.frame }

/-- R198: the reception timer expires, and the frame in progress is discarded. -/
def rxTimeout (c : Controller) : Controller :=
  if c.frameReached c.link.rxTimer then { c with link := c.link.hunt } else c

/-! ### The transmit line (R200, R201, R202) -/

/-- R200: no reply of an earlier request waits for the line or is being transmitted. -/
def replyPending (c : Controller) : Bool :=
  !c.link.replies.isEmpty || (match c.link.line with
    | some (.reply _) => true
    | _ => false)

/-- R200, R206: the Link takes the frame at the head of the input queue; a soft reset that is due comes first. -/
def dispatchDue (c : Controller) : Bool := !c.link.input.isEmpty && !c.replyPending && !c.link.resetDue

end Controller

/-- R211: the kind of a reply made before the kind of the frame is trusted. -/
def untrustedKind : Byte := 0xFE#8

/-- R201, R211: the LINK_BUSY reply of an entry of the busy list. -/
def BusyEntry.reply (e : BusyEntry) : Reply :=
  { kind := untrustedKind, tag := e.tag, code := .linkBusy, fields := [e.kind] }

/-- R202: the OVERRUN report joins the tail when a place frees while the overrun mark is set, whatever the class mask holds. -/
def Link.placeFreed (l : Link) (now : Time) : Link :=
  if l.overrun then
    { l with queue := l.queue ++ [{ time := now, report := .overrun l.dropCount }], overrun := false, dropCount := 0 }
  else l

/-- R201: the arbiter gives the free line to the oldest reply, else to the oldest LINK_BUSY reply, else to the head report. -/
def Link.grant (l : Link) (now : Time) : Link :=
  match l.replies with
  | r :: rs => { l with replies := rs, line := some (.reply r) }
  | [] =>
    match l.busy with
    | e :: es => { l with busy := es, line := some (.busy e.reply) }
    | [] =>
      match l.queue with
      | q :: qs => { l with queue := qs, line := some (.report q) }.placeFreed now
      | [] => l

namespace Controller

/-- R201: the arbiter may choose. The frame of the input queue is taken before it does (log 22). -/
def grantDue (c : Controller) : Bool :=
  c.link.line.isNone && !c.dispatchDue && !c.link.resetDue

/-- R201: the arbiter begins a transmission. -/
def lineGrant (c : Controller) : Controller :=
  if c.grantDue then { c with link := c.link.grant c.now } else c

end Controller

/-- R206: the transmission is that of the OK reply to RESET. -/
def Sending.isReset : Sending → Bool
  | .reply r => r.kind == 0x84#8 && r.code == .ok
  | .busy _ | .report _ => false

/-- R201, R206: the transmission in progress ends; the end of the OK reply to RESET makes the soft reset due. -/
def Controller.txEnd (c : Controller) : Controller :=
  match c.link.line with
  | some x => { c with link := { c.link with line := none, resetDue := c.link.resetDue || x.isReset } }
  | none => c

/-! ### The beginning of a wake (R209) -/

/-- R209: the wake timer, in frames. -/
def wakeSpan : Nat := 960

/-- R209: a wake begins from a source. -/
def Controller.wakeBegin (c : Controller) (src : WakeSource) : Controller :=
  { c with link :=
    { c.link with state := .waking, wakeSource := some src, wakeTimer := some (c.phones.frame + wakeSpan) } }

/-! ### The requests -/

/-- R204: IDENT. -/
def ident : Handler := fun c =>
  (c, { code := .ok, fields := bytesLE 2 0x6D31 ++ bytesLE 2 0x8820 ++ bytesLE 2 1 ++ codeByte 88 ++ codeByte 64
                       ++ codeByte 2 ++ bytesLE 2 slotRoom })

/-- R205: STATUS. -/
def status : Handler := fun c =>
  (c, { code := .ok, fields :=
    codeByte c.rail.state.code ++ codeByte c.playerState.code ++ codeByte c.recState.code
      ++ codeByte c.phones.output.code ++ flagByte c.phones.jackPresent ++ codeByte (c.used .live)
      ++ codeByte (c.used .playback) ++ optLE 1 c.pool.pendingTone ++ flagByte c.quiet
      ++ codeByte (c.countKeys KeyRec.stale) ++ codeByte (c.countKeys fun r => r.state == .uncal)
      ++ codeByte (c.countKeys fun r => r.state == .fault) ++ codeByte c.trim.fifo.length
      ++ codeByte c.link.state.code ++ codeByte c.link.input.length ++ codeByte c.link.queue.length
      ++ flagByte c.link.overrun })

/-- R203: the fields of every reply to REPORTS. -/
def reportsFields (c : Controller) : List Byte :=
  [c.link.mask] ++ codeByte c.link.queue.length ++ flagByte c.link.overrun

/-- R203: REPORTS. -/
def reportsRequest (mask : Nat) : Handler := fun c =>
  let m := BitVec.ofNat 8 mask
  if m = c.link.mask then (c, { code := .already, fields := reportsFields c })
  else
    let c := { c with link := { c.link with mask := m } }
    (c, { code := .ok, fields := reportsFields c })

/-- R206: RESET; the reset itself follows the transmission of the reply. -/
def resetRequest : Handler := fun c => (c, bare .ok)

/-- R209: WAKE. -/
def wakeRequest : Handler := fun c =>
  match c.link.state with
  | .standby => (c.wakeBegin .request, bare .accepted)
  | .active | .waking => (c, bare .already)

/-! ### The commands -/

/-- RX_BYTE (R198). -/
def execRxByte (b : Byte) (broken : Bool) (s : State) : Result := s.run (Controller.rxByte b broken)

/-- RX_TIMEOUT (R198); without a reception timer that has expired it has no effect (log 4). -/
def execRxTimeout (s : State) : Result := s.run Controller.rxTimeout

/-- LINE_GRANT (R201); with the line in use it has no effect (log 4). -/
def execLineGrant (s : State) : Result := s.run Controller.lineGrant

/-- TX_END (R201); with the line free it has no effect (log 4). -/
def execTxEnd (s : State) : Result := s.run Controller.txEnd

/-- IDENT (R204). -/
def execIdent (tag : Byte) (s : State) : Result := s.run (Controller.handle 0x01#8 tag noFields ident)

/-- STATUS (R205). -/
def execStatus (tag : Byte) (s : State) : Result := s.run (Controller.handle 0x02#8 tag noFields status)

/-- REPORTS (R203). -/
def execReports (tag : Byte) (mask : Nat) (s : State) : Result :=
  s.run (Controller.handle 0x03#8 tag reportsFields (reportsRequest mask))

/-- RESET (R206). -/
def execReset (tag : Byte) (s : State) : Result := s.run (Controller.handle 0x04#8 tag noFields resetRequest)

/-- WAKE (R209). -/
def execWake (tag : Byte) (s : State) : Result := s.run (Controller.handle 0x06#8 tag noFields wakeRequest)

end Sys2Proof.Machine
end

