-- ==== Sys2Proof/Machine/Takes.lean ====
section
/-! DEFINITION. The Take Store (chapter 8): the transfer window, the checks of a written record, and the requests TAKE_WINDOW, TAKE_DATA, TAKE_READ, TAKE_INFO and TAKE_CLEAR. -/

namespace Sys2Proof.Machine

/-- R148: the lowest index whose record has time `t` or more, or the count. -/
def indexAt (rs : List TakeRec) (t : Nat) : Nat := (rs.takeWhile fun r => decide (r.time < t)).length

/-- R145: the subject of a record lies in the range of its kind. -/
def subjectOk : RecKind → Nat → Bool
  | .strike, s | .damperUp, s | .damperDown, s => decide (1 ≤ s ∧ s ≤ 88)
  | .pedal, s => decide (s ≤ 2)
  | .mark, s => decide (s ≤ 15)

/-- R145, R152: the value of a record fits its kind. -/
def valueOk : RecKind → Nat → Bool
  | .strike, v => decide (1 ≤ v ∧ v ≤ 127)
  | .damperUp, v | .damperDown, v | .mark, v => v == 0
  | .pedal, v => decide (v ≤ 255)

/-- R152: check a record that would be stored after the records `rs`. -/
def checkRecord (rs : List TakeRec) (r : RawRecord) : ResultCode × Option TakeRec :=
  match recKindOf r.kind with
  | none => (.badValue, none)
  | some k =>
    if !subjectOk k r.subject then (.badValue, none)
    else if !valueOk k r.value then (.badValue, none)
    else if r.time < lastTime rs then (.order, none)
    else if slotRoom ≤ rs.length then (.full, none)
    else (.ok, some { time := r.time, kind := k, subject := r.subject, value := r.value })

/-- What the records of a TAKE_DATA come to (R151, R153). -/
structure Written where
  records : List TakeRec
  stored : Nat
  ignored : Nat
  failure : Option ResultCode
deriving DecidableEq, Repr

/-- R151: take the records of a TAKE_DATA one at a time after the records `w.records`, whose number is the cursor. -/
def writeRecords (last : Nat) : List RawRecord → Written → Written
  | [], w => w
  | r :: rs, w =>
    if last < w.records.length then writeRecords last rs { w with ignored := w.ignored + 1 }
    else
      match checkRecord w.records r with
      | (_, some t) => writeRecords last rs { w with records := w.records ++ [t], stored := w.stored + 1 }
      | (code, none) => { w with failure := some code }

namespace Controller

/-- R147: the user of a slot that refuses a request which would write it. -/
def userOf (c : Controller) (s : Slot) : Option User :=
  if c.recorderUses s then some .recorder else if c.playerUses s then some .player else none

end Controller

/-- R150, R156: the state and count of a slot, in a reply. -/
def slotFields (c : Controller) (s : Slot) : List Byte :=
  Config.slotStateCode (c.take s).isSome :: bytesLE 2 (c.count s)

/-- R150, R156: what a TAKE_WINDOW or TAKE_CLEAR that is refused shows of the slot it names, absent where there is no such slot (log 17). -/
def slotShown (slot : Nat) : Shown := fun c =>
  match slotOf slot with
  | some s => slotFields c s
  | none => absent 3

/-- R150: TAKE_WINDOW. An IN_USE reply names the user before the slot's state and count. -/
def takeWindow (slot mode first last : Nat) : Handler := fun c =>
  match slotOf slot with
  | none => (c, { code := .badValue, fields := slotShown slot c })
  | some s =>
    match windowModeOf mode with
    | none => (c, { code := .badValue, fields := slotFields c s })
    | some m =>
      let user := match m with
        | .write => c.userOf s
        | .read => if c.recorderUses s then some User.recorder else none
      if last < first then (c, { code := .badValue, fields := slotFields c s })
      else
        match user with
        | some u => (c, { code := .inUse, fields := Config.userCode u :: slotFields c s })
        | none =>
          match m with
          | .write =>
            if c.count s < first then (c, { code := .badValue, fields := slotFields c s })
            else
              let c := c.setTake s (some { origin := .uploaded, records := (c.records s).take first, length := 0 })
              let c := { c with takes :=
                { c.takes with window := some { slot := s, mode := .write, first := first, last := last, cursor := first } } }
              (c, { code := .ok, fields := codeByte s.code ++ codeByte m.code ++ bytesLE 2 first ++ bytesLE 2 last
                ++ bytesLE 2 first ++ bytesLE 2 (c.count s) ++ absent 2 })
          | .read =>
            if c.count s ≤ first then (c, { code := .badValue, fields := slotFields c s })
            else
              let c := { c with takes :=
                { c.takes with window := some { slot := s, mode := .read, first := first, last := last, cursor := first } } }
              (c, { code := .ok, fields := codeByte s.code ++ codeByte m.code ++ bytesLE 2 first ++ bytesLE 2 last
                ++ bytesLE 2 first ++ bytesLE 2 (c.count s) ++ bytesLE 2 (min last (c.count s - 1)) })

/-- R151, R153: TAKE_DATA of 1 to 40 records. -/
def takeData (rs : List RawRecord) : Handler := fun c =>
  match c.takes.window with
  | none => (c, bare .badState)
  | some w =>
    match w.mode with
    | .read => (c, bare .badState)
    | .write =>
      let out := writeRecords w.last rs { records := c.records w.slot, stored := 0, ignored := 0, failure := none }
      let c := c.setTake w.slot (some { origin := .uploaded, records := out.records, length := 0 })
      let c := { c with takes := { c.takes with window := some { w with cursor := out.records.length } } }
      match out.failure with
      | none =>
        (c, { code := .ok, fields := codeByte out.stored ++ codeByte out.ignored ++ bytesLE 2 (c.count w.slot)
          ++ bytesLE 2 out.records.length })
      | some code =>
        let c := c.closeWindow
        (c, { code := code, fields := codeByte out.stored ++ codeByte out.ignored
          ++ codeByte (rs.length - out.stored - out.ignored) ++ bytesLE 2 (out.stored + out.ignored + 1)
          ++ bytesLE 2 (c.count w.slot) ++ [Config.slotStateCode (c.take w.slot).isSome] })

/-- R154: TAKE_READ.
DESIGN CHOICE (log 17): where no record is sent, the index of the first is that of the cursor. -/
def takeRead : Handler := fun c =>
  match c.takes.window with
  | none => (c, bare .badState)
  | some w =>
    match w.mode with
    | .write => (c, bare .badState)
    | .read =>
      let stop := min (w.last + 1) (c.count w.slot)
      let sent := ((c.records w.slot).drop w.cursor).take (min 40 (stop - w.cursor))
      let cursor := w.cursor + sent.length
      let c := { c with takes := { c.takes with window := some { w with cursor := cursor } } }
      (c, { code := .ok, fields := bytesLE 2 w.cursor ++ codeByte sent.length ++ bytesLE 2 (stop - cursor)
        ++ flagByte sent.isEmpty ++ sent.flatMap TakeRec.bytes })

/-- R155: TAKE_INFO. -/
def takeInfo (slot : Nat) : Handler := fun c =>
  match slotOf slot with
  | none => (c, bare .badValue)
  | some s =>
    let rs := c.records s
    (c, { code := .ok, fields :=
      [Config.slotStateCode (c.take s).isSome]
        ++ (match c.take s with | some t => [Config.originCode t.origin] | none => absent 1)
        ++ bytesLE 2 rs.length ++ bytesLE 3 (c.length s) ++ bytesLE 2 (slotRoom - rs.length)
        ++ optLE 3 (if rs.isEmpty then none else some (lastTime rs))
        ++ flagByte (c.recorderUses s) ++ flagByte (c.playerUses s) })

/-- R156: TAKE_CLEAR. -/
def takeClear (slot : Nat) : Handler := fun c =>
  match slotOf slot with
  | none => (c, { code := .badValue, fields := slotShown slot c })
  | some s =>
    match c.userOf s with
    | some u => (c, { code := .inUse, fields := Config.userCode u :: slotFields c s })
    | none =>
      match c.take s with
      | none => (c, { code := .already, fields := slotFields c s })
      | some _ =>
        let c := c.setTake s none
        (c, { code := .ok, fields := slotFields c s })

/-- TAKE_WINDOW (R150). -/
def execTakeWindow (tag : Byte) (slot mode first last : Nat) (s : State) : Result :=
  s.run (Controller.handle 0x28#8 tag (slotShown slot) (takeWindow slot mode first last))

/-- TAKE_DATA (R151); a request of no record or of more than 40 is answered BAD_LENGTH. -/
def execTakeData (tag : Byte) (rs : List RawRecord) (s : State) : Result :=
  if 1 ≤ rs.length ∧ rs.length ≤ 40 then s.run (Controller.handle 0x29#8 tag noFields (takeData rs))
  else s.run (Controller.refuseLength 0x29#8 tag noFields)

/-- TAKE_READ (R154). -/
def execTakeRead (tag : Byte) (s : State) : Result := s.run (Controller.handle 0x2A#8 tag noFields takeRead)

/-- TAKE_INFO (R155). -/
def execTakeInfo (tag : Byte) (slot : Nat) (s : State) : Result := s.run (Controller.handle 0x2B#8 tag noFields (takeInfo slot))

/-- TAKE_CLEAR (R156). -/
def execTakeClear (tag : Byte) (slot : Nat) (s : State) : Result :=
  s.run (Controller.handle 0x2C#8 tag (slotShown slot) (takeClear slot))

end Sys2Proof.Machine
end

