-- ==== Sys2Proof/Machine/Recorder.lean ====
section
/-! DEFINITION. The Recorder (chapter 9): record times, what becomes a record, the causes of a stop, and the requests REC_ARM, REC_MARK and REC_STOP.
The Player's take time (R174) stands here too, because a SYNC recording reads it. -/

namespace Sys2Proof.Machine

/-! ### The take time (R174) -/

/-- R174: the take time brought up to date to a stage time. -/
def Session.upTo (s : Session) (tempo : Nat) (t : Time) : Session :=
  match s.phase with
  | .playing =>
    let x := elapsed t s.since * tempo + s.remainder
    { s with time := s.time + x / 100, remainder := x % 100, since := t }
  | .waiting | .paused _ => s

namespace Controller

/-- R160, R194: the Player's take time in ms as it stands, 0 when the Player is STOPPED. -/
def takeMs (c : Controller) : Nat :=
  match c.player.session with
  | some s => (s.upTo c.player.tempo c.now).time / 1000
  | none => 0

/-- R160: the record time of an event taken now. -/
def recTime (c : Controller) (j : RecJob) : Nat :=
  match j.mode with
  | .sync => c.takeMs
  | .free =>
    match j.run with
    | some { start := some t, .. } => elapsed c.now t / 1000
    | _ => 0

/-! ### The end of a recording (section 9.4) -/

/-- R146: the Recorder goes IDLE and hands over a length, and its slot is settled. -/
def recEnd (c : Controller) (j : RecJob) (length : Nat) : Controller :=
  { c.setTake j.target (settledTake .recorded (c.records j.target) length) with recorder := { job := none } }

/-- Section 9.4: a recording ends with a STOPPED report. -/
def recStop (c : Controller) (j : RecJob) (cause : StopCause) (length : Nat) : Controller :=
  let c := c.recEnd j length
  c.report (.recStopped j.target cause (c.count j.target) (c.length j.target) (c.take j.target).isSome)

/-- R169: the Player's stop or natural end stops a SYNC recording, with the take time held at it in ms. -/
def syncStop (c : Controller) (ms : Nat) : Controller :=
  match c.recorder.job with
  | some j =>
    match j.mode with
    | .sync => c.recStop j .playerEnd ms
    | .free => c
  | none => c

/-! ### Writing records (R148, R163, R164) -/

/-- R148, R167: append a record to the target slot; the append that fills it stops the recording. -/
def recAppend (c : Controller) (j : RecJob) (r : TakeRec) : Controller :=
  let rs := c.records j.target ++ [r]
  let c := c.setTake j.target (some { origin := .recorded, records := rs, length := 0 })
  if slotRoom ≤ rs.length then c.recStop j .full r.time else c

/-- R163, R165: in RECORDING, write a record at the record time of now. -/
def recWrite (c : Controller) (kind : RecKind) (subject value : Nat) : Controller :=
  match c.recorder.job with
  | some j =>
    match j.run with
    | some _ => c.recAppend j { time := c.recTime j, kind := kind, subject := subject, value := value }
    | none => c
  | none => c

/-- R162: a recording starts, with the opening records and a REC_STARTED report. `start` is the stage time of a FREE start. -/
def recStart (c : Controller) (j : RecJob) (start : Option Time) : Controller :=
  let t := match start with
    | some _ => 0
    | none => c.takeMs
  let opening :=
    ([0, 1, 2].map fun p => ({ time := t, kind := .pedal, subject := p, value := (c.pedal p).value } : TakeRec))
      ++ c.upKeys.map fun k => { time := t, kind := .damperUp, subject := k, value := 0 }
  let run : RecRun :=
    { start := start, startTime := t, lastDamper := (c.pedal 0).value, lastSostenuto := (c.pedal 1).value
      lastSoft := (c.pedal 2).value, limit := start.map fun s => after s 4200000000 }
  let c := c.setTake j.target
    (some { origin := .recorded, records := c.records j.target ++ opening, length := 0 })
  { c with recorder := { job := some { j with run := some run } } }.report
    (.recStarted j.target j.mode t opening.length)

/-- R162, R163: the Recorder takes a LIVE strike. -/
def recStrike (c : Controller) (k level : Nat) : Controller :=
  match c.recorder.job with
  | some j =>
    match j.run with
    | some _ => c.recWrite .strike k level
    | none => (c.recStart j (some c.now)).recWrite .strike k level
  | none => c

end Controller

/-- The last recorded value of a pedal (R159). -/
def RecRun.lastOf (r : RecRun) : Nat → Nat
  | 0 => r.lastDamper
  | 1 => r.lastSostenuto
  | _ => r.lastSoft

/-- Set the last recorded value of a pedal (R164). -/
def RecRun.setLast (r : RecRun) (p v : Nat) : RecRun :=
  match p with
  | 0 => { r with lastDamper := v }
  | 1 => { r with lastSostenuto := v }
  | _ => { r with lastSoft := v }

/-- R75, R164: the test that a change to a value passes against an earlier value. -/
def valueTest (earlier v : Nat) : Bool :=
  decide (earlier + 4 ≤ v ∨ v + 4 ≤ earlier) || ((v == 0 || v == 255) && v != earlier)

/-- R164: the Recorder takes a change of the value of pedal p. -/
def Controller.recPedal (c : Controller) (p v : Nat) : Controller :=
  match c.recorder.job with
  | some j =>
    match j.run with
    | some run =>
      if valueTest (run.lastOf p) v then
        { c with recorder := { job := some { j with run := some (run.setLast p v) } } }.recWrite .pedal p v
      else c
    | none => c
  | none => c

/-! ### The requests -/

/-- R161: the Player is PLAYING, WAITING or PAUSED with no active loop, the condition of a SYNC arm. -/
def Controller.syncOpen (c : Controller) : Bool :=
  match c.player.session with
  | none => false
  | some s =>
    match s.loop with
    | none => true
    | some l => !(l.count == 0 || decide (l.passes < l.count))

/-- R161: the Recorder's state, which every reply to REC_ARM carries. -/
def recFields : Shown := fun c => codeByte c.recState.code

/-- R161: REC_ARM. An IN_USE reply names the user before the Recorder's state. -/
def recArm (slot mode : Nat) : Handler := fun c =>
  match slotOf slot, clockModeOf mode with
  | some s, some m =>
    if c.recState ≠ .idle then (c, { code := .badState, fields := recFields c })
    else if c.playerUses s then (c, { code := .inUse, fields := Config.userCode .player :: recFields c })
    else if m = .sync ∧ c.syncOpen = false then (c, { code := .badState, fields := recFields c })
    else
      let j : RecJob := { target := s, mode := m, run := none }
      let c := c.setTake s (some { origin := .recorded, records := [], length := 0 })
      let c := { c with recorder := { job := some j } }.report (.recArmed s m)
      let c := match m with
        | .free => c
        | .sync => c.recStart j none
      (c, { code := .accepted, fields := codeByte s.code ++ codeByte m.code ++ recFields c })
  | _, _ => (c, { code := .badValue, fields := recFields c })

/-- R165: REC_MARK.
DESIGN CHOICE (log 34): the reply to a request that writes no mark carries no field. -/
def recMark (number : Nat) : Handler := fun c =>
  if 15 < number then (c, bare .badValue)
  else
    match c.recorder.job with
    | some j =>
      match j.run with
      | some _ =>
        let t := c.recTime j
        let c := c.recWrite .mark number 0
        (c, { code := .ok, fields := bytesLE 2 number ++ bytesLE 3 t ++ bytesLE 2 (c.count j.target) })
      | none => (c, bare .badState)
    | none => (c, bare .badState)

/-- R166: the length of a recording that REC_STOP ends: 0 in ARMED, the record time in RECORDING. -/
def Controller.stopLength (c : Controller) (j : RecJob) : Nat :=
  match j.run with
  | some _ => c.recTime j
  | none => 0

/-- R166: REC_STOP.
DESIGN CHOICE (log 34): in IDLE, where no slot is settled, the reply carries no field. -/
def recStopRequest : Handler := fun c =>
  match c.recorder.job with
  | none => (c, bare .already)
  | some j =>
    let c := c.recStop j .request (c.stopLength j)
    (c, { code := .ok, fields := codeByte j.target.code ++ slotFields c j.target ++ bytesLE 3 (c.length j.target) })

/-- R168: the limit timer of a FREE recording expires. -/
def Controller.recTimeLimit (c : Controller) : Controller :=
  match c.recorder.job with
  | some j =>
    match j.run with
    | some { start := some t, .. } =>
      if c.clock.suspended = false ∧ 4200000000 ≤ elapsed c.now t then c.recStop j .timeLimit 4200000 else c
    | _ => c
  | none => c

/-- REC_ARM (R161). -/
def execRecArm (tag : Byte) (slot mode : Nat) (s : State) : Result :=
  s.run (Controller.handle 0x30#8 tag recFields (recArm slot mode))

/-- REC_MARK (R165). -/
def execRecMark (tag : Byte) (number : Nat) (s : State) : Result := s.run (Controller.handle 0x31#8 tag noFields (recMark number))

/-- REC_STOP (R166). -/
def execRecStop (tag : Byte) (s : State) : Result := s.run (Controller.handle 0x32#8 tag noFields recStopRequest)

/-- REC_TIME_LIMIT (R168); an expiry whose deadline is not reached has no effect (log 4). -/
def execRecTimeLimit (s : State) : Result := s.run Controller.recTimeLimit

end Sys2Proof.Machine
end

