-- ==== Sys2Proof/Machine/VoicePool.lean ====
section
/-! DEFINITION. The Voice Pool (chapter 6): attenuation and rates, fades and re-evaluations, restarts, allocation and steals, and the requests VOICE_SPLIT, TONE, LAYER, DECAY_LOAD and VOICE_READ. -/

namespace Sys2Proof.Machine

/-! ### Attenuation and rate of one voice (R108, R118) -/

/-- R108: the attenuation that ends a voice, 96 dB. -/
def silence : Nat := 960

/-- R118: the DAMPED rate. -/
def dampedRate : Nat := 8000

/-- R118: the FADE rate. -/
def fadeRate : Nat := 19200

/-- R108: the attenuation of a voice at a stage time. -/
def Note.attenuation (n : Note) (t : Time) : Nat := n.aRef + n.rate * elapsed t n.tRef / 1000000

/-- R108: the end deadline of a voice referenced at attenuation `a` and stage time `t`, for a rate. -/
def endDeadline (a : Nat) (t : Time) (rate : Nat) : Option Time :=
  if rate = 0 then none else some (after t (divUp ((silence - a) * 1000000) rate))

/-- R108, R109: give a voice a rate class and a rate. A changed rate re-references the voice, and a voice found at 960 or more ends. -/
def Note.retune (n : Note) (t : Time) (cls : RateClass) (rate : Nat) : Option Note :=
  if rate = n.rate then some { n with rateClass := cls }
  else
    let a := n.attenuation t
    if silence ≤ a then none
    else some { n with rateClass := cls, rate := rate, aRef := a, tRef := t, deadline := endDeadline a t rate }

/-- R123: a SOUNDING voice enters FADING; a FADING voice is left as it is. -/
def Note.fade (n : Note) (t : Time) : Option Note :=
  if n.fading then some n
  else
    match n.retune t .fade fadeRate with
    | some n' => some { n' with fading := true }
    | none => none

/-- R118, R120: the PARTIAL rate of an entry n at damper value p. -/
def partRate (n p : Nat) : Nat := dampedRate - (dampedRate - n) * (p - 64) / 128

namespace Controller

/-- R118: the decay table entry of key k. -/
def decayEntry (c : Controller) (k : Nat) : Nat := (c.pool.decay[k - 1]?).getD 1

/-- R119: the rate class and rate of a SOUNDING voice of source `src` on key k. -/
def rateFor (c : Controller) (src : Source) (k : Nat) : RateClass × Nat :=
  let n := c.decayEntry k
  if src = .playback ∧ c.playerState = .paused then (.frozen, 0)
  else if c.pool.damperLimit < k then (.natural, n)
  else if c.damperUp src k || c.inSostenuto src k then (.natural, n)
  else
    match zoneOf (c.damperValue src) with
    | .lifted => (.natural, n)
    | .half => (.part, partRate n (c.damperValue src))
    | .down => (.damped, dampedRate)

/-- R125: a pending tone is applied within the event that leaves every voice FREE. -/
def toneCheck (c : Controller) : Controller :=
  match c.pool.pendingTone with
  | some t =>
    if c.poolEmpty then
      { c with pool := { c.pool with tone := t, pendingTone := none } }.report (.toneApplied t)
    else c
  | none => c

/-- Change every voice that is not FREE; a voice changed to `none` ends (R109). -/
def mapVoices (c : Controller) (f : Note → Option Note) : Controller :=
  { c with pool := { c.pool with voices := c.pool.voices.map fun v => Option.bind v f } }.toneCheck

/-- R121: re-evaluate the SOUNDING voices that `p` selects. -/
def reevaluate (c : Controller) (p : Note → Bool) : Controller :=
  c.mapVoices fun n =>
    if !n.fading && p n then
      n.retune c.now (c.rateFor n.source n.key).1 (c.rateFor n.source n.key).2
    else some n

/-- R121: re-evaluate the SOUNDING voices of a source on the keys of a list. -/
def reevaluateKeys (c : Controller) (src : Source) (keys : List Nat) : Controller :=
  c.reevaluate fun n => n.source == src && keys.contains n.key

/-- R121: re-evaluate every SOUNDING voice of a source. -/
def reevaluateSource (c : Controller) (src : Source) : Controller :=
  c.reevaluate fun n => n.source == src

/-- R123: the voices that `p` selects enter FADING. -/
def fadeVoices (c : Controller) (p : Note → Bool) : Controller :=
  c.mapVoices fun n => if p n then n.fade c.now else some n

/-- R130, R132: every voice becomes FREE. -/
def freeVoices (c : Controller) : Controller :=
  { c with pool := { c.pool with voices := c.pool.voices.map fun _ => none } }

/-! ### Taking a strike (R113 to R117) -/

/-- R114: the note that a strike begins. -/
def newNote (c : Controller) (src owner : Source) (key level : Nat) : Note :=
  let r := c.rateFor src key
  let a := (127 - level) * 3
  { fading := false, source := src, owner := owner, key := key, level := level, tone := c.pool.tone
    aRef := a, tRef := c.now, rateClass := r.1, rate := r.2, start := c.now
    deadline := endDeadline a c.now r.2, startFrame := c.phones.frame }

/-- R115: the voice of a source and key that is not FREE. -/
def findVoice (c : Controller) (src : Source) (key : Nat) : Option Nat :=
  c.pool.voices.findIdx? fun v => match v with | some n => n.source == src && n.key == key | none => false

/-- R116: the lowest-index FREE voice. -/
def freeVoice (c : Controller) : Option Nat := c.pool.voices.findIdx? Option.isNone

end Controller

/-- A rank, compared field by field. -/
structure Rank where
  band : Nat
  attenuation : Nat
  age : Nat
deriving DecidableEq, Repr

/-- The first rank comes before the second. -/
def Rank.before (a b : Rank) : Bool :=
  decide (b.band < a.band)
    || (a.band == b.band && (decide (b.attenuation < a.attenuation)
      || (a.attenuation == b.attenuation && decide (b.age < a.age))))

/-- The index of the first-ranked of a list of ranked indices; equal ranks go to the earlier. -/
def firstRanked : List (Nat × Rank) → Option (Nat × Rank)
  | [] => none
  | x :: xs =>
    match firstRanked xs with
    | none => some x
    | some y => if y.2.before x.2 then some y else some x

namespace Controller

/-- The voices that `p` selects, with their indices and ranks. -/
def ranked (c : Controller) (p : Note → Bool) (rank : Note → Rank) : List (Nat × Rank) :=
  c.pool.voices.zipIdx.filterMap fun vi =>
    match vi.1 with
    | some n => if p n then some (vi.2, rank n) else none
    | none => none

/-- R117: the rank of a steal candidate of a strike of source `src`: FADING voices, then voices of the other source, then the rest; within each the highest attenuation, then the oldest start. -/
def stealRank (c : Controller) (src : Source) (n : Note) : Rank :=
  { band := if n.fading then 2 else if n.source = src then 0 else 1
    attenuation := n.attenuation c.now, age := elapsed c.now n.start }

/-- R117: the voice that a strike of source `src` steals. -/
def stealChoice (c : Controller) (src : Source) : Option Nat :=
  (firstRanked (c.ranked (fun n => n.owner == src) (c.stealRank src))).map Prod.fst

/-- R114: a note begins in voice i. -/
def begin (c : Controller) (i : Nat) (src owner : Source) (key level : Nat) : Controller :=
  c.setVoice i (some (c.newNote src owner key level))

/-- R117: voice i is stolen for a strike of source `src`, with a STEAL report. -/
def steal (c : Controller) (i : Nat) (src : Source) (key level : Nat) : Controller :=
  match c.voice i with
  | some old =>
    (c.report (.steal i old.source old.key (old.attenuation c.now) (old.owner != old.source) src key)).begin
      i src src key level
  | none => c

/-- R116: allocate a voice: from the own reserve, by borrowing, or by a steal. -/
def allocate (c : Controller) (src : Source) (key level : Nat) : Controller :=
  let other := src.other
  if c.used src < c.reserve src then
    match c.freeVoice with
    | some i => c.begin i src src key level
    | none => c
  else if c.lends other ∧ c.used other < c.reserve other then
    match c.freeVoice with
    | some i => c.begin i src other key level
    | none => c
  else
    match c.stealChoice src with
    | some i => c.steal i src key level
    | none => c

/-- R113, R115, R116: a strike that the pool takes restarts the voice of its source and key, or is allocated one. -/
def poolStrike (c : Controller) (src : Source) (key level : Nat) : Controller :=
  match c.findVoice src key with
  | some i =>
    match c.voice i with
    | some old => c.begin i src old.owner key level
    | none => c
  | none => c.allocate src key level

/-- R113: a LIVE strike reaches the pool while the live path is open. -/
def liveStrike (c : Controller) (key level : Nat) : Controller :=
  if c.livePath then c.poolStrike .live key level else c

end Controller

/-! ### The split (R111, R112) -/

/-- R112: re-own `n` voices of partition `p` to the other, the most attenuated first, then the oldest start, then the lowest index. -/
def Controller.reown (p : Source) : (n : Nat) → Controller → Controller
  | 0, c => c
  | n + 1, c =>
    match firstRanked (c.ranked (fun v => v.owner == p)
        fun v => { band := 0, attenuation := v.attenuation c.now, age := elapsed c.now v.start }) with
    | none => c
    | some ir =>
      match c.voice ir.1 with
      | none => c
      | some v => Controller.reown p n (c.setVoice ir.1 (some { v with owner := p.other }))

/-- R110: the used counts, carried in every reply to VOICE_SPLIT and VOICE_READ. -/
def usedFields : Shown := fun c => codeByte (c.used .live) ++ codeByte (c.used .playback)

/-- R111: the fields of every reply to VOICE_SPLIT. -/
def splitFields (c : Controller) (reowned : Nat) : List Byte :=
  codeByte (c.reserve .live) ++ codeByte (c.reserve .playback) ++ flagByte c.pool.playbackLends
    ++ flagByte c.pool.liveLends ++ usedFields c ++ codeByte reowned

/-- R112: how many voices of partition `p` exceed its reserve. -/
def Controller.excess (c : Controller) (p : Source) : Nat := c.used p - c.reserve p

/-- R111: VOICE_SPLIT. -/
def voiceSplit (r playbackLends liveLends : Nat) : Handler := fun c =>
  let pl := playbackLends != 0
  let ll := liveLends != 0
  if r < 8 ∨ 56 < r then (c, { code := .badValue, fields := splitFields c 0 })
  else if r = c.pool.liveReserve ∧ pl = c.pool.playbackLends ∧ ll = c.pool.liveLends then
    (c, { code := .already, fields := splitFields c 0 })
  else
    let fell : Source := if r < c.pool.liveReserve then .live else .playback
    let c := { c with pool := { c.pool with liveReserve := r } }
    let e := c.excess fell
    let c := Controller.reown fell e c
    let c := { c with pool := { c.pool with playbackLends := pl, liveLends := ll } }
    (c, { code := .ok, fields := splitFields c e })

/-! ### Tone, layer and the decay table (R124, R126, R127) -/

/-- R124: the fields of every reply to TONE. -/
def toneFields (c : Controller) : List Byte := codeByte c.pool.tone ++ optLE 1 c.pool.pendingTone

/-- R124: TONE, with mode 0 IMMEDIATE and 1 AT_REST. -/
def toneRequest (t mode : Nat) : Handler := fun c =>
  let done := fun (code : ResultCode) (c : Controller) => (c, ({ code := code, fields := toneFields c } : Answer))
  if 3 < t ∨ 1 < mode then done .badValue c
  else if t = c.pool.tone then
    match c.pool.pendingTone with
    | none => done .already c
    | some _ => done .ok { c with pool := { c.pool with pendingTone := none } }
  else if mode = 1 ∧ c.pool.pendingTone = some t then done .already c
  else if mode = 0 then
    done .ok ({ c with pool := { c.pool with tone := t, pendingTone := none } }.fadeVoices fun _ => true)
  else if c.poolEmpty then done .ok { c with pool := { c.pool with tone := t } }
  else done .accepted { c with pool := { c.pool with pendingTone := some t } }

/-- R126: the fields of every reply to LAYER. -/
def layerFields : Shown := fun c => flagByte c.pool.layer ++ flagByte c.livePath

/-- R126: LAYER. -/
def layerRequest (flag : Nat) : Handler := fun c =>
  let on := flag != 0
  if on = c.pool.layer then (c, { code := .already, fields := layerFields c })
  else
    let c := { c with pool := { c.pool with layer := on } }
    (c, { code := .ok, fields := layerFields c })

/-- R127: the lowest key whose entry lies outside 1..2000. -/
def badEntry (es : List Nat) : Option Nat :=
  (es.findIdx? fun n => decide (n < 1 ∨ 2000 < n)).map (· + 1)

/-- R127: DECAY_LOAD. -/
def decayLoad (es : List Nat) (limit : Nat) : Handler := fun c =>
  match badEntry es with
  | some k => (c, { code := .badValue, fields := codeByte k })
  | none =>
    if limit < 60 ∨ 88 < limit then (c, { code := .badValue, fields := codeByte 0 })
    else if es = c.pool.decay ∧ limit = c.pool.damperLimit then (c, bare .already)
    else
      ({ c with pool := { c.pool with decay := es, damperLimit := limit } }.reevaluate fun _ => true, bare .ok)

/-! ### Reading the pool (R128) -/

/-- R128: the stage time that remains to a deadline. -/
def remaining (now : Time) (deadline : Option Time) : List Byte :=
  match deadline with
  | some d => if reached now d then bytesLE 4 0 else bytesLE 4 (elapsed d now)
  | none => absent 4

/-- R128: the 19 bytes of a voice. -/
def voiceBytes (now : Time) : Option Note → List Byte
  | none => Config.phaseCode .free :: absent 18
  | some n =>
    Config.phaseCode (if n.fading then .fading else .sounding) :: (codeByte n.source.code ++ codeByte n.owner.code
      ++ codeByte n.key ++ codeByte n.level ++ codeByte n.tone ++ [Config.rateClassCode n.rateClass]
      ++ bytesLE 2 n.rate ++ timeBytes n.start ++ bytesLE 2 (n.attenuation now) ++ remaining now n.deadline)

/-- R128: VOICE_READ; a reply that refuses it carries the used counts alone (R110). -/
def voiceRead (p : Nat) : Handler := fun c =>
  if 7 < p then (c, { code := .badValue, fields := usedFields c })
  else
    (c, { code := .ok, fields :=
      ((List.range 8).flatMap fun i => voiceBytes c.now (c.voice (8 * p + i)))
        ++ codeByte (c.reserve .live) ++ codeByte (c.reserve .playback) ++ flagByte c.pool.playbackLends
        ++ flagByte c.pool.liveLends ++ usedFields c ++ toneFields c ++ layerFields c ++ codeByte c.pool.damperLimit
        ++ ((List.range 11).flatMap fun i => bytesLE 2 (c.decayEntry (11 * p + i + 1))) })

/-! ### The commands -/

/-- VOICE_SPLIT (R111). -/
def execVoiceSplit (tag : Byte) (r playbackLends liveLends : Nat) (s : State) : Result :=
  s.run (Controller.handle 0x20#8 tag (splitFields · 0) (voiceSplit r playbackLends liveLends))

/-- TONE (R124). -/
def execTone (tag : Byte) (t mode : Nat) (s : State) : Result :=
  s.run (Controller.handle 0x21#8 tag toneFields (toneRequest t mode))

/-- LAYER (R126). -/
def execLayer (tag : Byte) (flag : Nat) (s : State) : Result :=
  s.run (Controller.handle 0x22#8 tag layerFields (layerRequest flag))

/-- DECAY_LOAD (R127); a body that does not carry 88 entries is answered BAD_LENGTH (R200, R212). -/
def execDecayLoad (tag : Byte) (es : List Nat) (limit : Nat) (s : State) : Result :=
  if es.length = 88 then s.run (Controller.handle 0x23#8 tag noFields (decayLoad es limit))
  else s.run (Controller.refuseLength 0x23#8 tag noFields)

/-- VOICE_READ (R128). -/
def execVoiceRead (tag : Byte) (part : Nat) (s : State) : Result :=
  s.run (Controller.handle 0x24#8 tag usedFields (voiceRead part))

/-- R109: voice i reaches its end deadline and becomes FREE. -/
def Controller.voiceEnd (i : Nat) (c : Controller) : Controller :=
  match c.voice i with
  | some n => if c.expired n.deadline then (c.setVoice i none).toneCheck else c
  | none => c

/-- VOICE_END (R109); an expiry whose deadline is not reached has no effect (log 4). -/
def execVoiceEnd (i : Nat) (s : State) : Result :=
  if i < 64 then s.run (Controller.voiceEnd i) else .fault .noSuchVoice

end Sys2Proof.Machine
end

