-- ==== Sys2Proof/Machine/Player.lean ====
section
/-! DEFINITION. The Player (chapter 10): take time and due timer, the application of due records, loops, guided waiting, the natural end, and the Player's requests. -/

namespace Sys2Proof.Machine

/-! ### The loop (R189) -/

/-- R189: a loop is active while passes remain to it. -/
def Loop.active (l : Loop) : Bool := l.count == 0 || decide (l.passes < l.count)

/-- R189: arm a loop afresh at a take time. -/
def Loop.rearm (l : Loop) (time : Nat) : Loop := { l with armed := l.active && decide (time < l.stop * 1000) }

/-- R189: the loop of a session is armed. -/
def Session.armed (s : Session) : Bool :=
  match s.loop with
  | some l => l.armed
  | none => false

/-- R189: the armed loop holds back a record of time `t`. -/
def Session.holdsBack (s : Session) (t : Nat) : Bool :=
  match s.loop with
  | some l => l.armed && decide (l.stop ≤ t)
  | none => false

/-! ### Hands (R176) -/

namespace Player

/-- R176: a key belongs to the LEFT hand. -/
def isLeft (p : Player) (k : Nat) : Bool := decide (k < p.splitKey)

/-- R176: the hand of a key is muted. -/
def mutes (p : Player) (k : Nat) : Bool := if p.isLeft k then p.muteLeft else p.muteRight

/-- R176: the hand of a key is guided and not muted. -/
def guides (p : Player) (k : Nat) : Bool :=
  !p.mutes k && (match p.guide with
    | .none => false
    | .both => true
    | .left => p.isLeft k
    | .right => !p.isLeft k)

end Player

/-- R182: the value of the last PEDAL record of pedal p with time below `t`, or 0. -/
def pedalBefore (rs : List TakeRec) (t p : Nat) : Nat :=
  match (rs.filter fun r => r.kind == .pedal && r.subject == p && decide (r.time < t)).getLast? with
  | some r => r.value
  | none => 0

namespace Controller

/-- Replace the session of the Player. -/
def setSession (c : Controller) (s : Option Session) : Controller := { c with player := { c.player with session := s } }

/-- R174: an event reaches the Player, and the take time is brought up to date. -/
def bringUp (c : Controller) : Controller :=
  match c.player.session with
  | some s => c.setSession (some (s.upTo c.player.tempo c.now))
  | none => c

/-! ### The due timer (R175) -/

/-- R175: the targets in take time of a session over the records and length of its slot. -/
def targets (c : Controller) (s : Session) : List Nat :=
  (match (c.records s.slot)[s.cursor]? with
    | some r => if s.holdsBack r.time then [] else [r.time * 1000]
    | none => [c.length s.slot * 1000])
  ++ (match s.loop with
    | some l => if l.armed then [l.stop * 1000] else []
    | none => [])

/-- R175: the stage time, at most 1,000,000,000 µs ahead, at which the nearest target is reached. -/
def dueDeadline (c : Controller) (s : Session) : Time :=
  after c.now ((c.targets s).foldl
    (fun acc x => min acc (divUp (100 * (x - s.time) - s.remainder) c.player.tempo)) 1000000000)

/-- R175: compute the due timer afresh, in PLAYING; cancel it in any other state. -/
def setDue (c : Controller) : Controller :=
  match c.player.session with
  | some s =>
    match s.phase with
    | .playing => c.setSession (some { s with due := some (c.dueDeadline s) })
    | .waiting | .paused _ => c.setSession (some { s with due := none })
  | none => c

/-! ### Playback dampers, pedals and notes (R180, R181) -/

/-- R180: key k joins the playback key-down set. -/
def raiseDamper (c : Controller) (k : Nat) : Controller :=
  { c with player := { c.player with keyDown := joinKey k c.player.keyDown } }.reevaluateKeys .playback [k]

/-- R180: key k leaves the playback key-down set. -/
def lowerDamper (c : Controller) (k : Nat) : Controller :=
  { c with player := { c.player with keyDown := leaveKey k c.player.keyDown } }.reevaluateKeys .playback [k]

/-- R181: a PEDAL record of pedal 1, which may engage or disengage the playback sostenuto. -/
def playSostenuto (c : Controller) (v : Nat) : Controller :=
  let c := { c with player := { c.player with sostenuto := v } }
  if c.player.engaged = false ∧ 128 ≤ v then
    { c with player := { c.player with engaged := true, held := c.player.keyDown } }.reevaluateKeys .playback
      c.player.keyDown
  else if c.player.engaged = true ∧ v < 96 then
    { c with player := { c.player with engaged := false, held := [] } }.reevaluateKeys .playback c.player.held
  else c

/-- R181: a PEDAL record of pedal p. -/
def playPedal (c : Controller) (p v : Nat) : Controller :=
  match p with
  | 0 => { c with player := { c.player with damper := v } }.reevaluateSource .playback
  | 1 => c.playSostenuto v
  | _ => { c with player := { c.player with soft := v } }

/-- R181, R182, R187, R190: the playback sets emptied and the pedals set apart from PEDAL records; pedal 1 engages the sostenuto, over an empty set, when 128 or more. -/
def setPlayPedals (c : Controller) (damper sostenuto soft : Nat) : Controller :=
  { c with player :=
    { c.player with damper := damper, sostenuto := sostenuto, soft := soft, engaged := decide (128 ≤ sostenuto)
                    keyDown := [], held := [], expected := [], consumed := [] } }

/-- R183, R187, R190: every SOUNDING PLAYBACK voice enters FADING. -/
def fadePlayback (c : Controller) : Controller := c.fadeVoices fun n => n.source == .playback

/-! ### Guided waiting (R191) -/

/-- R191: the STRIKE records at or after index `i` that a guided strike of time `t` takes with it, as pairs of index and key. -/
def chordRecords (c : Controller) (s : Session) (t : Nat) : (i : Nat) → List TakeRec → List (Nat × Nat)
  | _, [] => []
  | i, r :: rs =>
    let more := chordRecords c s t (i + 1) rs
    if r.kind = .strike ∧ c.player.guides r.subject = true ∧ t ≤ r.time ∧ r.time ≤ t + c.player.chordWindow
        ∧ s.holdsBack r.time = false ∧ c.player.consumed.contains i = false then
      (i, r.subject) :: more
    else more

/-- R191: a guided strike of key k and time t forms the expectation set. -/
def formWait (c : Controller) (s : Session) (k t : Nat) : Controller :=
  let found := c.chordRecords s t s.cursor ((c.records s.slot).drop s.cursor)
  { c with player :=
    { c.player with
      expected := (found.map Prod.snd).foldl (fun acc x => joinKey x acc) (joinKey k c.player.expected)
      consumed := (found.map Prod.fst).foldl (fun acc i => joinKey i acc) c.player.consumed } }

/-! ### Applying due records (R179, R180) -/

/-- R179, R180: apply one record, which the cursor of session `s` has already passed. -/
def applyRecord (c : Controller) (s : Session) (r : TakeRec) : Controller :=
  match r.kind with
  | .strike =>
    if c.player.mutes r.subject then c
    else if c.player.guides r.subject then c.formWait s r.subject r.time
    else (c.raiseDamper r.subject).poolStrike .playback r.subject r.value
  | .damperUp =>
    if c.player.mutes r.subject || c.player.guides r.subject then c else c.raiseDamper r.subject
  | .damperDown =>
    if c.player.mutes r.subject || c.player.guides r.subject then c else c.lowerDamper r.subject
  | .pedal => c.playPedal r.subject r.value
  | .mark => c.report (.mark r.subject r.time)

/-- R179: apply the due records of a list that begins at the cursor, up to the first that is not due or is held back. -/
def applyBatch : List TakeRec → Controller → Controller
  | [], c => c
  | r :: rs, c =>
    match c.player.session with
    | none => c
    | some s =>
      if r.time * 1000 ≤ s.time ∧ s.holdsBack r.time = false then
        let i := s.cursor
        let s := { s with cursor := i + 1 }
        let c := c.setSession (some s)
        if c.player.consumed.contains i then
          applyBatch rs { c with player := { c.player with consumed := leaveKey i c.player.consumed } }
        else applyBatch rs (c.applyRecord s r)
      else c

/-- R195: a PLAYER_STATE report of a session. -/
def reportState (c : Controller) (s : Session) (d : PlayerDetail) : Controller :=
  c.report (.playerState s.slot (s.time / 1000) d)

/-- R179, R191: apply the batch of due records; when a guided strike formed an expectation set, the Player enters WAITING. -/
def runBatch (c : Controller) : Controller :=
  match c.player.session with
  | none => c
  | some s =>
    let c := applyBatch ((c.records s.slot).drop s.cursor) c
    match c.player.session with
    | none => c
    | some s =>
      if c.player.expected.isEmpty then c
      else
        let s := { s with phase := .waiting, due := none }
        (c.setSession (some s)).reportState s (.waiting c.player.expected)

/-- R184: the natural end. -/
def naturalEnd (c : Controller) (s : Session) : Controller :=
  let c := c.setPlayPedals 0 0 0
  let c := (c.setSession none).reevaluateSource .playback
  let c := c.report (.playEnd s.slot (s.time / 1000))
  c.syncStop (s.time / 1000)

/-- R184: the Player is PLAYING with its cursor at the count, its take time at the length, and no armed loop. -/
def atEnd (c : Controller) (s : Session) : Bool :=
  s.phase == .playing && decide (c.count s.slot ≤ s.cursor) && decide (c.length s.slot * 1000 ≤ s.time) && !s.armed

/-- R175, R184: after a batch, test the natural end and compute the due timer afresh. -/
def endOrDue (c : Controller) : Controller :=
  match c.player.session with
  | some s => if c.atEnd s then c.naturalEnd s else c.setDue
  | none => c

/-- R190: the jump of an armed loop `l` of session `s`. -/
def loopJump (c : Controller) (s : Session) (l : Loop) : Controller :=
  let c := c.fadePlayback.setPlayPedals l.damper l.sostenuto l.soft
  let l := { l with passes := l.passes + 1 }.rearm (l.start * 1000)
  let s := { s with cursor := indexAt (c.records s.slot) l.start, time := l.start * 1000, remainder := 0, since := c.now
                    loop := some l }
  ((c.setSession (some s)).report (.loopJump l.start l.stop l.count l.passes)).runBatch

/-- R190: in PLAYING, the take time has reached LE of an armed loop. -/
def jumpDue (s : Session) : Option Loop :=
  match s.phase, s.loop with
  | .playing, some l => if l.armed && decide (l.stop * 1000 ≤ s.time) then some l else none
  | _, _ => none

/-- R175: in PLAYING, the Player takes whatever the take time has reached: due records, the loop jump or the natural end; then its due timer is computed afresh. -/
def takeReached (c : Controller) : Controller :=
  if c.playerState = .playing then
    let c := c.runBatch
    match c.player.session with
    | none => c
    | some s =>
      match jumpDue s with
      | some l => (c.loopJump s l).endOrDue
      | none => c.endOrDue
  else c

/-- R182, R187: the Player stands at P ms, its sets empty and its pedals from the snapshot at P, in a state of play. -/
def moveTo (c : Controller) (s : Session) (p : Nat) : Controller :=
  let rs := c.records s.slot
  let c := c.setPlayPedals (pedalBefore rs p 0) (pedalBefore rs p 1) (pedalBefore rs p 2)
  c.setSession (some { s with
    cursor := indexAt rs p, time := p * 1000, remainder := 0, since := c.now, due := none
    loop := s.loop.map fun l => l.rearm (p * 1000) })

/-- R192, R193: the wait of a session ends, and the Player is PLAYING from now. -/
def endWait (c : Controller) (s : Session) : Controller :=
  let s := { s with phase := .playing, since := c.now }
  ((c.setSession (some s)).reportState s .playing).takeReached

/-- R174, R175, R192: the Player takes a LIVE strike of key k. In PLAYING it takes no action on the strike, and takes what its take time has reached (log 31). -/
def guideStrike (c : Controller) (k : Nat) : Controller :=
  let c := c.bringUp
  match c.player.session with
  | none => c
  | some s =>
    match s.phase with
    | .waiting =>
      if c.player.expected.contains k then
        let c := { c with player := { c.player with expected := leaveKey k c.player.expected } }
        if c.player.expected.isEmpty then c.endWait s else c
      else c.report (.guideMiss k c.player.expected.length)
    | .playing | .paused _ => c.takeReached

end Controller

/-! ### Starting, stopping and pausing (section 10.5) -/

/-- R182, R187: the cursor, take time and state of the Player, in a reply. -/
def playFields (c : Controller) : List Byte :=
  optLE 2 (c.player.session.map fun s => s.cursor) ++ optLE 3 (c.player.session.map fun s => s.time / 1000)
    ++ codeByte c.playerState.code

/-- R182: PLAY_START.
DESIGN CHOICE (log 34): a refused request carries no field but the user of an IN_USE reply. Refused, it leaves the Player unchanged, its take time with it (log 31). -/
def playStart (slot p : Nat) : Handler := fun c =>
  match slotOf slot with
  | none => (c, bare .badValue)
  | some sl =>
    if c.playerState ≠ .stopped then (c, bare .badState)
    else if c.recorderUses sl then (c, { code := .inUse, fields := [Config.userCode .recorder] })
    else if (c.take sl).isNone then (c, bare .badState)
    else if c.length sl < p then (c, bare .badValue)
    else
      let s : Session :=
        { phase := .playing, slot := sl, cursor := 0, time := 0, remainder := 0, since := c.now, due := none, loop := none }
      let c := c.moveTo s p
      let c := match c.player.session with
        | some s => c.reportState s .playing
        | none => c
      let c := (c.reevaluateSource .playback).takeReached
      (c, { code := .accepted, fields := optLE 1 (c.player.session.map fun s => s.slot.code) ++ playFields c })

/-- R183: the Player is stopped, its PLAYBACK voices fading and its sets, pedals and loop removed. -/
def Controller.stopPlayer (c : Controller) : Controller := (c.fadePlayback.setPlayPedals 0 0 0).setSession none

/-- R183: PLAY_STOP. -/
def playStop : Handler := fun c =>
  let c := c.bringUp
  match c.player.session with
  | none => (c, bare .already)
  | some s =>
    let c := c.stopPlayer.reportState s .stopped
    (c.syncStop (s.time / 1000), bare .ok)

/-- R185: PLAY_PAUSE. What the take time has reached is taken after the resume. -/
def playPause : Handler := fun c =>
  let c := c.bringUp
  match c.player.session with
  | none => (c, bare .badState)
  | some s =>
    match s.phase with
    | .paused _ => (c, bare .already)
    | .playing | .waiting =>
      let fromWaiting := s.phase == .waiting
      let s := { s with phase := .paused fromWaiting, due := none }
      (((c.setSession (some s)).reportState s (.paused fromWaiting)).reevaluateSource .playback, bare .ok)

/-- R186: PLAY_RESUME. -/
def playResume : Handler := fun c =>
  match c.player.session with
  | none => (c, bare .badState)
  | some s =>
    match s.phase with
    | .playing | .waiting => (c.bringUp.takeReached, bare .already)
    | .paused true =>
      let s := { s with phase := .waiting }
      (((c.setSession (some s)).reportState s (.waiting c.player.expected)).reevaluateSource .playback, bare .ok)
    | .paused false =>
      let s := { s with phase := .playing, since := c.now }
      ((((c.setSession (some s)).reportState s .playing).reevaluateSource .playback).takeReached, bare .ok)

/-! ### Seek, loop and tempo (R178, R187, R188) -/

/-- R187: the Player moves to P, from its state of play. -/
def Controller.seek (c : Controller) (s : Session) (p : Nat) : Controller :=
  let c := c.fadePlayback
  match s.phase with
  | .paused _ => c.moveTo { s with phase := .paused false } p
  | .playing => (c.moveTo { s with phase := .playing } p).takeReached
  | .waiting =>
    let c := c.moveTo { s with phase := .playing } p
    let c := match c.player.session with
      | some s => c.reportState s .playing
      | none => c
    c.takeReached

/-- R187: PLAY_SEEK.
DESIGN CHOICE (log 34): a refused request carries no field. -/
def playSeek (p : Nat) : Handler := fun c =>
  let c := c.bringUp
  match c.player.session with
  | none => (c, bare .badState)
  | some s =>
    if c.syncRecording then (c.takeReached, bare .badState)
    else if c.length s.slot < p then (c.takeReached, bare .badValue)
    else
      let c := c.seek s p
      (c, { code := .ok, fields := playFields c })

/-- R188, R196: the loop in force, in a reply: LS, LE, count, passes done and whether it is armed.
DESIGN CHOICE (log 34): its pedal snapshot is no part of it. -/
def loopFields (c : Controller) : List Byte :=
  match c.player.session with
  | some { loop := some l, .. } =>
    bytesLE 3 l.start ++ bytesLE 3 l.stop ++ codeByte l.count ++ passesByte l.passes ++ flagByte l.armed
  | _ => absent 9

/-- R188: PLAY_LOOP, with LS, LE and a count. -/
def playLoop (ls le count : Nat) : Handler := fun c =>
  let done := fun (code : ResultCode) (c : Controller) =>
    let c := c.takeReached
    (c, ({ code := code, fields := loopFields c } : Answer))
  let c := c.bringUp
  match c.player.session with
  | none => done .badState c
  | some s =>
    if c.syncRecording then done .badState c
    else if le = 0 then
      match s.loop with
      | none => done .already c
      | some _ => done .ok (c.setSession (some { s with loop := none }))
    else if le ≤ ls ∨ c.length s.slot < le ∨ 99 < count then done .badValue c
    else if s.loop.any fun l => l.start == ls && l.stop == le && l.count == count then done .already c
    else
      let rs := c.records s.slot
      let l : Loop :=
        { start := ls, stop := le, count := count, passes := 0, damper := pedalBefore rs ls 0
          sostenuto := pedalBefore rs ls 1, soft := pedalBefore rs ls 2, armed := false }
      done .ok (c.setSession (some { s with loop := some (l.rearm s.time) }))

/-- R178: the fields of every reply to PLAY_TEMPO: the tempo in force, the mark of a value that was limited, and the take time in ms. -/
def tempoFields (c : Controller) (limited : Bool) : List Byte :=
  bytesLE 2 c.player.tempo ++ flagByte limited ++ optLE 3 (c.player.session.map fun s => s.time / 1000)

/-- R178: PLAY_TEMPO. -/
def playTempo (t : Nat) : Handler := fun c =>
  let tempo := if t < 25 then 25 else if 200 < t then 200 else t
  let c := c.bringUp
  if tempo = c.player.tempo then
    let c := c.takeReached
    (c, { code := .already, fields := tempoFields c (tempo != t) })
  else
    let c := { c with player := { c.player with tempo := tempo } }.takeReached
    (c, { code := .ok, fields := tempoFields c (tempo != t) })

/-! ### Hands (R177, R193) -/

/-- R177: the mute mask in force, LEFT 1 and RIGHT 2 (R212). -/
def muteMask (p : Player) : Nat := (if p.muteLeft then 1 else 0) + (if p.muteRight then 2 else 0)

/-- R177: the fields of every reply to PLAY_HANDS. The mute mask takes one byte (log 17). -/
def handsFields (c : Controller) : List Byte :=
  codeByte c.player.splitKey ++ codeByte (muteMask c.player) ++ codeByte c.player.guide.code
    ++ bytesLE 3 c.player.chordWindow ++ codeByte c.playerState.code

namespace Controller

/-- R177, step 2: the keys of the playback key-down set that are now in a muted or guided hand leave it. -/
def dropHands (c : Controller) : Controller :=
  match c.player.session with
  | none => c
  | some _ =>
    let gone := c.player.keyDown.filter fun k => c.player.mutes k || c.player.guides k
    let kept := c.player.keyDown.filter fun k => !(c.player.mutes k || c.player.guides k)
    { c with player := { c.player with keyDown := kept } }.reevaluateKeys .playback gone

/-- R193: a change of hands ends a wait, also one that a pause was taken from. -/
def handsEndWait (c : Controller) : Controller :=
  match c.player.session with
  | none => c
  | some s =>
    match s.phase with
    | .waiting => { c with player := { c.player with expected := [] } }.endWait s
    | .paused true =>
      { c with player := { c.player with expected := [] } }.setSession (some { s with phase := .paused false })
    | .playing | .paused false => c.takeReached

end Controller

/-- R177: PLAY_HANDS. -/
def playHands (split mask guide window : Nat) : Handler := fun c =>
  let done := fun (code : ResultCode) (c : Controller) => (c, ({ code := code, fields := handsFields c } : Answer))
  let c := c.bringUp
  match guideOf guide with
  | none => done .badValue c.takeReached
  | some g =>
    if split < 1 ∨ 89 < split ∨ 250 < window then done .badValue c.takeReached
    else
      let ml := mask % 2 == 1
      let mr := mask / 2 % 2 == 1
      let same := c.player.splitKey = split ∧ c.player.muteLeft = ml ∧ c.player.muteRight = mr ∧ c.player.guide = g
      if same ∧ c.player.chordWindow = window then done .already c.takeReached
      else
        let c := { c with player :=
          { c.player with splitKey := split, muteLeft := ml, muteRight := mr, guide := g, chordWindow := window } }
        let c := c.dropHands
        done .ok (if same then c.takeReached else c.handsEndWait)

/-! ### Reading the Player (R196) -/

/-- R196: the snapshot of the player record. -/
def playerSnapshot (c : Controller) : List Byte :=
  let s := c.player.session
  let pausedFrom : Option Nat := match s with
    | some { phase := .paused w, .. } => some (if w then PlayerState.waiting.code else PlayerState.playing.code)
    | _ => none
  codeByte c.playerState.code ++ optLE 1 pausedFrom ++ optLE 1 (s.map fun s => s.slot.code)
    ++ optLE 2 (s.map fun s => s.cursor) ++ optLE 5 (s.map fun s => s.time) ++ optLE 2 (s.map fun s => s.remainder)
    ++ bytesLE 2 c.player.tempo ++ codeByte c.player.splitKey ++ codeByte (muteMask c.player)
    ++ codeByte c.player.guide.code ++ bytesLE 3 c.player.chordWindow ++ loopFields c
    ++ bytesLE 2 c.player.damper ++ bytesLE 2 c.player.sostenuto ++ bytesLE 2 c.player.soft
    ++ flagByte c.player.engaged ++ keyBitmap c.player.keyDown ++ keyBitmap c.player.held
    ++ keyBitmap c.player.expected ++ bytesLE 2 c.player.consumed.length

/-- R196: PLAY_READ. The snapshot is taken at the receipt, the take time brought up to date, and what the take time has reached is taken after it (log 31). -/
def playRead : Handler := fun c =>
  let c := c.bringUp
  (c.takeReached, { code := .ok, fields := playerSnapshot c })

/-! ### The commands -/

/-- PLAY_START (R182). -/
def execPlayStart (tag : Byte) (slot p : Nat) (s : State) : Result :=
  s.run (Controller.handle 0x38#8 tag noFields (playStart slot p))

/-- PLAY_STOP (R183). -/
def execPlayStop (tag : Byte) (s : State) : Result := s.run (Controller.handle 0x39#8 tag noFields playStop)

/-- PLAY_PAUSE (R185). -/
def execPlayPause (tag : Byte) (s : State) : Result := s.run (Controller.handle 0x3A#8 tag noFields playPause)

/-- PLAY_RESUME (R186). -/
def execPlayResume (tag : Byte) (s : State) : Result := s.run (Controller.handle 0x3B#8 tag noFields playResume)

/-- PLAY_SEEK (R187). -/
def execPlaySeek (tag : Byte) (p : Nat) (s : State) : Result := s.run (Controller.handle 0x3C#8 tag noFields (playSeek p))

/-- PLAY_LOOP (R188). -/
def execPlayLoop (tag : Byte) (ls le count : Nat) (s : State) : Result :=
  s.run (Controller.handle 0x3D#8 tag loopFields (playLoop ls le count))

/-- PLAY_TEMPO (R178). -/
def execPlayTempo (tag : Byte) (t : Nat) (s : State) : Result := s.run (Controller.handle 0x3E#8 tag (tempoFields · false) (playTempo t))

/-- PLAY_HANDS (R177). -/
def execPlayHands (tag : Byte) (split mask guide window : Nat) (s : State) : Result :=
  s.run (Controller.handle 0x3F#8 tag handsFields (playHands split mask guide window))

/-- PLAY_READ (R196). -/
def execPlayRead (tag : Byte) (s : State) : Result := s.run (Controller.handle 0x40#8 tag noFields playRead)

/-- R175: the due timer expires in PLAYING, the take time is brought up to date, and whatever it has reached is taken. -/
def Controller.dueTimerExpiry (c : Controller) : Controller :=
  match c.player.session with
  | some s => if s.phase = .playing ∧ c.expired s.due = true then c.bringUp.takeReached else c
  | none => c

/-- DUE_TIMER_EXPIRY (R175); an expiry whose deadline is not reached has no effect (log 4). -/
def execDueTimerExpiry (s : State) : Result := s.run Controller.dueTimerExpiry

end Sys2Proof.Machine
end

