-- ==== Sys2Proof/Machine/Trim.lean ====
section
/-! DEFINITION. The Trim Engine (chapter 3): rounds and debt, the choice and judging of short trims, the reference FIFO and the grant, and the requests TRIM_SET and CAL_FULL. The completion of a FULL calibration stands in Calibration.lean. -/

namespace Sys2Proof.Machine

/-! ### Readings (R47, R55) -/

/-- One more reading. -/
def Readings.add (r : Readings) (raw : Nat) : Readings :=
  { count := r.count + 1, sum := r.sum + raw, least := min r.least raw, greatest := max r.greatest raw
    outSeen := r.outSeen || !inRange raw }

/-- The spread: the greatest reading less the least. -/
def Readings.spread (r : Readings) : Nat := r.greatest - r.least

/-- The mean of `n` readings, rounded to the nearest whole reading, a half rounding up. -/
def Readings.mean (r : Readings) (n : Nat) : Nat := (r.sum + n / 2) / n

/-! ### The choice of a unit (R46) -/

namespace Controller

/-- R46: key k can be chosen by the unit of group g: it is in REST and not passed over. -/
def choosable (c : Controller) (g k : Nat) : Bool :=
  (c.key k).state == .rest && !(c.trimUnit g).passedOver.contains k

/-- R46, step 1: the lowest-numbered key that is due. -/
def dueKey (c : Controller) (g : Nat) : Option Nat :=
  (groupKeys g).find? fun k => c.choosable g k && decide (0 < (c.key k).debt)

/-- R46, step 2: every key of the group leaves it quiet (R23). -/
def groupQuiet (c : Controller) (g : Nat) : Bool := (groupKeys g).all fun k => !(c.key k).state.disturbs

/-- The key of a list with the lowest debt, the earliest of equals. -/
def lowestDebt (c : Controller) : List Nat → Option Nat
  | [] => none
  | k :: ks =>
    match lowestDebt c ks with
    | none => some k
    | some j => if (c.key j).debt < (c.key k).debt then some j else some k

/-- R46, step 2: the key for a pull-in, that of the lowest debt above −8. -/
def pullInKey (c : Controller) (g : Nat) : Option Nat :=
  if c.trim.pullIn && c.groupQuiet g then
    c.lowestDebt ((groupKeys g).filter fun k => c.choosable g k && decide (-8 < (c.key k).debt))
  else none

/-- R46: the phase in which a choice leaves the unit of group g. -/
def chosenPhase (c : Controller) (g : Nat) : TrimPhase :=
  match c.dueKey g with
  | some k => .trimming k Readings.none 0
  | none =>
    match c.pullInKey g with
    | some k => .trimming k Readings.none 0
    | none => .idle

/-- R45, R46, R49: the phase of the unit of group g as its conditions stand. A suspended unit has no trim, a trim whose subject has left REST is abandoned, and a unit that is not trimming makes its choice. -/
def unitPhase (c : Controller) (g : Nat) : TrimPhase :=
  if c.unitSuspended g then .suspended
  else
    match (c.trimUnit g).phase with
    | .trimming k r n => if (c.key k).state = .rest then .trimming k r n else c.chosenPhase g
    | .idle | .suspended => c.chosenPhase g

/-- R45, R46, R49: every trim unit follows its conditions at the end of an event (log 29). -/
def trimSync (c : Controller) : Controller :=
  { c with trim := { c.trim with
    units := (List.range 11).map fun g => { c.trimUnit g with phase := c.unitPhase g } } }

/-! ### Short trims (R47, R48) -/

end Controller

/-- R48: the rest reading an accepted short trim leaves: the mean, or a step of 64 toward it. -/
def steppedRest (rest mean : Nat) : Nat :=
  if rest + 64 < mean then rest + 64 else if mean + 64 < rest then rest - 64 else mean

namespace Controller

/-- R48: the short trim of key k, by the unit of group g, is judged from its 16 readings. -/
def judgeTrim (c : Controller) (g k : Nat) (r : Readings) : Controller :=
  let u := c.trimUnit g
  if 12 < r.spread ∨ r.outSeen = true then c.setUnit g { phase := .idle, passedOver := joinKey k u.passedOver }
  else
    let rec0 := c.key k
    let c := c.setUnit g { u with phase := .idle }
    let c := c.setKey k { rec0 with
      restRaw := some (steppedRest (rec0.restRaw.getD rec0.nominal) (r.mean 16))
      debt := if rec0.debt ≤ -8 then rec0.debt else rec0.debt - 1
      stale := false }
    if rec0.stale then c.report (.trimRecovered k false) else c

/-- R47: after a sample of key k, the unit of its group takes a reading where one is due. The sample counts only when the key is in REST. -/
def trimReading (c : Controller) (k raw : Nat) : Controller :=
  let g := groupOf k
  match (c.trimUnit g).phase with
  | .trimming j r n =>
    if j = k ∧ (c.key k).state = .rest then
      if n = 0 then
        let r := r.add raw
        if r.count = 16 then c.judgeTrim g k r
        else c.setUnit g { c.trimUnit g with phase := .trimming k r 5 }
      else c.setUnit g { c.trimUnit g with phase := .trimming k r (n - 1) }
    else c
  | .idle | .suspended => c

/-! ### The reference FIFO and the grant (R52, R53, R54) -/

/-- R54: at the grant, the examined keys of group g: those not in FAULT or MUTED. -/
def examsOf (c : Controller) (g : Nat) : List Exam :=
  ((groupKeys g).filter fun k => (c.key k).state != .fault && (c.key k).state != .muted).map fun k =>
    { key := k, positional := (c.key k).state.positional, readings := Readings.none, allRest := true }

/-- R53: the reference is granted to the head group when the four conditions hold. -/
def tryGrant (c : Controller) : Controller :=
  match c.trim.fifo with
  | g :: rest =>
    if c.grantOpen then
      let exams := c.examsOf g
      let c := { c with trim :=
        { c.trim with fifo := rest, cal := some { group := g, start := c.now, exams := exams, rejoin := false } } }
      c.report (.calStart g exams.length rest.length)
    else c
  | [] => c

/-- R52: group g joins the FIFO at the tail unless it is waiting there, and the grant is tried. -/
def joinFifo (c : Controller) (g : Nat) : Controller :=
  if c.trim.fifo.contains g then c
  else { c with trim := { c.trim with fifo := c.trim.fifo ++ [g] } }.tryGrant

/-- R52: a group whose FULL calibration is in progress is marked to join at its completion; any other joins. -/
def joinOrMark (c : Controller) (g : Nat) : Controller :=
  match c.trim.cal with
  | some cal =>
    if cal.group = g then { c with trim := { c.trim with cal := some { cal with rejoin := true } } } else c.joinFifo g
  | none => c.joinFifo g

/-- R54: a key is dropped from the examination of the calibration in progress. -/
def dropExam (c : Controller) (k : Nat) : Controller :=
  match c.trim.cal with
  | some cal => { c with trim := { c.trim with cal := some { cal with exams := cal.exams.filter fun e => e.key != k } } }
  | none => c

/-- R54: the reading of an examined key that is due at a sample: the first sample at or after 3,000 + 1,160 n µs from the grant gives reading n (log 13). -/
def examReading (c : Controller) (cal : Calibration) (k raw : Nat) (e : Exam) : Exam :=
  if e.key = k ∧ e.readings.count < 256 ∧ 3000 + 1160 * e.readings.count ≤ elapsed c.now cal.start then
    { e with readings := e.readings.add raw, allRest := e.allRest && (c.key k).state == .rest }
  else e

/-- R54: after a sample of key k, the calibration in progress takes a reading where one is due. -/
def calReading (c : Controller) (k raw : Nat) : Controller :=
  match c.trim.cal with
  | some cal =>
    { c with trim := { c.trim with cal := some { cal with exams := cal.exams.map (c.examReading cal k raw) } } }
  | none => c

/-! ### Rounds (R43, R44) -/

/-- R43: the round timers are started afresh from now. -/
def startRounds (c : Controller) : Controller :=
  let i := c.trim.interval * 1000000
  { c with trim := { c.trim with rounds := (List.range 11).map fun g => some (after c.now (i + g * i / 11)) } }

/-- R44: a round counts key k. -/
def countKey (c : Controller) (k : Nat) : Controller :=
  let r := c.key k
  if r.state.positional then
    if r.debt < 8 then c.setKey k { r with debt := r.debt + 1 }
    else if r.stale then c
    else (c.setKey k { r with stale := true }).report (.stale k)
  else c

/-- The round timer of group g (R43). -/
def roundTimer (c : Controller) (g : Nat) : Option Time := (c.trim.rounds[g]?).join

/-- R44: a round expiry of group g. -/
def roundExpiry (g : Nat) (c : Controller) : Controller :=
  match c.roundTimer g with
  | none => c
  | some d =>
    if c.expired (some d) then
      let c := { c with trim :=
        { c.trim with rounds := c.trim.rounds.set g (some (after d (c.trim.interval * 1000000))) } }
      let c := (groupKeys g).foldl countKey c
      let c := c.setUnit g { c.trimUnit g with passedOver := [] }
      let c :=
        if ((groupKeys g).any fun k => (c.key k).state == .uncal) && !c.calibrating g then c.joinFifo g else c
      c.trimSync
    else c

end Controller

/-! ### The requests (R51, R57) -/

/-- R51: the fields of every reply to TRIM_SET. -/
def trimFields (c : Controller) : List Byte := bytesLE 2 c.trim.interval ++ flagByte c.trim.pullIn

/-- R51: TRIM_SET. -/
def trimSet (interval pullIn : Nat) : Handler := fun c =>
  let pull := pullIn != 0
  if interval < 1 ∨ 60 < interval then (c, { code := .badValue, fields := trimFields c })
  else if interval = c.trim.interval ∧ pull = c.trim.pullIn then (c, { code := .already, fields := trimFields c })
  else
    let changed := interval != c.trim.interval
    let c := { c with trim := { c.trim with interval := interval, pullIn := pull } }
    let c := if changed then c.startRounds else c
    (c.trimSync, { code := .ok, fields := trimFields c })

/-- R57: the group is served already: it waits in the FIFO or its calibration is in progress. -/
def Controller.served (c : Controller) (g : Nat) : Bool := c.trim.fifo.contains g || c.calibrating g

/-- R57: groups of a list join in order; the groups that joined are listed. -/
def joinGroups : List Nat → Controller → Controller × List Nat
  | [], c => (c, [])
  | g :: gs, c =>
    if c.served g then joinGroups gs c
    else
      let r := joinGroups gs (c.joinFifo g)
      (r.1, g :: r.2)

/-- R57: the fields of every reply to CAL_FULL: the number of groups that joined, those groups, and the groups in the FIFO (log 17). -/
def calFields (joined : List Nat) : Shown := fun c =>
  codeByte joined.length ++ joined.flatMap (bytesLE 2) ++ codeByte c.trim.fifo.length

/-- R57: CAL_FULL. -/
def calFull (group : Nat) : Handler := fun c =>
  if group ≠ allGroups ∧ 10 < group then (c, { code := .badValue, fields := calFields [] c })
  else
    let r := joinGroups (if group = allGroups then List.range 11 else [group]) c
    if r.2.isEmpty then (c, { code := .already, fields := calFields [] c })
    else (r.1.trimSync, { code := .accepted, fields := calFields r.2 r.1 })

/-- TRIM_SET (R51). -/
def execTrimSet (tag : Byte) (interval pullIn : Nat) (s : State) : Result :=
  s.run (Controller.handle 0x18#8 tag trimFields (trimSet interval pullIn))

/-- CAL_FULL (R57). -/
def execCalFull (tag : Byte) (group : Nat) (s : State) : Result := s.run (Controller.handle 0x19#8 tag (calFields []) (calFull group))

/-- ROUND_EXPIRY (R44); an expiry whose deadline is not reached has no effect (log 4). -/
def execRoundExpiry (g : Nat) (s : State) : Result :=
  if g < 11 then s.run (Controller.roundExpiry g) else .fault .noSuchGroup

end Sys2Proof.Machine
end

