-- ==== Sys2Proof/Machine/RailDrive.lean ====
section
/-! DEFINITION. The Rail Drive (chapter 5): waits, motions, settles, faults and recovery, and the requests RAIL_SET, RAIL_RECOVER and RAIL_READ. -/

namespace Sys2Proof.Machine

/-- The state at which a rail settled at a stop stands. -/
def Stop.railState : Stop → RailState
  | .clear => .clear
  | .engaged => .engaged

/-- The last stop that a settled stop gives (R84). -/
def Stop.lastStop : Stop → LastStop
  | .clear => .clear
  | .engaged => .engaged

/-- The opposite stop. -/
def Stop.other : Stop → Stop
  | .clear => .engaged
  | .engaged => .clear

/-- The state of a motion toward a stop (R88). -/
def Stop.motion : Stop → RailState
  | .clear => .disengaging
  | .engaged => .engaging

/-- The motor direction toward a stop (R82). -/
def Stop.motor : Stop → Motor
  | .clear => .towardClear
  | .engaged => .towardEngaged

/-- The switch of a stop (R81). -/
def Rail.switch (r : Rail) : Stop → Switch
  | .clear => r.clearSwitch
  | .engaged => r.engagedSwitch

/-- Replace the switch of a stop. -/
def Rail.setSwitch (r : Rail) (s : Stop) (sw : Switch) : Rail :=
  match s with
  | .clear => { r with clearSwitch := sw }
  | .engaged => { r with engagedSwitch := sw }

/-- R96: the rail at rest: the motor off, no timer running, and no target, origin, recovery or pending target. -/
def Rail.still (r : Rail) : Rail :=
  { r with
    target := none, origin := none, recovery := false, pendingTarget := none, quietTimer := none
    travelTimer := none, stallTimer := none, settleTimer := none, motor := .off }

/-- R93: the rail enters SETTLING at a stage time, bound for its target. -/
def Rail.settling (r : Rail) (now : Time) : Rail :=
  { r with
    state := .settling, origin := none, quietTimer := none, travelTimer := none, stallTimer := none
    settleTimer := some (after now 100000), motor := .off }

/-- R88, R92: the motor starts toward a stop at a stage time. -/
def Rail.moving (r : Rail) (t : Stop) (now : Time) : Rail :=
  { r with
    state := t.motion, origin := none, quietTimer := none, motor := t.motor
    travelTimer := some (after now 1500000)
    stallTimer := if r.overLimit then some (after now 200000) else none }

/-- R85, R88, R97: the rail enters WAIT_QUIET for a target at a stage time. -/
def Rail.waiting (r : Rail) (t : Stop) (origin : RailOrigin) (recovery : Bool) (now : Time) : Rail :=
  { r.still with
    state := .waitQuiet, cause := none, target := some t, origin := some origin, recovery := recovery
    quietTimer := some (after now 5000000) }

namespace Controller

/-- Replace the rail record. -/
def setRail (c : Controller) (r : Rail) : Controller := { c with rail := r }

/-- R102: a RAIL_STATE report of the rail as it stands; `discarded` when a pending target was discarded. -/
def railReport (c : Controller) (discarded : Bool) : Controller :=
  c.report (.railState c.rail.state c.rail.target c.rail.cause discarded c.rail.lastStop c.rail.recovery)

/-- R88: in WAIT_QUIET, the motion starts when its conditions all hold; with the target's switch closed the rail enters SETTLING at once. The trim units follow (R45). -/
def railTest (c : Controller) : Controller :=
  match c.rail.target with
  | some t =>
    if c.rail.state = .waitQuiet ∧ c.motionOpen = true then
      let r := if (c.rail.switch t).closed then c.rail.settling c.now else c.rail.moving t c.now
      ((c.setRail r).railReport false).trimSync
    else c
  | none => c

/-- R88: the rail enters WAIT_QUIET, is reported, and tests its conditions. -/
def railWait (c : Controller) (t : Stop) (origin : RailOrigin) (recovery : Bool) : Controller :=
  ((c.setRail (c.rail.waiting t origin recovery c.now)).railReport false).railTest

/-- R91, R92, R94, R95: the rail enters FAULT with a cause, discarding what it was bound for; the trim units follow and the grant is tried (R45, R53). -/
def railFault (c : Controller) (cause : RailCause) (lastStop : LastStop) : Controller :=
  let discarded := c.rail.pendingTarget.isSome
  let r := { c.rail.still with state := .fault, cause := some cause, lastStop := lastStop }
  ((c.setRail r).railReport discarded).tryGrant.trimSync

end Controller

/-! ### Switches (R81, R90, R94, R95) -/

/-- R81: the frames a switch input holds a new level before it is taken. -/
def debounceSpan : Nat := 96

/-- R95: the switch at which the rail is taken to stand. -/
def Rail.place (r : Rail) : Option Stop :=
  match r.state with
  | .clear => some .clear
  | .engaged => some .engaged
  | .waitQuiet =>
    match r.origin with
    | some { state := .clear, .. } => some .clear
    | some { state := .engaged, .. } => some .engaged
    | _ => none
  | .settling => r.target
  | .engaging | .disengaging | .unplaced | .fault => none

/-- R90: the stop whose switch ends the motion in progress. -/
def Rail.bound (r : Rail) : Option Stop :=
  match r.state with
  | .engaging => some .engaged
  | .disengaging => some .clear
  | .clear | .engaged | .waitQuiet | .settling | .unplaced | .fault => none

namespace Controller

/-- R90, R94, R96: the debounced closing of the switch of stop `sw`. -/
def switchCloses (c : Controller) (sw : Stop) : Controller :=
  if (c.rail.switch sw.other).closed then c.railFault .switchConflict .none
  else if c.rail.bound = some sw then ((c.setRail (c.rail.settling c.now)).railReport false).trimSync
  else c

/-- R95, R96: the debounced opening of the switch of stop `sw`. -/
def switchOpens (c : Controller) (sw : Stop) : Controller :=
  if c.rail.place = some sw then c.railFault .lostPosition .none else c

/-- R81: the switch of a stop completes its debounce, and its debounced state changes. -/
def switchChange (sw : Stop) (c : Controller) : Controller :=
  let s := c.rail.switch sw
  if s.run = debounceSpan then
    let c := c.setRail (c.rail.setSwitch sw { s with closed := !s.closed, run := 0 })
    if s.closed then c.switchOpens sw else c.switchCloses sw
  else c

/-! ### Timers (R89, R91, R92, R93) -/

/-- R92: the over-limit indication becomes set or clear. -/
def overLimitChange (set : Bool) (c : Controller) : Controller :=
  if set = c.rail.overLimit then c
  else
    let timer := if set && c.motorRunning then some (after c.now 200000) else none
    c.setRail { c.rail with overLimit := set, stallTimer := timer }

/-- R89: the quiet timer expires, and the request is abandoned. -/
def railAbandoned (c : Controller) : Controller :=
  match c.rail.state, c.rail.origin with
  | .waitQuiet, some o =>
    if c.expired c.rail.quietTimer then
      let r := { c.rail.still with state := o.state, cause := o.cause }
      (c.setRail r).report (.railAbandoned c.rail.target o.state o.cause)
    else c
  | _, _ => c

/-- R91: the travel timer expires. -/
def travelTimeout (c : Controller) : Controller :=
  if c.motorRunning ∧ c.expired c.rail.travelTimer then c.railFault .travelTimeout c.rail.lastStop else c

/-- R92: the stall timer expires. -/
def stall (c : Controller) : Controller :=
  if c.motorRunning ∧ c.expired c.rail.stallTimer then c.railFault .stall c.rail.lastStop else c

/-- R93: the rail is placed at the stop it settled at; the grant is tried, and a pending target is waited for. -/
def railPlaced (c : Controller) (t : Stop) : Controller :=
  let next := c.rail.pendingTarget
  let r := { c.rail.still with state := t.railState, cause := none, lastStop := t.lastStop }
  let c := ((c.setRail r).railReport false).tryGrant
  let c := match next with
    | some p => c.railWait p { state := t.railState, cause := none } false
    | none => c
  c.trimSync

/-- R93: the settle timer expires. -/
def settleExpiry (c : Controller) : Controller :=
  match c.rail.state, c.rail.target with
  | .settling, some t =>
    if c.expired c.rail.settleTimer then
      if (c.rail.switch t.other).closed then c.railFault .switchConflict .none else c.railPlaced t
    else c
  | _, _ => c

end Controller

/-! ### The requests (R85, R86, R87, R97, R103) -/

/-- R85: the fields of every reply to RAIL_SET. -/
def railFields (c : Controller) : List Byte :=
  codeByte c.rail.state.code ++ optLE 1 (c.rail.target.map Stop.code) ++ optLE 1 (c.rail.pendingTarget.map Stop.code)

/-- R86: a RAIL_SET of the other target in WAIT_QUIET with recovery clear cancels the wait to its origin. -/
def Controller.railCancel (c : Controller) : Controller :=
  match c.rail.origin with
  | some o =>
    let r := { c.rail.still with state := o.state, cause := o.cause }
    (c.setRail r).report (.railCancelled o.state c.rail.target)
  | none => c

/-- R85 to R87: the outcome of RAIL_SET by rail state. -/
def railOutcome (c : Controller) (t : Stop) : ResultCode × Controller :=
  match c.rail.state with
  | .fault | .unplaced => (.badState, c)
  | .clear => if t = .clear then (.already, c) else (.accepted, c.railWait t { state := .clear, cause := none } false)
  | .engaged => if t = .engaged then (.already, c) else (.accepted, c.railWait t { state := .engaged, cause := none } false)
  | .waitQuiet =>
    if c.rail.target = some t then (.already, c)
    else if c.rail.recovery then (.badState, c)
    else (.ok, c.railCancel)
  | .engaging | .disengaging | .settling =>
    if c.rail.target = some t then
      match c.rail.pendingTarget with
      | none => (.already, c)
      | some p => (.ok, (c.setRail { c.rail with pendingTarget := none }).report (.railCancelled c.rail.state (some p)))
    else
      match c.rail.pendingTarget with
      | none => (.accepted, c.setRail { c.rail with pendingTarget := some t })
      | some _ => (.already, c)

/-- R85: RAIL_SET. -/
def railSet (target : Nat) : Handler := fun c =>
  match stopOf target with
  | none => (c, { code := .badValue, fields := railFields c })
  | some t =>
    let r := railOutcome c t
    (r.2, { code := r.1, fields := railFields r.2 })

/-- R97: the field of every reply to RAIL_RECOVER. -/
def railStateField : Shown := fun c => codeByte c.rail.state.code

/-- R97: RAIL_RECOVER. -/
def railRecover : Handler := fun c =>
  let done := fun (code : ResultCode) (c : Controller) => (c, ({ code := code, fields := railStateField c } : Answer))
  if c.rail.state ≠ .fault ∧ c.rail.state ≠ .unplaced then done .badState c
  else if c.rail.clearSwitch.closed && !c.rail.engagedSwitch.closed && c.trim.cal.isNone then
    let r := { c.rail.still with target := some .clear, recovery := true, cause := none }
    done .accepted (((c.setRail (r.settling c.now)).railReport false).trimSync)
  else done .accepted (c.railWait .clear { state := c.rail.state, cause := c.rail.cause } true)

/-- R103: the stage time that remains to the deadline of a timer of the Rail Drive.
DESIGN CHOICE (log 33): a timer that does not run has its field too, absent as 0xFF in each byte. -/
def timerField (c : Controller) (t : Option Time) : List Byte :=
  match t with
  | some d => if reached c.now d then bytesLE 4 0 else bytesLE 4 (elapsed d c.now)
  | none => absent 4

/-- R83: the recovery field is present in WAIT_QUIET, DISENGAGING and SETTLING. -/
def RailState.hasRecovery : RailState → Bool
  | .waitQuiet | .disengaging | .settling => true
  | .clear | .engaged | .engaging | .unplaced | .fault => false

/-- R103: the motor state and direction, a flag and then the stop it runs toward.
DESIGN CHOICE (log 33): the flag is 1 while the motor is on, the direction takes the value of its stop, and it is absent while the motor is off. -/
def motorFields : Motor → List Byte
  | .off => flagByte false ++ absent 1
  | .towardClear => flagByte true ++ codeByte Stop.clear.code
  | .towardEngaged => flagByte true ++ codeByte Stop.engaged.code

/-- R103: RAIL_READ.
DESIGN CHOICE (log 33): the origin is its state and then the cause of a FAULT, and the flag of a switch stands for closed, that of the live path for open. The remaining times are four fields of four bytes in the order of R83's table, quiet, travel, stall and settle timer, each 0xFFFFFFFF where its timer does not run. -/
def railRead : Handler := fun c =>
  (c, { code := .ok, fields :=
    codeByte c.rail.state.code ++ optLE 1 (c.rail.cause.map RailCause.code) ++ optLE 1 (c.rail.target.map Stop.code)
      ++ optLE 1 (c.rail.origin.map fun o => o.state.code)
      ++ optLE 1 (c.rail.origin.bind fun o => o.cause.map RailCause.code)
      ++ (if c.rail.state.hasRecovery then flagByte c.rail.recovery else absent 1)
      ++ optLE 1 (c.rail.pendingTarget.map Stop.code) ++ codeByte c.rail.lastStop.code
      ++ flagByte c.rail.clearSwitch.closed ++ flagByte c.rail.engagedSwitch.closed ++ motorFields c.rail.motor
      ++ flagByte c.rail.overLimit ++ flagByte c.livePath ++ timerField c c.rail.quietTimer
      ++ timerField c c.rail.travelTimer ++ timerField c c.rail.stallTimer ++ timerField c c.rail.settleTimer })

/-! ### The commands -/

/-- SWITCH_CHANGE (R81); without a completed debounce span it has no effect (log 8). -/
def execSwitchChange (sw : Stop) (s : State) : Result := s.run (Controller.switchChange sw)

/-- OVER_LIMIT_CHANGE (R92). -/
def execOverLimitChange (set : Bool) (s : State) : Result := s.run (Controller.overLimitChange set)

/-- RAIL_SET (R85). -/
def execRailSet (tag : Byte) (target : Nat) (s : State) : Result := s.run (Controller.handle 0x1C#8 tag railFields (railSet target))

/-- RAIL_RECOVER (R97). -/
def execRailRecover (tag : Byte) (s : State) : Result := s.run (Controller.handle 0x1D#8 tag railStateField railRecover)

/-- RAIL_READ (R103). -/
def execRailRead (tag : Byte) (s : State) : Result := s.run (Controller.handle 0x1E#8 tag noFields railRead)

/-- RAIL_ABANDONED (R89); an expiry whose deadline is not reached has no effect (log 4). -/
def execRailAbandoned (s : State) : Result := s.run Controller.railAbandoned

/-- TRAVEL_TIMEOUT (R91); an expiry whose deadline is not reached has no effect (log 4). -/
def execTravelTimeout (s : State) : Result := s.run Controller.travelTimeout

/-- STALL (R92); an expiry whose deadline is not reached has no effect (log 4). -/
def execStall (s : State) : Result := s.run Controller.stall

/-- SETTLE_EXPIRY (R93); an expiry whose deadline is not reached has no effect (log 4). -/
def execSettleExpiry (s : State) : Result := s.run Controller.settleExpiry

end Sys2Proof.Machine
end

