-- ==== Sys2Proof/Machine/TouchUnit.lean ====
section
/-! DEFINITION. The Touch Unit (chapter 2): the four stages from flight to level, and the requests CURVE_LOAD and CURVE_READ. -/

namespace Sys2Proof.Machine

/-- R30: the first stage, the flight limited from below. -/
def limitedFlight (dt : Nat) : Nat := if dt < 150 then 150 else dt

/-- R31: the second stage, the key speed in mm/s from the travel and the limited flight. -/
def keySpeed (travel dt : Nat) : Nat := min 6000 (travel * 1000 / limitedFlight dt)

/-- R32, R33: the third stage, the curve level at a speed. -/
def curveLevel (curve : List Nat) (v : Nat) : Nat :=
  let i := v / 250
  let lo := curve.getD i 0
  if 24 ≤ i then curve.getD 24 0
  else lo + ((curve.getD (i + 1) 0 - lo) * (v - 250 * i) + 125) / 250

/-- R34: the cut of the soft pedal. -/
def softCut (s c : Nat) : Nat := s * c / 255

/-- R34: a sum clamped into 1..127. -/
def clampLevel (x : Int) : Nat := if x < 1 then 1 else if 127 < x then 127 else x.toNat

/-- R29 to R34: the level of a strike. -/
def strikeLevel (curve : List Nat) (travel dt : Nat) (levelTrim : Int) (soft cut : Nat) : Nat :=
  clampLevel ((curveLevel curve (keySpeed travel dt) : Int) + levelTrim - (softCut soft cut : Int))

namespace Controller

/-- R29: the table of a curve. -/
def curve (c : Controller) : Curve → List Nat
  | .acoustic => c.curves.acoustic
  | .silent => c.curves.silent

/-- R39: replace a curve whole. -/
def setCurve (c : Controller) (name : Curve) (es : List Nat) : Controller :=
  match name with
  | .acoustic => { c with curves := { c.curves with acoustic := es } }
  | .silent => { c with curves := { c.curves with silent := es } }

/-- R29, R35, R38: the level the Touch Unit returns for a strike of key k with a flight. -/
def touchLevel (c : Controller) (k flight : Nat) : Nat :=
  strikeLevel (c.curve c.curveInUse) (c.key k).travel flight (c.key k).levelTrim (c.pedal 2).value c.pedals.softCut

end Controller

/-- R39: the lowest index at which a table fails, an entry above 127 or below the entry before it. `before` is the entry before the list. -/
def badLevel : (before i : Nat) → List Nat → Option Nat
  | _, _, [] => none
  | before, i, e :: es => if 127 < e ∨ e < before then some i else badLevel e (i + 1) es

/-- R39: the fields of every reply to CURVE_LOAD: the failing index, where the table was judged and fails, and the curve's name, where it is known (log 17). -/
def curveFields (index : Option Nat) (name : Option Curve) : List Byte := optLE 2 index ++ optLE 1 (name.map Curve.code)

/-- R39: CURVE_LOAD. -/
def curveLoad (name : Nat) (es : List Nat) : Handler := fun c =>
  match curveOf name with
  | none => (c, { code := .badValue, fields := curveFields (some 0) none })
  | some cv =>
    match badLevel 0 0 es with
    | some i => (c, { code := .badValue, fields := curveFields (some i) (some cv) })
    | none =>
      if es = c.curve cv then (c, { code := .already, fields := curveFields none (some cv) })
      else (c.setCurve cv es, { code := .ok, fields := curveFields none (some cv) })

/-- R39: what a CURVE_LOAD shows when its table is not judged: the name alone (log 18). -/
def curveShown (name : Nat) : Shown := fun _ => curveFields none (curveOf name)

/-- R41: CURVE_READ. -/
def curveRead (name : Nat) : Handler := fun c =>
  match curveOf name with
  | none => (c, bare .badValue)
  | some cv =>
    (c, { code := .ok, fields := ((c.curve cv).flatMap fun l => bytesLE 2 l) ++ codeByte c.curveInUse.code })

/-- CURVE_LOAD (R39); a body that does not carry 25 entries is answered BAD_LENGTH (R200, R212). -/
def execCurveLoad (tag : Byte) (name : Nat) (es : List Nat) (s : State) : Result :=
  if es.length = 25 then s.run (Controller.handle 0x14#8 tag (curveShown name) (curveLoad name es))
  else s.run (Controller.refuseLength 0x14#8 tag (curveShown name))

/-- CURVE_READ (R41). -/
def execCurveRead (tag : Byte) (name : Nat) (s : State) : Result :=
  s.run (Controller.handle 0x15#8 tag noFields (curveRead name))

end Sys2Proof.Machine
end

