-- ==== Sys2Proof/Machine/Keys.lean ====
section
/-! DEFINITION. The Key Scanner (chapter 1): depth, crossings and their times, the key state machine, withdrawal and re-evaluation, sensor faults, the wake check, and the requests THRESHOLDS, KEY_MUTE, KEY_PARAM and KEY_READ. -/

namespace Sys2Proof.Machine

/-! ### Depth (R4) -/

/-- R4: the effective rest of a key. -/
def KeyRec.effectiveRest (r : KeyRec) : Nat := min (r.restRaw.getD r.nominal) (r.bottom - 64)

/-- R4: the depth of a key at a raw reading. -/
def KeyRec.depth (r : KeyRec) (raw : Nat) : Nat :=
  let e := r.effectiveRest
  if raw < e then 0 else min 1023 ((raw - e) * 1023 / (r.bottom - e))

/-- R3: the depth of the latest sample, 0 before the first (log 23). -/
def KeyRec.latestDepth (r : KeyRec) : Nat :=
  match r.latest with
  | some s => s.depth
  | none => 0

/-- R3: the raw reading of the latest sample, 0 before the first (log 23). -/
def KeyRec.latestRaw (r : KeyRec) : Nat :=
  match r.latest with
  | some s => s.raw
  | none => 0

/-- R3, R26: a sample is kept as the latest, and the latest before it as the previous. -/
def KeyRec.keepSample (r : KeyRec) (s : Sample) : KeyRec := { r with latest := some s, previous := r.latest }

/-! ### Crossings (R6, R7) -/

/-- The hysteresis H (chapter 0). -/
def hysteresis : Nat := 8

/-- R6: the transitions of the positional states. -/
inductive Crossing where
  | restRise
  | restFall
  | dampRise
  | dampFall
  | liftRise
  | retreat
  | strike
  | liftFall
deriving DecidableEq, Repr

/-- R6: the comparison that holds at a depth in the key's state. -/
def crossingAt (t : Thresholds) (r : KeyRec) (d : Nat) : Option Crossing :=
  match r.state with
  | .rest => if t.rest ≤ d then some .restRise else none
  | .shallow =>
    if d + hysteresis < t.rest then some .restFall
    else if t.damp ≤ d ∧ r.holdOff = false then some .dampRise
    else none
  | .held =>
    if d + hysteresis < t.damp then some .dampFall
    else if t.lift ≤ d ∧ r.holdOff = false ∧ r.liftSpent = false then some .liftRise
    else none
  | .armed =>
    if d + hysteresis < t.lift then some .retreat
    else if t.strike ≤ d then some .strike
    else none
  | .struck => if d + hysteresis < t.lift then some .liftFall else none
  | .uncal | .fault | .muted => none

/-- R7: the rising crossing time of T, from the previous sample, if it stands 20 µs before, and the current one. -/
def risingTime (previous : Option Sample) (current : Sample) (t : Nat) : Time :=
  match previous with
  | some p => if p.depth < t then after p.time (20 * (t - p.depth) / (current.depth - p.depth)) else current.time
  | none => current.time

/-- R7: the falling crossing time of T. -/
def fallingTime (previous : Option Sample) (current : Sample) (t : Nat) : Time :=
  match previous with
  | some p =>
    if t ≤ p.depth + hysteresis then
      after p.time (20 * (p.depth + hysteresis - t) / (p.depth - current.depth))
    else current.time
  | none => current.time

/-! ### Key events (R24) -/

namespace Controller

/-- R24: DAMPER_UP is handed to the Voice Pool and the Recorder. -/
def handDamperUp (c : Controller) (k : Nat) : Controller :=
  (c.reevaluateKeys .live [k]).recWrite .damperUp k 0

/-- R24: DAMPER_DOWN is handed to the Voice Pool and the Recorder. -/
def handDamperDown (c : Controller) (k : Nat) : Controller :=
  (c.reevaluateKeys .live [k]).recWrite .damperDown k 0

/-- R25: the flags and fields of a STRIKE report. -/
def strikeReport (c : Controller) (k level flight : Nat) (again : Bool) : Report :=
  .strike k level flight again (c.key k).stale (c.rail.state == .engaging || c.rail.state == .disengaging)
    (c.curveInUse == .silent)

/-- R12, R24: a STRIKE goes to the Touch Unit, and with its level to the Voice Pool, the Recorder, the Player and the Link (log 11). -/
def handStrike (c : Controller) (k flight : Nat) (again : Bool) (t : Time) : Controller :=
  let level := c.touchLevel k flight
  let said := c.strikeReport k level flight again
  (((c.liveStrike k level).recStrike k level).guideStrike k).reportAt t said

/-! ### The transitions (R10 to R14) -/

/-- R12: a strike of key k at its crossing time.
DESIGN CHOICE (log 35): on a sample whose rising T_lift crossing takes the sample's own time, because d₀ ≥ T_lift after a THRESHOLDS, the formula of R7 can give a strike time before the lift time, against R7's sentence that it never does. The formulas are followed, and the flight is the difference modulo 2^32 as R12 writes it. -/
def strikeKey (c : Controller) (k : Nat) (r : KeyRec) (t : Time) : Controller :=
  let flight := max 1 (match r.tLift with
    | some l => elapsed t l
    | none => 0)
  (c.setKey k { r with state := .struck, flight := none, tLift := none, sounded := true }).handStrike k flight
    r.sounded t

/-- R10 to R14: the effect of a crossing of key k, from its previous sample and the current one. -/
def cross (c : Controller) (k : Nat) (x : Crossing) (previous : Option Sample) (current : Sample) : Controller :=
  let r := c.key k
  match x with
  | .restRise => c.setKey k { r with state := .shallow }
  | .restFall => c.setKey k { r with state := .rest, holdOff := false }
  | .dampRise => (c.setKey k { r with state := .held }).handDamperUp k
  | .dampFall =>
    ((c.setKey k { r with state := .shallow, sounded := false, liftSpent := false }).handDamperDown k).reportAt
      (fallingTime previous current c.thresholds.damp) (.release k r.sounded)
  | .liftRise =>
    let t := risingTime previous current c.thresholds.lift
    c.setKey k { r with state := .armed, tLift := some t, flight := some (after t 120000) }
  | .retreat => c.setKey k { r with state := .held, flight := none, tLift := none }
  | .strike => c.strikeKey k r (risingTime previous current c.thresholds.strike)
  | .liftFall => c.setKey k { r with state := .held }

/-- R6: compare a depth, take the transition, and compare again until no comparison holds; a sample passes at most five states. -/
def compare (k : Nat) (previous : Option Sample) (current : Sample) : (fuel : Nat) → Controller → Controller
  | 0, c => c
  | n + 1, c =>
    match crossingAt c.thresholds (c.key k) current.depth with
    | some x => compare k previous current n (c.cross k x previous current)
    | none => c

/-- R11: a key in HELD whose depth falls below T_lift − 8 has its lift_spent field cleared. -/
def clearSpent (c : Controller) (k d : Nat) : Controller :=
  let r := c.key k
  if r.state = .held ∧ d + hysteresis < c.thresholds.lift then c.setKey k { r with liftSpent := false } else c

/-! ### Withdrawal and re-evaluation (R16, R17) -/

/-- R16: key k withdraws from a positional state into a condition state. -/
def withdraw (c : Controller) (k : Nat) (into : KeyState) : Controller :=
  let r := c.key k
  let c := c.setKey k { r with state := into, flight := none, tLift := none, sounded := false, liftSpent := false
                               holdOff := false }
  if r.state.up then c.handDamperDown k else c

/-- R16: key k enters a condition state, withdrawing where it was in a positional state. -/
def enterCondition (c : Controller) (k : Nat) (into : KeyState) : Controller :=
  if (c.key k).state.positional then c.withdraw k into else c.modKey k fun r => { r with state := into }

end Controller

/-- R17: a re-evaluated key, placed by its mute and by the depth of its latest sample. -/
def KeyRec.reevaluated (r : KeyRec) (t : Thresholds) : KeyRec :=
  let r := { r with flight := none, tLift := none, sounded := false, liftSpent := false }
  if r.muted then { r with state := .muted, holdOff := false }
  else if r.latestDepth < t.rest then { r with state := .rest, holdOff := false }
  else { r with state := .shallow, holdOff := true }

namespace Controller

/-- R17: key k is re-evaluated. -/
def reevaluateKey (c : Controller) (k : Nat) : Controller := c.modKey k fun r => r.reevaluated c.thresholds

/-- R23, R45, R88: after keys may have changed state, the Rail Drive tests its wait and the trim units follow. -/
def keysMoved (c : Controller) : Controller := c.railTest.trimSync

end Controller

/-! ### Samples (R3, R18, R19) -/

/-- R18, R19: the reading of a sample updates the key's fault or recovery timer. -/
def KeyRec.watch (r : KeyRec) (now : Time) (raw : Nat) : KeyRec :=
  if r.state = .fault then
    { r with recovery := if inRange raw then some (r.recovery.getD (after now 500000)) else none }
  else
    { r with faultTimer := if inRange raw then none else some (r.faultTimer.getD (after now 50000)) }

namespace Controller

/-- R3: a full-rate sample of key k: the timers, the depth, the comparisons, then the readings of the Trim Engine (R47, R54). Full-rate scanning runs only while the Link is ACTIVE. -/
def keySample (k raw : Nat) (c : Controller) : Controller :=
  if c.link.state = .active then
    let r := (c.key k).watch c.now raw
    let current : Sample := { time := c.now, raw := raw, depth := r.depth raw }
    let previous := if r.resumed then none else r.latest
    let c := c.setKey k { r.keepSample current with resumed := false }
    let c := Controller.compare k previous current 5 (c.clearSpent k current.depth)
    ((c.trimReading k raw).calReading k raw).keysMoved
  else c

/-- R15: the flight timer of key k expires. -/
def silentPress (k : Nat) (c : Controller) : Controller :=
  let r := c.key k
  match r.state, r.flight with
  | .armed, some d =>
    if c.expired (some d) then
      (c.setKey k { r with state := .held, tLift := none, flight := none, liftSpent := true }).reportAt d
        (.silentPress k)
    else c
  | _, _ => c

/-- R18: the fault timer of key k expires. -/
def keyFault (k : Nat) (c : Controller) : Controller :=
  let r := c.key k
  if r.state ≠ .fault ∧ c.expired r.faultTimer = true then
    let c := c.enterCondition k .fault
    let c := c.modKey k fun r => { r with faultTimer := none, recovery := none }
    ((c.dropExam k).report (.keyFault k r.state r.latestRaw)).keysMoved
  else c

/-- R19: the recovery timer of key k expires. -/
def keyClear (k : Nat) (c : Controller) : Controller :=
  let r := c.key k
  if r.state = .fault ∧ c.expired r.recovery = true then
    let c := c.setKey k { r with state := .uncal, recovery := none }
    ((c.report (.keyClear k)).joinOrMark (groupOf k)).trimSync
  else c

/-- R26: the wake check of key k in standby. -/
def wakeCheck (k raw : Nat) (c : Controller) : Controller :=
  let r := c.key k
  if c.link.state = .standby ∧ r.state = .rest then
    let current : Sample := { time := c.now, raw := raw, depth := r.depth raw }
    let wakes := decide (r.latestDepth < c.thresholds.lift ∧ c.thresholds.lift ≤ current.depth)
    let r := r.keepSample current
    if wakes then
      ((c.setKey k { r with state := .held, holdOff := true }).report (.wakeKey k)).wakeBegin (.key k)
    else c.setKey k r
  else c

end Controller

/-! ### The requests (R5, R20, R21, R22) -/

/-- A key number a request may name, 1..88. -/
def keyOk (k : Nat) : Bool := decide (1 ≤ k ∧ k ≤ 88)

/-- R5: the fields of every reply to THRESHOLDS. -/
def thresholdFields (t : Thresholds) : List Byte :=
  bytesLE 2 t.rest ++ bytesLE 2 t.damp ++ bytesLE 2 t.lift ++ bytesLE 2 t.strike

/-- R5: the set in force. -/
def thresholdShown : Shown := fun c => thresholdFields c.thresholds

/-- R5: the constraints on the four thresholds, whose values lie within 0..1023. -/
def Thresholds.ok (t : Thresholds) : Bool :=
  decide (16 ≤ t.rest ∧ t.rest + 16 ≤ t.damp ∧ t.damp + 16 ≤ t.lift ∧ t.lift + 64 ≤ t.strike ∧ t.strike ≤ 1000)

/-- R5: THRESHOLDS. -/
def thresholdsRequest (rest damp lift strike : Nat) : Handler := fun c =>
  let t : Thresholds := { rest := rest, damp := damp, lift := lift, strike := strike }
  if t.ok = false then (c, { code := .badValue, fields := thresholdFields c.thresholds })
  else if t = c.thresholds then (c, { code := .already, fields := thresholdFields c.thresholds })
  else ({ c with thresholds := t }, { code := .ok, fields := thresholdFields t })

/-- R20: KEY_MUTE. -/
def keyMute (k flag : Nat) : Handler := fun c =>
  let on := flag != 0
  if keyOk k = false then (c, bare .badValue)
  else if on = (c.key k).muted then (c, bare .already)
  else
    let c := c.modKey k fun r => { r with muted := on }
    let c :=
      if on then
        let c := c.dropExam k
        if (c.key k).state.positional then c.withdraw k .muted else c
      else if (c.key k).state = .muted then c.reevaluateKey k
      else c
    (c.keysMoved, bare .ok)

/-- R21: the ranges and the constraint of the four parameters. -/
def paramsOk (nominal bottom travel : Nat) (levelTrim : Int) : Bool :=
  decide (nominal ≤ 4095 ∧ bottom ≤ 4095 ∧ 2000 ≤ travel ∧ travel ≤ 16000 ∧ -16 ≤ levelTrim ∧ levelTrim ≤ 15
    ∧ nominal + 256 ≤ bottom)

/-- R21: a KEY_PARAM takes away the calibration of key k: it stays in FAULT, or is marked for the completion of its group's FULL calibration, or enters UNCAL at once and its group joins the FIFO (log 12). -/
def Controller.loseCalibration (c : Controller) (k : Nat) : Controller :=
  if (c.key k).state = .fault then c
  else if c.calibrating (groupOf k) then
    (c.modKey k fun r => { r with calLost := true }).joinOrMark (groupOf k)
  else ((c.enterCondition k .uncal).railTest).joinOrMark (groupOf k)

/-- R21: KEY_PARAM. -/
def keyParam (k nominal bottom travel : Nat) (levelTrim : Int) : Handler := fun c =>
  if keyOk k = false ∨ paramsOk nominal bottom travel levelTrim = false then (c, bare .badValue)
  else
    let r := c.key k
    let moved : Bool := nominal != r.nominal || bottom != r.bottom
    if !moved && travel == r.travel && levelTrim == r.levelTrim then (c, bare .already)
    else
      let c := c.setKey k { r with nominal := nominal, bottom := bottom, travel := travel, levelTrim := levelTrim }
      let c := if moved then c.loseCalibration k else c
      (c.keysMoved, bare .ok)

/-- R22: KEY_READ. -/
def keyRead (k : Nat) : Handler := fun c =>
  if keyOk k = false then (c, bare .badValue)
  else
    let r := c.key k
    (c, { code := .ok, fields :=
      codeByte r.state.code ++ optLE 2 (r.latest.map Sample.depth) ++ optLE 2 r.restRaw ++ bytesLE 2 r.nominal
        ++ bytesLE 2 r.bottom ++ bytesLE 2 r.travel ++ signed2 r.levelTrim ++ signed2 r.debt ++ flagByte r.stale
        ++ flagByte r.muted ++ flagByte r.holdOff ++ thresholdFields c.thresholds })

/-! ### The commands -/

/-- WAKE_CHECK (R26); outside standby, or for a key not in REST, no check is made (log 30). -/
def execWakeCheck (k raw : Nat) (s : State) : Result := runReading raw (s.runKey k (Controller.wakeCheck k raw))

/-- THRESHOLDS (R5). -/
def execThresholds (tag : Byte) (rest damp lift strike : Nat) (s : State) : Result :=
  s.run (Controller.handle 0x10#8 tag thresholdShown (thresholdsRequest rest damp lift strike))

/-- KEY_MUTE (R20). -/
def execKeyMute (tag : Byte) (k flag : Nat) (s : State) : Result :=
  s.run (Controller.handle 0x11#8 tag noFields (keyMute k flag))

/-- KEY_PARAM (R21). -/
def execKeyParam (tag : Byte) (k nominal bottom travel : Nat) (levelTrim : Int) (s : State) : Result :=
  s.run (Controller.handle 0x12#8 tag noFields (keyParam k nominal bottom travel levelTrim))

/-- KEY_READ (R22). -/
def execKeyRead (tag : Byte) (k : Nat) (s : State) : Result := s.run (Controller.handle 0x13#8 tag noFields (keyRead k))

/-- KEY_SAMPLE (R3). -/
def execKeySample (k raw : Nat) (s : State) : Result := runReading raw (s.runKey k (Controller.keySample k raw))

/-- SILENT_PRESS (R15); an expiry whose deadline is not reached has no effect (log 4). -/
def execSilentPress (k : Nat) (s : State) : Result := s.runKey k (Controller.silentPress k)

/-- KEY_FAULT (R18); an expiry whose deadline is not reached has no effect (log 4). -/
def execKeyFault (k : Nat) (s : State) : Result := s.runKey k (Controller.keyFault k)

/-- KEY_CLEAR (R19); an expiry whose deadline is not reached has no effect (log 4). -/
def execKeyClear (k : Nat) (s : State) : Result := s.runKey k (Controller.keyClear k)

end Sys2Proof.Machine
end

