-- ==== Sys2Proof/Machine/Calibration.lean ====
section
/-! DEFINITION. The completion of a FULL calibration (R55, R56). -/

namespace Sys2Proof.Machine

/-- R54: the span of a FULL calibration in µs. -/
def calSpan : Nat := 300000

/-- R55: an examined key is accepted, by its readings and its nominal rest reading. Fewer than 256 readings do not accept it (log 13). -/
def Exam.accepted (e : Exam) (nominal : Nat) : Bool :=
  let m := e.readings.mean 256
  decide (256 ≤ e.readings.count) && !e.readings.outSeen && decide (e.readings.spread ≤ 12)
    && decide (nominal ≤ m + 160 ∧ m ≤ nominal + 160) && (!e.positional || e.allRest)

namespace Controller

/-- R55: an accepted key takes the mean as its rest reading and debt 0, loses its stale mark with a report, and leaves UNCAL by re-evaluation. -/
def acceptKey (c : Controller) (k mean : Nat) : Controller :=
  let r := c.key k
  let c := c.setKey k { r with restRaw := some mean, debt := 0, stale := false }
  let c := if r.stale then c.report (.trimRecovered k true) else c
  if r.state = .uncal then c.reevaluateKey k else c

/-- R55, R56: judge examined keys in their order; the rejected keys are listed. -/
def judgeExams : List Exam → Controller → Controller × List Nat
  | [], c => (c, [])
  | e :: es, c =>
    if e.accepted (c.key e.key).nominal then judgeExams es (c.acceptKey e.key (e.readings.mean 256))
    else
      let r := judgeExams es c
      (r.1, e.key :: r.2)

/-- R21, R56: a key whose calibration was taken away during the FULL calibration enters UNCAL; a key in FAULT stays there. -/
def applyLoss (c : Controller) (k : Nat) : Controller :=
  let r := c.key k
  if r.calLost then
    let c := c.setKey k { r with calLost := false }
    if r.state = .fault then c else c.enterCondition k .uncal
  else c

/-- R56: the completion of the FULL calibration in progress, in the order of its eight steps. -/
def calFinish (c : Controller) (cal : Calibration) : Controller :=
  let judged := judgeExams cal.exams c
  let c := (groupKeys cal.group).foldl applyLoss judged.1
  let c := c.report (.calDone cal.group judged.2)
  let fifo := if cal.rejoin && !c.trim.fifo.contains cal.group then c.trim.fifo ++ [cal.group] else c.trim.fifo
  let c := { c with trim := { c.trim with cal := none, fifo := fifo } }
  c.tryGrant.keysMoved

/-- R54, R56: the FULL calibration in progress has run its 300,000 µs. -/
def calDue (c : Controller) : Bool :=
  match c.trim.cal with
  | some cal => !c.clock.suspended && decide (calSpan ≤ elapsed c.now cal.start)
  | none => false

/-- R56: the FULL calibration in progress completes. -/
def calComplete (c : Controller) : Controller :=
  match c.trim.cal with
  | some cal => if c.calDue then c.calFinish cal else c
  | none => c

end Controller

/-- CAL_COMPLETE (R56); without a calibration that has run its span it has no effect (log 4). -/
def execCalComplete (s : State) : Result := s.run Controller.calComplete

end Sys2Proof.Machine
end

