-- ==== Sys2Proof/Machine/Headphones.lean ====
section
/-! DEFINITION. The Headphone Path (chapter 7): the jack, the output state and its ramps, the levels and their glides, the samples of a frame, and the request PHONES. -/

namespace Sys2Proof.Machine

/-! ### Spans in frames (R133) -/

/-- R133: the full span of the output ramp. -/
def rampSpan : Nat := 2400

/-- R133: the span of a level glide. -/
def glideSpan : Nat := 480

/-- R133: the span of the jack debounce. -/
def jackSpan : Nat := 4800

/-! ### The output state (R135 to R137) -/

namespace Controller

/-- Change the Headphone Path. -/
def modPhones (c : Controller) (f : HeadphonePath → HeadphonePath) : Controller := { c with phones := f c.phones }

/-- R137: the output arrives at OFF, and the voices are freed where a standby freeing is owed (R130). -/
def arriveOff (c : Controller) : Controller :=
  let owed := c.phones.freeingOwed
  let c := c.modPhones fun p => { p with output := .off, ramp := 0, freeingOwed := false }
  if owed then c.freeVoices.toneCheck else c

/-- R135, R136: the output condition is decided afresh, and the output state follows. A ramp whose end is not yet taken reverses at position 1 or 2,399 (R137; log 8). An output in OFF that is wanted off arrives at OFF at once where a freeing is owed (R142). -/
def outputDecide (c : Controller) : Controller :=
  if c.outputWanted then
    match c.phones.output with
    | .off => c.modPhones fun p => { p with output := .rising, ramp := 0 }
    | .falling => c.modPhones fun p => { p with output := .rising, ramp := max p.ramp 1 }
    | .rising | .on => c
  else
    match c.phones.output with
    | .on => c.modPhones fun p => { p with output := .falling, ramp := rampSpan }
    | .rising => c.modPhones fun p => { p with output := .falling, ramp := min p.ramp (rampSpan - 1) }
    | .off => if c.phones.freeingOwed then c.arriveOff else c
    | .falling => c

/-- R136, R137: a ramp has reached its end. -/
def rampDue (c : Controller) : Bool :=
  match c.phones.output with
  | .rising => decide (rampSpan ≤ c.phones.ramp)
  | .falling => c.phones.ramp == 0
  | .off | .on => false

/-- R136, R137: the ramp that has reached its end leaves the output ON or OFF. -/
def rampEnd (c : Controller) : Controller :=
  if c.rampDue then
    match c.phones.output with
    | .rising => c.modPhones fun p => { p with output := .on, ramp := rampSpan }
    | .falling => c.arriveOff
    | .off | .on => c
  else c

/-! ### The jack (R134) -/

/-- R134: the jack run is complete, and the jack state takes the raw level. -/
def jackChange (c : Controller) : Controller :=
  if c.phones.jackRun = jackSpan then
    let present := !c.phones.jackPresent
    let c := c.modPhones fun p => { p with jackPresent := present, jackRun := 0 }
    let c := c.report (if present then .jackIn else .jackOut)
    let c := c.outputDecide
    if present ∧ c.link.state = .standby then c.wakeBegin .jack else c
  else c

end Controller

/-! ### The levels (R138) -/

/-- R138: the attenuation of a master volume. -/
def volumeAttenuation (v : Nat) : Nat := if v = 0 then 960 else (63 - v) * 15

/-- R138: the attenuation of a mix. -/
def mixAttenuation (m : Nat) : Nat := m * 15

/-- R138: the applied attenuation of a glide at its count, the quotient taken toward zero. -/
def Glide.applied (g : Glide) : Nat :=
  ((g.start : Int) + (((g.target : Int) - (g.start : Int)) * (g.count : Int)).tdiv 480).toNat

/-- R138: one frame of a level: the glide's count rises, up to 480. -/
def LevelRec.frame (l : LevelRec) : LevelRec :=
  match l.glide with
  | some g =>
    let g := { g with count := min (g.count + 1) glideSpan }
    { l with applied := g.applied, glide := some g }
  | none => l

/-- R138: a glide that has run its 480 frames ends at its target. -/
def LevelRec.finish (l : LevelRec) : LevelRec :=
  match l.glide with
  | some g => if glideSpan ≤ g.count then { l with applied := g.target, glide := none } else l
  | none => l

/-- R138: a level is given a setting; a setting that differs starts a glide from the applied attenuation. -/
def LevelRec.give (l : LevelRec) (setting target : Nat) : LevelRec :=
  if setting = l.setting then l
  else { l with setting := setting, glide := some { start := l.applied, target := target, count := 0 } }

/-- The level record of a level. -/
def HeadphonePath.level (p : HeadphonePath) : Level → LevelRec
  | .master => p.master
  | .liveMix => p.liveMix
  | .playbackMix => p.playbackMix

/-- Replace a level record. -/
def HeadphonePath.setLevel (p : HeadphonePath) (name : Level) (l : LevelRec) : HeadphonePath :=
  match name with
  | .master => { p with master := l }
  | .liveMix => { p with liveMix := l }
  | .playbackMix => { p with playbackMix := l }

/-- R138: the glide of a level ends. -/
def Controller.glideEnd (name : Level) (c : Controller) : Controller :=
  c.modPhones fun p => p.setLevel name (p.level name).finish

/-! ### The samples of a frame (R139, R140) -/

namespace Controller

/-- R139: the output attenuation of a voice. -/
def outputAttenuation (c : Controller) (n : Note) : Nat :=
  n.attenuation c.now
    + (match n.source with
       | .live => c.phones.liveMix.applied
       | .playback => c.phones.playbackMix.applied)
    + c.phones.master.applied

end Controller

/-- The greatest number up to `n` that a test admits, 0 when it admits none above 0. -/
def greatestUpTo (test : Nat → Bool) : (n : Nat) → Nat
  | 0 => 0
  | n + 1 => if test (n + 1) then n + 1 else greatestUpTo test n

/-- R139: a magnitude scaled to an attenuation of `a` in 0.1 dB, m × 10^(−a / 200) rounded down: the greatest n with n^200 × 10^a ≤ m^200.
That 20 dB are a factor of 10 in a sample, and the rounding, are marked in log 15. -/
def scaledMagnitude (a m : Nat) : Nat := greatestUpTo (fun n => decide (n ^ 200 * 10 ^ a ≤ m ^ 200)) m

/-- R139: a sample scaled to an attenuation, its sign kept. -/
def scaledSample (a : Nat) (w : Int) : Int := w.sign * (scaledMagnitude a w.natAbs : Int)

namespace Controller

/-- R139: the sample of a voice, its waveform scaled to its output attenuation; at 96 dB or more it contributes nothing. -/
def voiceSample (c : Controller) (n : Note) : Int :=
  let a := c.outputAttenuation n
  if silence ≤ a then 0 else scaledSample a (Config.waveform n.tone n.key n.level (c.phones.frame - n.startFrame))

/-- R140: the sum of the voices for a channel, whose weight for a key is given in parts of 174. -/
def channelSum (c : Controller) (weight : Nat → Nat) : Int :=
  c.pool.voices.foldl
    (fun acc v =>
      match v with
      | some n => acc + (c.voiceSample n * (weight (n.key - 1) : Int)).fdiv 174
      | none => acc) 0

end Controller

/-- R140: a sample beyond full scale is clipped to full scale. -/
def clip (x : Int) : Int :=
  if Config.fullScaleMax < x then Config.fullScaleMax else if x < Config.fullScaleMin then Config.fullScaleMin else x

namespace Controller

/-- R140: the sample of a channel; at ramp position 0 it is silent. -/
def channel (c : Controller) (weight : Nat → Nat) : Int :=
  if c.phones.ramp = 0 then 0 else clip ((c.channelSum weight * (c.phones.ramp : Int)).fdiv 2400)

end Controller

/-! ### One frame (R81, R133, R134, R136, R138) -/

/-- R81: one frame of a switch input. A completed debounce span waits for its SWITCH_CHANGE (log 8). -/
def Switch.frame (s : Switch) (level : Bool) : Switch :=
  if s.run = 96 then { s with level := level }
  else { s with level := level, run := if level = s.closed then 0 else s.run + 1 }

/-- R136: one frame of the ramp. -/
def HeadphonePath.rampFrame (p : HeadphonePath) : Nat :=
  match p.output with
  | .rising => min (p.ramp + 1) rampSpan
  | .falling => p.ramp - 1
  | .off | .on => p.ramp

/-- R133, R134, R136, R138: one frame of the Headphone Path's counts. A completed jack run waits for its JACK_CHANGE (log 8). -/
def HeadphonePath.tick (p : HeadphonePath) (jack : Bool) : HeadphonePath :=
  { p with
    frame := p.frame + 1
    jackLevel := jack
    jackRun := if p.jackRun = jackSpan then p.jackRun else if jack = p.jackPresent then 0 else p.jackRun + 1
    master := p.master.frame
    liveMix := p.liveMix.frame
    playbackMix := p.playbackMix.frame
    ramp := p.rampFrame }

/-- R133: one tick of the output frame clock. -/
def Controller.outputFrame (jack clearClosed engagedClosed : Bool) (c : Controller) : Controller :=
  let c := c.modPhones fun p => p.tick jack
  let c := { c with rail :=
    { c.rail with clearSwitch := c.rail.clearSwitch.frame clearClosed
                  engagedSwitch := c.rail.engagedSwitch.frame engagedClosed } }
  c.modPhones fun p =>
    { p with left := c.channel fun q => 174 - q, right := c.channel fun q => 87 + q }

/-! ### PHONES (R141) -/

/-- R141: the fields of every reply to PHONES. -/
def phonesFields (c : Controller) (volume live playback : Nat) : List Byte :=
  flagByte c.phones.enable ++ flagByte false
    ++ bytesLE 2 c.phones.master.setting ++ flagByte (decide (63 < volume))
    ++ bytesLE 2 c.phones.liveMix.setting ++ flagByte (decide (31 < live))
    ++ bytesLE 2 c.phones.playbackMix.setting ++ flagByte (decide (31 < playback))
    ++ flagByte c.phones.jackPresent ++ codeByte c.phones.output.code ++ bytesLE 2 c.phones.ramp
    ++ bytesLE 2 c.phones.master.applied ++ bytesLE 2 c.phones.liveMix.applied
    ++ bytesLE 2 c.phones.playbackMix.applied

/-- R141: PHONES. -/
def phonesRequest (enable volume live playback : Nat) : Handler := fun c =>
  let on := enable != 0
  let v := min volume 63
  let l := min live 31
  let b := min playback 31
  if on = c.phones.enable ∧ v = c.phones.master.setting ∧ l = c.phones.liveMix.setting
      ∧ b = c.phones.playbackMix.setting then
    (c, { code := .already, fields := phonesFields c volume live playback })
  else
    let c := c.modPhones fun p =>
      { p with
        enable := on
        master := p.master.give v (volumeAttenuation v)
        liveMix := p.liveMix.give l (mixAttenuation l)
        playbackMix := p.playbackMix.give b (mixAttenuation b) }
    let c := c.outputDecide
    (c, { code := .ok, fields := phonesFields c volume live playback })

/-! ### The commands -/

/-- PHONES (R141). -/
def execPhones (tag : Byte) (enable volume live playback : Nat) (s : State) : Result :=
  s.run (Controller.handle 0x25#8 tag (phonesFields · 0 0 0) (phonesRequest enable volume live playback))

/-- JACK_CHANGE (R134); without a completed jack run it has no effect (log 8). -/
def execJackChange (s : State) : Result := s.run Controller.jackChange

/-- RAMP_END (R137); without a ramp at its end it has no effect (log 8). -/
def execRampEnd (s : State) : Result := s.run Controller.rampEnd

/-- GLIDE_END (R138); without a glide at its end it has no effect (log 8). -/
def execGlideEnd (name : Level) (s : State) : Result := s.run (Controller.glideEnd name)

/-- OUTPUT_FRAME (R133). -/
def execOutputFrame (jack clearClosed engagedClosed : Bool) (s : State) : Result :=
  s.run (Controller.outputFrame jack clearClosed engagedClosed)

end Sys2Proof.Machine
end

