-- ==== Sys2Proof/Machine/Pedals.lean ====
section
/-! DEFINITION. The Pedal Unit (chapter 4): values, faults, the sostenuto, value reports, and the requests PEDAL_PARAM and PEDAL_READ. -/

namespace Sys2Proof.Machine

/-! ### Values (R64, R66, R67) -/

/-- R64: the value of a pedal at a raw reading. -/
def PedalRec.valueAt (r : PedalRec) (raw : Nat) : Nat :=
  if raw < r.restRaw then 0 else min 255 ((raw - r.restRaw) * 255 / (r.fullRaw - r.restRaw))

/-- R66, R67: the reading of a sample updates the pedal's fault or recovery timer. -/
def PedalRec.watch (r : PedalRec) (now : Time) (raw : Nat) : PedalRec :=
  if r.fault then
    { r with recovery := if inRange raw then some (r.recovery.getD (after now 500000)) else none }
  else
    { r with faultTimer := if inRange raw then none else some (r.faultTimer.getD (after now 50000)) }

/-! ### The sostenuto (R70 to R73) -/

namespace Controller

/-- R73: the sostenuto disengages. -/
def sostenutoOff (c : Controller) : Controller :=
  let keys := c.pedals.sostenuto
  let c := { c with pedals := { c.pedals with engaged := false, sostenuto := [] } }
  (c.report (.sostenutoOff keys.length)).reevaluateKeys .live keys

/-- R70, R73: a value of pedal 1 is compared with the engaging level 128 and the release level 96. -/
def sostenutoCompare (c : Controller) (v : Nat) : Controller :=
  if c.pedals.engaged then
    if v < 96 then c.sostenutoOff else c
  else if 128 ≤ v then
    { c with pedals := { c.pedals with hold := some (c.pedals.hold.getD (after c.now 15000)) } }
  else { c with pedals := { c.pedals with hold := none } }

/-- R70, R71: the hold timer expires, and the sostenuto engages with the keys whose dampers are up. -/
def sostenutoOn (c : Controller) : Controller :=
  if c.expired c.pedals.hold then
    let keys := c.upKeys
    let c := { c with pedals := { c.pedals with engaged := true, hold := none, sostenuto := keys } }
    (c.report (.sostenutoOn keys.length)).reevaluateKeys .live keys
  else c

/-! ### Handing on (R65, R75) -/

/-- R75: the value report check of pedal p. -/
def valueReport (c : Controller) (p v : Nat) : Controller :=
  let r := c.pedal p
  if valueTest r.lastReported v then (c.setPedal p { r with lastReported := v }).report (.pedalValue p v) else c

/-- R65: a changed value of pedal p goes to the Voice Pool for the damper pedal, and to the Recorder. The sostenuto comparison stands in `sostenutoCompare`. -/
def handValue (c : Controller) (p v : Nat) : Controller :=
  (if p = 0 then c.reevaluateSource .live else c).recPedal p v

/-- R64, R65: pedal p takes a value. A changed value is handed on, the comparison of the sostenuto pedal coming before the Recorder (log 11), and is checked for a report. -/
def takeValue (c : Controller) (p v : Nat) : Controller :=
  let r := c.pedal p
  let changed := v != r.value
  let c := if changed then c.setPedal p { r with value := v } else c
  let c := if p = 1 then c.sostenutoCompare v else c
  if changed then (c.handValue p v).valueReport p v else c

/-- R64: a sample of pedal p, taken only while the Link is ACTIVE.
DESIGN CHOICE (log 32): the sostenuto comparison of R70 and R73 is made only at a sample that gives a value, so an out-of-range sample at which pedal 1 keeps a value of 128 or more starts no hold timer. -/
def pedalSample (p raw : Nat) (c : Controller) : Controller :=
  if c.link.state = .active then
    let r := (c.pedal p).watch c.now raw
    let r := { r with latest := some (c.now, raw) }
    let c := c.setPedal p r
    if r.fault = false ∧ inRange raw = true then c.takeValue p (r.valueAt raw) else c
  else c

/-- R66: the fault timer of pedal p expires. -/
def pedalFault (p : Nat) (c : Controller) : Controller :=
  let r := c.pedal p
  if r.fault = false ∧ c.expired r.faultTimer = true then
    let c := c.setPedal p { r with fault := true, faultTimer := none, recovery := none, value := 0, lastReported := 0 }
    let c := if p = 1 then c.sostenutoCompare 0 else c
    let c := if r.value = 0 then c else c.handValue p 0
    c.report (.pedalFault p (match r.latest with
      | some s => s.2
      | none => 0))
  else c

/-- R67: the recovery timer of pedal p expires. -/
def pedalClear (p : Nat) (c : Controller) : Controller :=
  let r := c.pedal p
  if r.fault = true ∧ c.expired r.recovery = true then
    (c.setPedal p { r with fault := false, recovery := none }).report (.pedalClear p)
  else c

end Controller

/-! ### The requests (R77, R78) -/

/-- R77: the fields of every reply to PEDAL_PARAM. -/
def pedalFields (c : Controller) (p : Nat) : List Byte :=
  (if p < 3 then bytesLE 2 (c.pedal p).restRaw ++ bytesLE 2 (c.pedal p).fullRaw else absent 4)
    ++ bytesLE 2 c.pedals.softCut

/-- R77: PEDAL_PARAM. -/
def pedalParam (p rest full cut : Nat) : Handler := fun c =>
  if 2 < p ∨ 4095 < rest ∨ 4095 < full ∨ full < rest + 64 ∨ 24 < cut then
    (c, { code := .badValue, fields := pedalFields c p })
  else
    let r := c.pedal p
    if rest = r.restRaw ∧ full = r.fullRaw ∧ cut = c.pedals.softCut then
      (c, { code := .already, fields := pedalFields c p })
    else
      let c := c.setPedal p { r with restRaw := rest, fullRaw := full }
      let c := { c with pedals := { c.pedals with softCut := cut } }
      (c, { code := .ok, fields := pedalFields c p })

/-- R78: the fields of one pedal record. -/
def pedalRecFields (r : PedalRec) : List Byte :=
  bytesLE 2 r.value ++ optLE 2 (r.latest.map Prod.snd) ++ bytesLE 2 r.restRaw ++ bytesLE 2 r.fullRaw
    ++ flagByte r.fault ++ bytesLE 2 r.lastReported

/-- R78: PEDAL_READ. -/
def pedalRead : Handler := fun c =>
  (c, { code := .ok, fields :=
    pedalRecFields (c.pedal 0) ++ pedalRecFields (c.pedal 1) ++ pedalRecFields (c.pedal 2)
      ++ [Config.zoneCode (zoneOf (c.pedal 0).value)] ++ flagByte c.pedals.engaged ++ flagByte c.pedals.hold.isSome
      ++ codeByte c.pedals.sostenuto.length ++ c.pedals.sostenuto.flatMap codeByte ++ bytesLE 2 c.pedals.softCut })

/-! ### The commands -/

/-- A command that names a pedal, 0..2 (R63). -/
def State.runPedal (s : State) (p : Nat) (f : Controller → Controller) : Result :=
  if p < 3 then s.run f else .fault .noSuchPedal

/-- PEDAL_SAMPLE (R64). -/
def execPedalSample (p raw : Nat) (s : State) : Result := runReading raw (s.runPedal p (Controller.pedalSample p raw))

/-- SOSTENUTO_ON (R70); an expiry whose deadline is not reached has no effect (log 4). -/
def execSostenutoOn (s : State) : Result := s.run Controller.sostenutoOn

/-- PEDAL_FAULT (R66); an expiry whose deadline is not reached has no effect (log 4). -/
def execPedalFault (p : Nat) (s : State) : Result := s.runPedal p (Controller.pedalFault p)

/-- PEDAL_CLEAR (R67); an expiry whose deadline is not reached has no effect (log 4). -/
def execPedalClear (p : Nat) (s : State) : Result := s.runPedal p (Controller.pedalClear p)

/-- PEDAL_PARAM (R77). -/
def execPedalParam (tag : Byte) (p rest full cut : Nat) (s : State) : Result :=
  s.run (Controller.handle 0x1A#8 tag (pedalFields · p) (pedalParam p rest full cut))

/-- PEDAL_READ (R78). -/
def execPedalRead (tag : Byte) (s : State) : Result := s.run (Controller.handle 0x1B#8 tag noFields pedalRead)

end Sys2Proof.Machine
end

