-- ==== Sys2Proof/Machine/Power.lean ====
section
/-! DEFINITION. Power-on reset, soft reset, standby entry and the completion of wake: what each block takes at each (R26, R28, R60, R61, R79, R80, R106, R130, R132, R142, R143, R158, R171, R197, R206, R207, R208, R210). -/

namespace Sys2Proof.Machine

/-! ### Standby entry (R208) -/

/-- R26: a key at standby entry: its timers cancelled, and placed in REST from SHALLOW, HELD, ARMED and STRUCK. -/
def KeyRec.asleep (r : KeyRec) : KeyRec :=
  let r := { r with flight := none, faultTimer := none, recovery := none }
  if r.state.disturbs then
    { r with state := .rest, tLift := none, sounded := false, liftSpent := false, holdOff := false }
  else r

/-- R79, R80: a pedal whose timers are cancelled. -/
def PedalRec.still (r : PedalRec) : PedalRec := { r with faultTimer := none, recovery := none }

/-- R79: the Pedal Unit at standby entry. -/
def PedalUnit.asleep (u : PedalUnit) : PedalUnit :=
  { u with recs := u.recs.map PedalRec.still, engaged := false, hold := none, sostenuto := [] }

/-- R60: the Trim Engine at standby entry. -/
def TrimEngine.asleep (t : TrimEngine) : TrimEngine :=
  { t with rounds := t.rounds.map fun _ => none, units := t.units.map fun _ => { phase := .suspended, passedOver := [] } }

namespace Controller

/-- R208: standby is entered. -/
def standbyEnter (c : Controller) : Controller :=
  let c := { c with
    link := { c.link with state := .standby }
    clock := { c.clock with suspended := true }
    keys := c.keys.map KeyRec.asleep
    pedals := c.pedals.asleep
    trim := c.trim.asleep }
  let c := c.fadeVoices fun _ => true
  (c.modPhones fun p => { p with freeingOwed := true }).outputDecide

/-- R208: the busy reason of the first check that fails. -/
def busyReason (c : Controller) : Option BusyReason :=
  if c.playerState ≠ .stopped then some .player
  else if c.recState ≠ .idle then some .recorder
  else
    match c.rail.state with
    | .clear | .engaged | .fault | .unplaced => if c.trim.cal.isSome then some .calibration else none
    | .waitQuiet | .engaging | .disengaging | .settling => some .rail

end Controller

/-- R208: STANDBY. -/
def standbyRequest : Handler := fun c =>
  match c.busyReason with
  | some b => (c, { code := .badState, fields := codeByte b.code })
  | none => (c.standbyEnter, bare .ok)

/-! ### The completion of wake (R210) -/

/-- R26: a key at the completion of wake: re-evaluated where it is in REST, and its next sample not 20 µs after its latest. -/
def KeyRec.awake (r : KeyRec) (t : Thresholds) : KeyRec :=
  let r := { r with resumed := true }
  if r.state = .rest then r.reevaluated t else r

namespace Controller

/-- R210: the wake completes. -/
def wakeFinish (c : Controller) (src : WakeSource) : Controller :=
  let c := { c with
    link := { c.link with state := .active, wakeSource := none, wakeTimer := none }
    clock := { c.clock with suspended := false }
    keys := c.keys.map fun r => KeyRec.awake r c.thresholds }
  let c := c.startRounds.tryGrant
  let c := (c.modPhones fun p => { p with freeingOwed := false }).outputDecide
  c.railTest.trimSync.report (.awake src)

/-- R210: the wake timer expires. -/
def wakeComplete (c : Controller) : Controller :=
  match c.link.state, c.link.wakeSource with
  | .waking, some src => if c.frameReached c.link.wakeTimer then c.wakeFinish src else c
  | _, _ => c

end Controller

/-! ### Soft reset (R206) -/

/-- R28, R61: a key at a soft reset. -/
def KeyRec.softReset (r : KeyRec) (t : Thresholds) : KeyRec :=
  let lost := r.calLost
  let r := { r with
    debt := 1, stale := false, flight := none, tLift := none, faultTimer := none, recovery := none, calLost := false }
  match r.state with
  | .fault | .uncal => r
  | .rest | .shallow | .held | .armed | .struck | .muted =>
    if lost then { r with state := .uncal } else r.reevaluated t

/-- R80: the Pedal Unit at a soft reset. -/
def PedalUnit.softReset (u : PedalUnit) : PedalUnit :=
  { u with
    recs := u.recs.map fun r => { r.still with lastReported := r.value }
    engaged := false, hold := none, sostenuto := [] }

/-- R61: the Trim Engine at a soft reset, its rounds and choices apart. -/
def TrimEngine.softReset (t : TrimEngine) : TrimEngine :=
  { t with units := t.units.map fun _ => { phase := .idle, passedOver := [] }, fifo := [], cal := none }

/-- R197: the Player at a soft reset. -/
def Player.softReset (p : Player) : Player :=
  { p with
    session := none, damper := 0, sostenuto := 0, soft := 0, engaged := false, keyDown := [], held := []
    expected := [], consumed := [] }

namespace Controller

/-- R171: a recording is ended at a soft reset as REC_STOP ends it, without a report. -/
def recSoftReset (c : Controller) : Controller :=
  match c.recorder.job with
  | some j => c.recEnd j (c.stopLength j)
  | none => c

/-- R206: the soft reset, with the levels of the two switch inputs (R81). The Recorder's end comes before the Player's stop (R171). -/
def softReset (clearClosed engagedClosed : Bool) (c : Controller) : Controller :=
  let c := c.closeWindow.recSoftReset
  let c := { c with
    player := c.player.softReset
    pool := { c.pool with voices := c.pool.voices.map fun _ => none, pendingTone := none }
    phones := HeadphonePath.atReset c.phones.frame c.phones.jackLevel
    rail := Rail.placed clearClosed engagedClosed c.rail.overLimit
    pedals := c.pedals.softReset
    keys := c.keys.map fun r => KeyRec.softReset r c.thresholds
    trim := c.trim.softReset
    link := Link.atReset true c.now }
  c.startRounds.trimSync

end Controller

/-! ### The commands -/

/-- POWER_ON_RESET (R207): every block takes its power-on values, also out of a held reset. -/
def execPowerOnReset (clearClosed engagedClosed : Bool) (s : State) : Result :=
  .next { s with ctl := Controller.powerOn clearClosed engagedClosed }

/-- SOFT_RESET (R206); it takes place once the OK reply to RESET has been transmitted (log 21). -/
def execSoftReset (clearClosed engagedClosed : Bool) (s : State) : Result :=
  s.run fun c => if c.link.resetDue then c.softReset clearClosed engagedClosed else c

/-- RESETN_LOW (R207): the controller is held in power-on reset, and the line transmits nothing. -/
def execResetnLow (s : State) : Result :=
  s.run fun c => { c with inReset := true, link := { c.link with line := none } }

/-- STANDBY (R208). -/
def execStandby (tag : Byte) (s : State) : Result := s.run (Controller.handle 0x05#8 tag noFields standbyRequest)

/-- WAKE_COMPLETE (R210); without a wake timer that has expired it has no effect (log 4). -/
def execWakeComplete (s : State) : Result := s.run Controller.wakeComplete

end Sys2Proof.Machine
end

