-- ==== Sys2Proof/Machine/Dispatching.lean ====
section
/-! DEFINITION. The dispatch of a frame of the input queue: its check, its kind, its length, and the rule of its request (R200, R212). -/

namespace Sys2Proof.Machine

/-- Field `i` of a body that is one byte. -/
def byteAt (b : List Byte) (i : Nat) : Nat := numberLE ((b.drop i).take 1)

/-- The two-byte field at offset `i` of a body. -/
def wordAt (b : List Byte) (i : Nat) : Nat := numberLE ((b.drop i).take 2)

/-- The three-byte field at offset `i` of a body. -/
def msAt (b : List Byte) (i : Nat) : Nat := numberLE ((b.drop i).take 3)

/-- The signed byte at offset `i` of a body. -/
def signedAt (b : List Byte) (i : Nat) : Int := signedByte (b.getD i 0#8)

/-- R212: the request kinds with the body lengths each allows. TAKE_DATA allows 1 + 6n bytes for its n of 1 to 40 records. -/
def lengthOk (kind : Nat) (b : List Byte) : Option Bool :=
  let n := b.length
  match kind with
  | 0x01 | 0x02 | 0x04 | 0x05 | 0x06 => some (n == 0)
  | 0x03 => some (n == 1)
  | 0x10 => some (n == 8)
  | 0x11 => some (n == 2)
  | 0x12 => some (n == 8)
  | 0x13 => some (n == 1)
  | 0x14 => some (n == 26)
  | 0x15 => some (n == 1)
  | 0x18 => some (n == 2)
  | 0x19 => some (n == 1)
  | 0x1A => some (n == 6)
  | 0x1B | 0x1D | 0x1E => some (n == 0)
  | 0x1C => some (n == 1)
  | 0x20 => some (n == 3)
  | 0x21 => some (n == 2)
  | 0x22 => some (n == 1)
  | 0x23 => some (n == 177)
  | 0x24 => some (n == 1)
  | 0x25 => some (n == 4)
  | 0x28 => some (n == 6)
  | 0x29 => some (decide (1 ≤ byteAt b 0 ∧ byteAt b 0 ≤ 40) && n == 1 + 6 * byteAt b 0)
  | 0x2A => some (n == 0)
  | 0x2B | 0x2C => some (n == 1)
  | 0x30 => some (n == 2)
  | 0x31 => some (n == 1)
  | 0x32 => some (n == 0)
  | 0x38 => some (n == 4)
  | 0x39 | 0x3A | 0x3B | 0x40 => some (n == 0)
  | 0x3C => some (n == 3)
  | 0x3D => some (n == 7)
  | 0x3E => some (n == 1)
  | 0x3F => some (n == 4)
  | _ => none

/-- R212: the rule of a request of known kind, over the fields of its body. -/
def requestOf (kind : Nat) (b : List Byte) : Handler :=
  match kind with
  | 0x01 => ident
  | 0x02 => status
  | 0x03 => reportsRequest (byteAt b 0)
  | 0x04 => resetRequest
  | 0x05 => standbyRequest
  | 0x06 => wakeRequest
  | 0x10 => thresholdsRequest (wordAt b 0) (wordAt b 2) (wordAt b 4) (wordAt b 6)
  | 0x11 => keyMute (byteAt b 0) (byteAt b 1)
  | 0x12 => keyParam (byteAt b 0) (wordAt b 1) (wordAt b 3) (wordAt b 5) (signedAt b 7)
  | 0x13 => keyRead (byteAt b 0)
  | 0x14 => curveLoad (byteAt b 0) ((b.drop 1).map BitVec.toNat)
  | 0x15 => curveRead (byteAt b 0)
  | 0x18 => trimSet (byteAt b 0) (byteAt b 1)
  | 0x19 => calFull (byteAt b 0)
  | 0x1A => pedalParam (byteAt b 0) (wordAt b 1) (wordAt b 3) (byteAt b 5)
  | 0x1B => pedalRead
  | 0x1C => railSet (byteAt b 0)
  | 0x1D => railRecover
  | 0x1E => railRead
  | 0x20 => voiceSplit (byteAt b 0) (byteAt b 1) (byteAt b 2)
  | 0x21 => toneRequest (byteAt b 0) (byteAt b 1)
  | 0x22 => layerRequest (byteAt b 0)
  | 0x23 => decayLoad (wordsOf 88 b) (byteAt b 176)
  | 0x24 => voiceRead (byteAt b 0)
  | 0x25 => phonesRequest (byteAt b 0) (byteAt b 1) (byteAt b 2) (byteAt b 3)
  | 0x28 => takeWindow (byteAt b 0) (byteAt b 1) (wordAt b 2) (wordAt b 4)
  | 0x29 => takeData (rawRecordsOf (byteAt b 0) (b.drop 1))
  | 0x2A => takeRead
  | 0x2B => takeInfo (byteAt b 0)
  | 0x2C => takeClear (byteAt b 0)
  | 0x30 => recArm (byteAt b 0) (byteAt b 1)
  | 0x31 => recMark (byteAt b 0)
  | 0x32 => recStopRequest
  | 0x38 => playStart (byteAt b 0) (msAt b 1)
  | 0x39 => playStop
  | 0x3A => playPause
  | 0x3B => playResume
  | 0x3C => playSeek (msAt b 0)
  | 0x3D => playLoop (msAt b 0) (msAt b 3) (byteAt b 6)
  | 0x3E => playTempo (byteAt b 0)
  | 0x3F => playHands (byteAt b 0) (byteAt b 1) (byteAt b 2) (byteAt b 3)
  | 0x40 => playRead
  | _ => fun c => (c, bare .badKind)

/-- The number by which a body names what its request addresses: its first byte, and 255, which names nothing, where the body has none (log 18). -/
def addressed (b : List Byte) : Nat := (b.getD 0 0xFF#8).toNat

/-- What the replies STANDBY and BAD_LENGTH to a frame of a request carry (log 18). -/
def shownFor (kind : Nat) (b : List Byte) : Shown :=
  match kind with
  | 0x03 => reportsFields
  | 0x10 => thresholdShown
  | 0x14 => curveShown (addressed b)
  | 0x18 => trimFields
  | 0x19 => calFields []
  | 0x1A => (pedalFields · (addressed b))
  | 0x1C => railFields
  | 0x1D => railStateField
  | 0x20 => (splitFields · 0)
  | 0x21 => toneFields
  | 0x22 => layerFields
  | 0x24 => usedFields
  | 0x25 => (phonesFields · 0 0 0)
  | 0x28 | 0x2C => slotShown (addressed b)
  | 0x30 => recFields
  | 0x3D => loopFields
  | 0x3E => (tempoFields · false)
  | 0x3F => handsFields
  | _ => noFields

/-- R198: the sum of the length, kind, tag, body and check bytes is 0 modulo 256. -/
def RxFrame.checks (f : RxFrame) : Bool := sumBytes (f.length :: f.bytes) == 0#8

/-- R211: the kind byte of a frame. -/
def RxFrame.kind (f : RxFrame) : Byte := f.bytes.getD 0 0#8

/-- R211: the tag byte of a frame. -/
def RxFrame.tag (f : RxFrame) : Byte := f.bytes.getD 1 0#8

/-- R211: the body of a frame, between its tag and its check byte. -/
def RxFrame.body (f : RxFrame) : List Byte := (f.bytes.drop 2).dropLast

namespace Controller

/-- R211: a reply made before the kind of the frame is trusted. -/
def untrusted (c : Controller) (f : RxFrame) (code : ResultCode) : Controller :=
  c.pushReply untrustedKind f.tag { code := code, fields := [f.kind] }

/-- R200: a frame taken from the input queue is handled; the first step that fails gives the reply. -/
def handleFrame (c : Controller) (f : RxFrame) : Controller :=
  if f.checks = false then c.untrusted f .badCheck
  else
    match lengthOk f.kind.toNat f.body with
    | none => c.untrusted f .badKind
    | some false => c.refuseLength f.kind f.tag (shownFor f.kind.toNat f.body)
    | some true => c.handle f.kind f.tag (shownFor f.kind.toNat f.body) (requestOf f.kind.toNat f.body)

/-- R200: the Link takes the frame at the head of the input queue. -/
def dispatchFrame (c : Controller) : Controller :=
  if c.dispatchDue then
    match c.link.input with
    | f :: fs => { c with link := { c.link with input := fs } }.handleFrame f
    | [] => c
  else c

end Controller

/-- DISPATCH_FRAME (R200); with no frame that may be taken it has no effect (log 4). -/
def execDispatchFrame (s : State) : Result := s.run Controller.dispatchFrame

end Sys2Proof.Machine
end

