-- ==== Sys2Proof/Machine/Dispatch.lean ====
section
/-! DEFINITION. Which meaning each command has: one arm per row of spec/opcode_table.json. -/

namespace Sys2Proof.Machine

def exec (i : Instr) (s : State) : Host.Outcome State Fault Refusal :=
  match i with
  | .powerOnReset clearClosed engagedClosed => Sys2Proof.Machine.execPowerOnReset clearClosed engagedClosed s
  | .softReset clearClosed engagedClosed => Sys2Proof.Machine.execSoftReset clearClosed engagedClosed s
  | .rxByte byte broken => Sys2Proof.Machine.execRxByte byte broken s
  | .rxTimeout => Sys2Proof.Machine.execRxTimeout s
  | .dispatchFrame => Sys2Proof.Machine.execDispatchFrame s
  | .lineGrant => Sys2Proof.Machine.execLineGrant s
  | .txEnd => Sys2Proof.Machine.execTxEnd s
  | .ident tag => Sys2Proof.Machine.execIdent tag s
  | .status tag => Sys2Proof.Machine.execStatus tag s
  | .reports tag mask => Sys2Proof.Machine.execReports tag mask s
  | .reset tag => Sys2Proof.Machine.execReset tag s
  | .standby tag => Sys2Proof.Machine.execStandby tag s
  | .wake tag => Sys2Proof.Machine.execWake tag s
  | .wakeComplete => Sys2Proof.Machine.execWakeComplete s
  | .wakeCheck key raw => Sys2Proof.Machine.execWakeCheck key raw s
  | .thresholds tag rest damp lift strike => Sys2Proof.Machine.execThresholds tag rest damp lift strike s
  | .keyMute tag key flag => Sys2Proof.Machine.execKeyMute tag key flag s
  | .keyParam tag key nominal bottom travel levelTrim => Sys2Proof.Machine.execKeyParam tag key nominal bottom travel levelTrim s
  | .keyRead tag key => Sys2Proof.Machine.execKeyRead tag key s
  | .keySample key raw => Sys2Proof.Machine.execKeySample key raw s
  | .silentPress key => Sys2Proof.Machine.execSilentPress key s
  | .keyFault key => Sys2Proof.Machine.execKeyFault key s
  | .keyClear key => Sys2Proof.Machine.execKeyClear key s
  | .curveLoad tag curve entries => Sys2Proof.Machine.execCurveLoad tag curve entries s
  | .curveRead tag curve => Sys2Proof.Machine.execCurveRead tag curve s
  | .trimSet tag interval pullIn => Sys2Proof.Machine.execTrimSet tag interval pullIn s
  | .roundExpiry group => Sys2Proof.Machine.execRoundExpiry group s
  | .calComplete => Sys2Proof.Machine.execCalComplete s
  | .calFull tag group => Sys2Proof.Machine.execCalFull tag group s
  | .pedalSample pedal raw => Sys2Proof.Machine.execPedalSample pedal raw s
  | .sostenutoOn => Sys2Proof.Machine.execSostenutoOn s
  | .pedalFault pedal => Sys2Proof.Machine.execPedalFault pedal s
  | .pedalClear pedal => Sys2Proof.Machine.execPedalClear pedal s
  | .pedalParam tag pedal restRaw fullRaw cut => Sys2Proof.Machine.execPedalParam tag pedal restRaw fullRaw cut s
  | .pedalRead tag => Sys2Proof.Machine.execPedalRead tag s
  | .switchChange switch => Sys2Proof.Machine.execSwitchChange switch s
  | .overLimitChange exceeded => Sys2Proof.Machine.execOverLimitChange exceeded s
  | .railSet tag target => Sys2Proof.Machine.execRailSet tag target s
  | .railRecover tag => Sys2Proof.Machine.execRailRecover tag s
  | .railRead tag => Sys2Proof.Machine.execRailRead tag s
  | .railAbandoned => Sys2Proof.Machine.execRailAbandoned s
  | .travelTimeout => Sys2Proof.Machine.execTravelTimeout s
  | .stall => Sys2Proof.Machine.execStall s
  | .settleExpiry => Sys2Proof.Machine.execSettleExpiry s
  | .voiceSplit tag liveReserve playbackLends liveLends => Sys2Proof.Machine.execVoiceSplit tag liveReserve playbackLends liveLends s
  | .tone tag tone mode => Sys2Proof.Machine.execTone tag tone mode s
  | .layer tag flag => Sys2Proof.Machine.execLayer tag flag s
  | .decayLoad tag entries limit => Sys2Proof.Machine.execDecayLoad tag entries limit s
  | .voiceRead tag part => Sys2Proof.Machine.execVoiceRead tag part s
  | .voiceEnd voice => Sys2Proof.Machine.execVoiceEnd voice s
  | .phones tag enable volume liveMix playbackMix => Sys2Proof.Machine.execPhones tag enable volume liveMix playbackMix s
  | .jackChange => Sys2Proof.Machine.execJackChange s
  | .rampEnd => Sys2Proof.Machine.execRampEnd s
  | .glideEnd level => Sys2Proof.Machine.execGlideEnd level s
  | .takeWindow tag slot mode first last => Sys2Proof.Machine.execTakeWindow tag slot mode first last s
  | .takeData tag records => Sys2Proof.Machine.execTakeData tag records s
  | .takeRead tag => Sys2Proof.Machine.execTakeRead tag s
  | .takeInfo tag slot => Sys2Proof.Machine.execTakeInfo tag slot s
  | .takeClear tag slot => Sys2Proof.Machine.execTakeClear tag slot s
  | .recArm tag slot mode => Sys2Proof.Machine.execRecArm tag slot mode s
  | .recMark tag number => Sys2Proof.Machine.execRecMark tag number s
  | .recStop tag => Sys2Proof.Machine.execRecStop tag s
  | .recTimeLimit => Sys2Proof.Machine.execRecTimeLimit s
  | .playStart tag slot position => Sys2Proof.Machine.execPlayStart tag slot position s
  | .playStop tag => Sys2Proof.Machine.execPlayStop tag s
  | .playPause tag => Sys2Proof.Machine.execPlayPause tag s
  | .playResume tag => Sys2Proof.Machine.execPlayResume tag s
  | .playSeek tag position => Sys2Proof.Machine.execPlaySeek tag position s
  | .playLoop tag start stop count => Sys2Proof.Machine.execPlayLoop tag start stop count s
  | .playTempo tag tempo => Sys2Proof.Machine.execPlayTempo tag tempo s
  | .playHands tag splitKey muteMask guide window => Sys2Proof.Machine.execPlayHands tag splitKey muteMask guide window s
  | .playRead tag => Sys2Proof.Machine.execPlayRead tag s
  | .dueTimerExpiry => Sys2Proof.Machine.execDueTimerExpiry s
  | .outputFrame jack clearClosed engagedClosed => Sys2Proof.Machine.execOutputFrame jack clearClosed engagedClosed s
  | .resetnLow => Sys2Proof.Machine.execResetnLow s

end Sys2Proof.Machine
end

