-- ==== Sys2Proof/Machine/Due.lean ====
section
/-! DEFINITION. Idling (log 3): which events of the controller itself are due, and the tick of the Stage Clock. An event is due exactly when its command would have an effect. -/

namespace Sys2Proof.Machine

namespace Controller

/-- An event of the list when it is due. -/
def dueIf (due : Bool) (i : Instr) : List Instr := if due then [i] else []

/-- The expiries of the timers of key k that are due (R15, R18, R19). -/
def keyDue (c : Controller) (k : Nat) : List Instr :=
  let r := c.key k
  dueIf (r.state == .armed && c.expired r.flight) (.silentPress k)
    ++ dueIf (r.state != .fault && c.expired r.faultTimer) (.keyFault k)
    ++ dueIf (r.state == .fault && c.expired r.recovery) (.keyClear k)

/-- The expiries of the timers of pedal p that are due (R66, R67). -/
def pedalDue (c : Controller) (p : Nat) : List Instr :=
  let r := c.pedal p
  dueIf (!r.fault && c.expired r.faultTimer) (.pedalFault p) ++ dueIf (r.fault && c.expired r.recovery) (.pedalClear p)

/-- The events of the rail that are due (R81, R89, R91, R92, R93). -/
def railDue (c : Controller) : List Instr :=
  dueIf (c.rail.clearSwitch.run == debounceSpan) (.switchChange .clear)
    ++ dueIf (c.rail.engagedSwitch.run == debounceSpan) (.switchChange .engaged)
    ++ dueIf (c.rail.state == .waitQuiet && c.rail.origin.isSome && c.expired c.rail.quietTimer) .railAbandoned
    ++ dueIf (c.motorRunning && c.expired c.rail.travelTimer) .travelTimeout
    ++ dueIf (c.motorRunning && c.expired c.rail.stallTimer) .stall
    ++ dueIf (c.rail.state == .settling && c.rail.target.isSome && c.expired c.rail.settleTimer) .settleExpiry

/-- Voice i has reached its end deadline (R109). -/
def voiceDue (c : Controller) (i : Nat) : List Instr :=
  match c.voice i with
  | some n => dueIf (c.expired n.deadline) (.voiceEnd i)
  | none => []

/-- The limit timer of a FREE recording has expired (R168). -/
def recLimitDue (c : Controller) : Bool :=
  match c.recorder.job with
  | some { run := some { start := some t, .. }, .. } => !c.clock.suspended && decide (4200000000 ≤ elapsed c.now t)
  | _ => false

/-- The due timer of the Player has expired in PLAYING (R175). -/
def playDue (c : Controller) : Bool :=
  match c.player.session with
  | some s => s.phase == .playing && c.expired s.due
  | none => false

/-- A glide has run its frames (R138). -/
def glideDue (c : Controller) (name : Level) : List Instr :=
  match (c.phones.level name).glide with
  | some g => dueIf (decide (glideSpan ≤ g.count)) (.glideEnd name)
  | none => []

/-- The arbiter has something to send (R201). -/
def sendDue (c : Controller) : Bool :=
  c.grantDue && !(c.link.replies.isEmpty && c.link.busy.isEmpty && c.link.queue.isEmpty)

/-- The events of the Link that are due (R198, R200, R201, R206, R210). -/
def linkDue (c : Controller) : List Instr :=
  dueIf (c.frameReached c.link.rxTimer) .rxTimeout
    ++ dueIf (c.link.state == .waking && c.link.wakeSource.isSome && c.frameReached c.link.wakeTimer) .wakeComplete
    ++ dueIf c.link.resetDue (.softReset c.rail.clearSwitch.level c.rail.engagedSwitch.level)
    ++ dueIf c.dispatchDue .dispatchFrame
    ++ dueIf c.sendDue .lineGrant

/-- Every event of the controller itself that is due, in an order the manual leaves open (R2). -/
def dueEvents (c : Controller) : List Instr :=
  allKeys.flatMap c.keyDue
    ++ (List.range 11).flatMap (fun g => dueIf (c.expired (c.roundTimer g)) (.roundExpiry g))
    ++ dueIf c.calDue .calComplete
    ++ dueIf (c.expired c.pedals.hold) .sostenutoOn
    ++ (List.range 3).flatMap c.pedalDue
    ++ c.railDue
    ++ (List.range 64).flatMap c.voiceDue
    ++ dueIf c.recLimitDue .recTimeLimit
    ++ dueIf c.playDue .dueTimerExpiry
    ++ dueIf c.rampDue .rampEnd
    ++ c.glideDue .master ++ c.glideDue .liveMix ++ c.glideDue .playbackMix
    ++ dueIf (c.phones.jackRun == jackSpan) .jackChange
    ++ c.linkDue

/-- R1: one microsecond of the Stage Clock. -/
def tick (c : Controller) : Controller :=
  if c.clock.suspended then c else { c with clock := { c.clock with time := after c.clock.time 1 } }

end Controller

/-- What an empty queue does (log 3): the events that are due wait for their turn, or else one microsecond passes. Held in power-on reset, nothing happens (R207). -/
def idle (s : State) : State :=
  if s.ctl.inReset then s
  else if s.ctl.dueEvents.isEmpty then { s with ctl := s.ctl.tick }
  else { s with pending := s.ctl.dueEvents }

end Sys2Proof.Machine
end

