-- ==== Sys2Proof/Machine/Step.lean ====
section
/-! DEFINITION. One step of the machine: the command at the front of the queue, or the passing of time on an empty one. -/

namespace Sys2Proof.Machine

/-- One step. The command at the front of the queue is run on the state with the queue's rest.
On an empty queue the events that are due are put in the queue, or else the Stage Clock ticks (DESIGN CHOICE, log 3). -/
def step (s : State) : Host.Outcome State Fault Refusal :=
  match s.pending with
  | i :: rest => exec i { s with pending := rest }
  | [] => .next (idle s)

/-- The state with the command that a word spells put at the front of its queue; no word spells a command (log 24). -/
def State.withFetchWord (s : State) (nbits w : Nat) : State :=
  match decodeTableWord nbits w with
  | some i => { s with pending := i :: s.pending }
  | none => s

end Sys2Proof.Machine
end

