-- ==== Sys2Proof/Safety.lean ====
section
/-! DEFINITION. What the statements about the controller are made of: which blocks a change may touch, what a request leaves, the bytes that carry a request, and the limits and couplings the manual states of the controller at all times. -/

namespace Sys2Proof.Machine

/-! ### What a change touches -/

/-- The parts of the controller: its twelve blocks, the thresholds and the Key Table of the Key Scanner apart, and the held reset of R207. -/
inductive Block where
  | clock | thresholds | keys | curves | trim | pedals | rail | pool | phones | takes | recorder | player | link | held
deriving DecidableEq, Repr

/-- A part stands the same in two controllers. -/
def Block.same (x : Block) (a b : Controller) : Prop :=
  match x with
  | .clock => b.clock = a.clock
  | .thresholds => b.thresholds = a.thresholds
  | .keys => b.keys = a.keys
  | .curves => b.curves = a.curves
  | .trim => b.trim = a.trim
  | .pedals => b.pedals = a.pedals
  | .rail => b.rail = a.rail
  | .pool => b.pool = a.pool
  | .phones => b.phones = a.phones
  | .takes => b.takes = a.takes
  | .recorder => b.recorder = a.recorder
  | .player => b.player = a.player
  | .link => b.link = a.link
  | .held => b.inReset = a.inReset

/-- From `a` to `b`, nothing changes outside the parts listed. -/
def Controller.Frame (touched : List Block) (a b : Controller) : Prop := ∀ x : Block, x ∉ touched → x.same a b

/-- The state is not held in power-on reset (R207). -/
abbrev State.Running (s : State) : Prop := s.ctl.inReset = false

/-- The state takes every request: not held in reset, not in standby, not waking (R200). -/
abbrev State.Serving (s : State) : Prop := s.ctl.inReset = false ∧ s.ctl.link.state = .active

/-- The controller with another command queue's state around it: only the controller changes. -/
def State.withCtl (s : State) (c : Controller) : State := { s with ctl := c }

/-- The command `i` answers a next state, in which the controller is `c` and the queue is as it was. -/
def Leaves (i : Instr) (s : State) (c : Controller) : Prop := exec i s = .next (s.withCtl c)

/-- The request `i`, of reply kind `kind` and tag `tag`, leaves the controller `c` with one reply of `code` and `fields`. -/
def Replies (i : Instr) (kind tag : Byte) (s : State) (c : Controller) (code : ResultCode) (fields : List Byte) : Prop :=
  exec i s = .next (s.withCtl (c.pushReply kind tag { code := code, fields := fields }))

/-! ### The requests as frames carry them (R212) -/

/-- R212: the request kinds with the body length each must carry, TAKE_DATA apart. -/
def bodySizes : List (Nat × Nat) :=
  [(0x01, 0), (0x02, 0), (0x03, 1), (0x04, 0), (0x05, 0), (0x06, 0), (0x10, 8), (0x11, 2), (0x12, 8), (0x13, 1),
   (0x14, 26), (0x15, 1), (0x18, 2), (0x19, 1), (0x1A, 6), (0x1B, 0), (0x1C, 1), (0x1D, 0), (0x1E, 0), (0x20, 3),
   (0x21, 2), (0x22, 1), (0x23, 177), (0x24, 1), (0x25, 4), (0x28, 6), (0x2A, 0), (0x2B, 1), (0x2C, 1), (0x30, 2),
   (0x31, 1), (0x32, 0), (0x38, 4), (0x39, 0), (0x3A, 0), (0x3B, 0), (0x3C, 3), (0x3D, 7), (0x3E, 1), (0x3F, 4),
   (0x40, 0)]

/-- A signed number in one byte, in two's complement (section 11.7). -/
def signed1 (i : Int) : List Byte := bytesLE 1 (i % 256).toNat

/-- The six bytes of a take record of a TAKE_DATA (R213). -/
def rawRecordBytes (r : RawRecord) : List Byte :=
  bytesLE 3 r.time ++ bytesLE 1 r.kind ++ bytesLE 1 r.subject ++ bytesLE 1 r.value

/-- The kind, the tag and the body of the frame that carries a request; none for a command that is no request (R212). -/
def requestFrame : Instr → Option (Byte × Byte × List Byte)
  | .ident tag => some (0x01#8, tag, [])
  | .status tag => some (0x02#8, tag, [])
  | .reports tag mask => some (0x03#8, tag, bytesLE 1 mask)
  | .reset tag => some (0x04#8, tag, [])
  | .standby tag => some (0x05#8, tag, [])
  | .wake tag => some (0x06#8, tag, [])
  | .thresholds tag a b c d => some (0x10#8, tag, bytesLE 2 a ++ bytesLE 2 b ++ bytesLE 2 c ++ bytesLE 2 d)
  | .keyMute tag k f => some (0x11#8, tag, bytesLE 1 k ++ bytesLE 1 f)
  | .keyParam tag k n b t l =>
      some (0x12#8, tag, bytesLE 1 k ++ bytesLE 2 n ++ bytesLE 2 b ++ bytesLE 2 t ++ signed1 l)
  | .keyRead tag k => some (0x13#8, tag, bytesLE 1 k)
  | .curveLoad tag c es => some (0x14#8, tag, bytesLE 1 c ++ es.flatMap (bytesLE 1))
  | .curveRead tag c => some (0x15#8, tag, bytesLE 1 c)
  | .trimSet tag i p => some (0x18#8, tag, bytesLE 1 i ++ bytesLE 1 p)
  | .calFull tag g => some (0x19#8, tag, bytesLE 1 g)
  | .pedalParam tag p r f c => some (0x1A#8, tag, bytesLE 1 p ++ bytesLE 2 r ++ bytesLE 2 f ++ bytesLE 1 c)
  | .pedalRead tag => some (0x1B#8, tag, [])
  | .railSet tag t => some (0x1C#8, tag, bytesLE 1 t)
  | .railRecover tag => some (0x1D#8, tag, [])
  | .railRead tag => some (0x1E#8, tag, [])
  | .voiceSplit tag r a b => some (0x20#8, tag, bytesLE 1 r ++ bytesLE 1 a ++ bytesLE 1 b)
  | .tone tag t m => some (0x21#8, tag, bytesLE 1 t ++ bytesLE 1 m)
  | .layer tag f => some (0x22#8, tag, bytesLE 1 f)
  | .decayLoad tag es l => some (0x23#8, tag, es.flatMap (bytesLE 2) ++ bytesLE 1 l)
  | .voiceRead tag p => some (0x24#8, tag, bytesLE 1 p)
  | .phones tag e v l p => some (0x25#8, tag, bytesLE 1 e ++ bytesLE 1 v ++ bytesLE 1 l ++ bytesLE 1 p)
  | .takeWindow tag s m f l => some (0x28#8, tag, bytesLE 1 s ++ bytesLE 1 m ++ bytesLE 2 f ++ bytesLE 2 l)
  | .takeData tag rs => some (0x29#8, tag, bytesLE 1 rs.length ++ rs.flatMap rawRecordBytes)
  | .takeRead tag => some (0x2A#8, tag, [])
  | .takeInfo tag s => some (0x2B#8, tag, bytesLE 1 s)
  | .takeClear tag s => some (0x2C#8, tag, bytesLE 1 s)
  | .recArm tag s m => some (0x30#8, tag, bytesLE 1 s ++ bytesLE 1 m)
  | .recMark tag n => some (0x31#8, tag, bytesLE 1 n)
  | .recStop tag => some (0x32#8, tag, [])
  | .playStart tag s p => some (0x38#8, tag, bytesLE 1 s ++ bytesLE 3 p)
  | .playStop tag => some (0x39#8, tag, [])
  | .playPause tag => some (0x3A#8, tag, [])
  | .playResume tag => some (0x3B#8, tag, [])
  | .playSeek tag p => some (0x3C#8, tag, bytesLE 3 p)
  | .playLoop tag a b n => some (0x3D#8, tag, bytesLE 3 a ++ bytesLE 3 b ++ bytesLE 1 n)
  | .playTempo tag t => some (0x3E#8, tag, bytesLE 1 t)
  | .playHands tag k m g w => some (0x3F#8, tag, bytesLE 1 k ++ bytesLE 1 m ++ bytesLE 1 g ++ bytesLE 1 w)
  | .playRead tag => some (0x40#8, tag, [])
  | .powerOnReset .. | .softReset .. | .rxByte .. | .rxTimeout | .dispatchFrame | .lineGrant | .txEnd | .wakeComplete
  | .wakeCheck .. | .keySample .. | .silentPress .. | .keyFault .. | .keyClear .. | .roundExpiry .. | .calComplete
  | .pedalSample .. | .sostenutoOn | .pedalFault .. | .pedalClear .. | .switchChange .. | .overLimitChange ..
  | .railAbandoned | .travelTimeout | .stall | .settleExpiry | .voiceEnd .. | .jackChange | .rampEnd | .glideEnd ..
  | .recTimeLimit | .dueTimerExpiry | .outputFrame .. | .resetnLow => none

/-- A frame as the receiver takes it, of a kind, a tag and a body, its check byte right (R198). -/
def checkedFrame (kind tag : Byte) (body : List Byte) : RxFrame :=
  { length := BitVec.ofNat 8 (body.length + 2)
    bytes := kind :: tag :: body ++ [- sumBytes (BitVec.ofNat 8 (body.length + 2) :: kind :: tag :: body)] }

/-- The bytes of a list arrive one after another, each with its stop bit. -/
def receiveAll : List Byte → State → Result
  | [], s => .next s
  | b :: bs, s =>
    match exec (.rxByte b false) s with
    | .next t => receiveAll bs t
    | .fault e => .fault e
    | .refused e => .refused e

/-- What a reply STANDBY or BAD_LENGTH carries after its result code: the fields that the request's rule gives every reply or every refused one, of the block as it stands; nothing where it gives none (log 18).
The body's first byte names the curve, pedal or slot addressed. No table was judged, no value limited, no voice re-owned and no group joined. -/
def refusalFields (kind : Nat) (body : List Byte) (c : Controller) : List Byte :=
  let named := match body with
    | b :: _ => b.toNat
    | [] => 255
  let slot := fun (t : Option Take) =>
    [Config.slotStateCode t.isSome] ++ bytesLE 2 (match t with
      | some t => t.records.length
      | none => 0)
  let used := codeByte (c.used .live) ++ codeByte (c.used .playback)
  let p := c.phones
  match kind with
  | 0x03 => [c.link.mask] ++ codeByte c.link.queue.length ++ flagByte c.link.overrun
  | 0x10 =>
    bytesLE 2 c.thresholds.rest ++ bytesLE 2 c.thresholds.damp ++ bytesLE 2 c.thresholds.lift
      ++ bytesLE 2 c.thresholds.strike
  | 0x14 => [0xFF#8, 0xFF#8] ++ (if named ≤ 1 then codeByte named else [0xFF#8])
  | 0x18 => bytesLE 2 c.trim.interval ++ flagByte c.trim.pullIn
  | 0x19 => codeByte 0 ++ codeByte c.trim.fifo.length
  | 0x1A =>
    (if named < 3 then bytesLE 2 (c.pedal named).restRaw ++ bytesLE 2 (c.pedal named).fullRaw
     else [0xFF#8, 0xFF#8, 0xFF#8, 0xFF#8]) ++ bytesLE 2 c.pedals.softCut
  | 0x1C =>
    codeByte c.rail.state.code ++ optLE 1 (c.rail.target.map Stop.code) ++ optLE 1 (c.rail.pendingTarget.map Stop.code)
  | 0x1D => codeByte c.rail.state.code
  | 0x20 =>
    codeByte (c.reserve .live) ++ codeByte (c.reserve .playback) ++ flagByte (c.lends .playback)
      ++ flagByte (c.lends .live) ++ used ++ codeByte 0
  | 0x21 => codeByte c.pool.tone ++ optLE 1 c.pool.pendingTone
  | 0x22 => flagByte c.pool.layer ++ flagByte c.livePath
  | 0x24 => used
  | 0x25 =>
    flagByte p.enable ++ flagByte false ++ bytesLE 2 p.master.setting ++ flagByte false ++ bytesLE 2 p.liveMix.setting
      ++ flagByte false ++ bytesLE 2 p.playbackMix.setting ++ flagByte false ++ flagByte p.jackPresent
      ++ codeByte p.output.code ++ bytesLE 2 p.ramp ++ bytesLE 2 p.master.applied ++ bytesLE 2 p.liveMix.applied
      ++ bytesLE 2 p.playbackMix.applied
  | 0x28 | 0x2C =>
    (match named with
     | 0 => slot c.takes.slotA
     | 1 => slot c.takes.slotB
     | _ => [0xFF#8, 0xFF#8, 0xFF#8])
  | 0x30 => codeByte c.recState.code
  | 0x3D =>
    (match c.player.session.bind Session.loop with
     | some l => bytesLE 3 l.start ++ bytesLE 3 l.stop ++ codeByte l.count ++ passesByte l.passes ++ flagByte l.armed
     | none => absent 9)
  | 0x3E => bytesLE 2 c.player.tempo ++ flagByte false ++ optLE 3 (c.player.session.map fun x => x.time / 1000)
  | 0x3F =>
    codeByte c.player.splitKey ++ codeByte (muteMask c.player) ++ codeByte c.player.guide.code
      ++ bytesLE 3 c.player.chordWindow ++ codeByte c.playerState.code
  | _ => []

/-! ### Limits and couplings that hold at all times -/

/-- R8, R29, R43, R63, R107, R118: the tables of fixed size have their sizes. -/
structure Controller.Sized (c : Controller) : Prop where
  keys : c.keys.length = 88
  acoustic : c.curves.acoustic.length = 25
  silent : c.curves.silent.length = 25
  rounds : c.trim.rounds.length = 11
  units : c.trim.units.length = 11
  pedals : c.pedals.recs.length = 3
  voices : c.pool.voices.length = 64
  decay : c.pool.decay.length = 88

/-- R199, R202: the queues of the Link lie within their room, and the drop count within its limit. -/
structure Link.Bounded (l : Link) : Prop where
  input : l.input.length ≤ 4
  busy : l.busy.length ≤ 4
  queue : l.queue.length ≤ 64
  drops : l.dropCount ≤ 65535

/-- R42: the debt of a key lies within −8..+8, and a stale key has debt +8. -/
def KeyRec.DebtOk (r : KeyRec) : Prop := -8 ≤ r.debt ∧ r.debt ≤ 8 ∧ (r.stale = true → r.debt = 8)

/-- R42: every key's debt is in order. -/
def Controller.DebtsOk (c : Controller) : Prop := ∀ r ∈ c.keys, r.DebtOk

/-- The motor that a rail state asks for (R82, R83). -/
def RailState.motor : RailState → Motor
  | .engaging => .towardEngaged
  | .disengaging => .towardClear
  | .clear | .engaged | .waitQuiet | .settling | .unplaced | .fault => .off

/-- R82, R83: the motor runs only in ENGAGING and DISENGAGING, toward their stop, and the origin of a wait is CLEAR, ENGAGED, UNPLACED or FAULT. -/
structure Rail.Coupled (r : Rail) : Prop where
  motor : r.motor = r.state.motor
  origin : ∀ o, r.origin = some o →
    o.state = .clear ∨ o.state = .engaged ∨ o.state = .unplaced ∨ o.state = .fault

/-- R53, R101: no FULL calibration is in progress while the rail moves or settles. -/
def Controller.Exclusive (c : Controller) : Prop :=
  c.trim.cal.isSome = true → c.rail.state ≠ .engaging ∧ c.rail.state ≠ .disengaging ∧ c.rail.state ≠ .settling

/-- R71, R72, R173, R181: a sostenuto set is empty while its source's sostenuto is disengaged, and holds no key twice; the playback key-down set, from which the PLAYBACK set is filled, is ascending; the Player's sets are empty in STOPPED; and the expectation set is empty unless the Player is WAITING, or PAUSED from WAITING. -/
structure Controller.SetsOk (c : Controller) : Prop where
  live : c.pedals.engaged = false → c.pedals.sostenuto = []
  playback : c.player.engaged = false → c.player.held = []
  liveOnce : c.pedals.sostenuto.Nodup
  playbackOnce : c.player.held.Nodup
  ascending : c.player.keyDown.Pairwise (· < ·)
  stopped : c.player.session = none → c.player.keyDown = [] ∧ c.player.held = [] ∧ c.player.expected = []
  expecting : c.player.expected ≠ [] → ∃ x, c.player.session = some x ∧ (x.phase = .waiting ∨ x.phase = .paused true)

/-- R175, R179, R184, R190: what holds of a Player in PLAYING when an event is complete: the record at its cursor is not due or is held back, an armed loop has not reached its end, the natural end is not reached, no key is expected, and the due timer runs toward the nearest target. -/
structure Controller.CaughtUp (c : Controller) : Prop where
  records : ∀ x r, c.player.session = some x → x.phase = .playing → (c.records x.slot)[x.cursor]? = some r →
    x.time < r.time * 1000 ∨ ∃ l, x.loop = some l ∧ l.armed = true ∧ l.stop ≤ r.time
  loop : ∀ x l, c.player.session = some x → x.phase = .playing → x.loop = some l → l.armed = true → x.time < l.stop * 1000
  finish : ∀ x, c.player.session = some x → x.phase = .playing → c.count x.slot ≤ x.cursor →
    (∀ l, x.loop = some l → l.armed = false) → x.time < c.length x.slot * 1000
  nothingExpected : ∀ x, c.player.session = some x → x.phase = .playing → c.player.expected = []
  timer : ∀ x, c.player.session = some x → x.phase = .playing → x.due = some (c.dueDeadline x)

/-- Nothing is due of a session: no loop, no key expected, and the record at its cursor not reached (R175). -/
def Controller.NothingDue (c : Controller) (x : Session) : Prop :=
  x.loop = none ∧ c.player.expected = [] ∧ ∃ r, (c.records x.slot)[x.cursor]? = some r ∧ x.time < r.time * 1000

/-- R52, R54: the reference FIFO holds group numbers 0..10, none twice; a calibration in progress is of such a group, and its examined keys are keys of the group in key order, none twice. -/
structure TrimEngine.FifoOk (t : TrimEngine) : Prop where
  groups : ∀ g ∈ t.fifo, g < 11
  once : t.fifo.Nodup
  calibrated : ∀ cal, t.cal = some cal → cal.group < 11
  examined : ∀ cal, t.cal = some cal → (cal.exams.map Exam.key).Sublist (groupKeys cal.group)

/-- R110, R115: the LIVE reserve lies within 8..56, no partition owns more voices than its reserve, and no two voices that are not FREE share both source and key. -/
structure Controller.PoolOk (c : Controller) : Prop where
  least : 8 ≤ c.pool.liveReserve
  greatest : c.pool.liveReserve ≤ 56
  room : ∀ p : Source, c.used p ≤ c.reserve p
  distinct : ∀ i j a b, c.voice i = some a → c.voice j = some b → a.source = b.source → a.key = b.key → i = j

end Sys2Proof.Machine
end

