-- ==== Sys2Proof/WellFormed.lean ====
section
/-! DEFINITION. Which commands are well formed: every operand within the width of the input or of the frame field that carries it (R3, R63, R107, R212, R213). -/

namespace Sys2Proof

/-- A key number, 1..88. -/
def wfKey (k : Nat) : Bool := decide (1 ≤ k ∧ k ≤ 88)

/-- A raw sensor reading, 0..4095 (R3, R64). -/
def wfRaw (r : Nat) : Bool := decide (r < 4096)

/-- The value of a one-byte field of a request. -/
def wfByte (n : Nat) : Bool := decide (n < 256)

/-- The value of a two-byte field of a request. -/
def wfWord (n : Nat) : Bool := decide (n < 65536)

/-- The value of a three-byte field, a time in ms. -/
def wfMs (n : Nat) : Bool := decide (n < 16777216)

/-- A take record whose fields fit the six bytes of R213. -/
def wfRecord (r : RawRecord) : Bool :=
  wfMs r.time && wfByte r.kind && wfByte r.subject && wfByte r.value

/-- A command whose operands fit the fields and inputs that carry them. -/
def Instr.wf : Instr → Bool
  | .powerOnReset _ _ => true
  | .softReset _ _ => true
  | .rxByte _ _ => true
  | .rxTimeout => true
  | .dispatchFrame => true
  | .lineGrant => true
  | .txEnd => true
  | .ident _ => true
  | .status _ => true
  | .reports _ mask => wfByte mask
  | .reset _ => true
  | .standby _ => true
  | .wake _ => true
  | .wakeComplete => true
  | .wakeCheck key raw => wfKey key && wfRaw raw
  | .thresholds _ r d l s => wfWord r && wfWord d && wfWord l && wfWord s
  | .keyMute _ key flag => wfByte key && wfByte flag
  | .keyParam _ key n b t trim =>
      wfByte key && wfWord n && wfWord b && wfWord t && decide (-128 ≤ trim ∧ trim ≤ 127)
  | .keyRead _ key => wfByte key
  | .keySample key raw => wfKey key && wfRaw raw
  | .silentPress key => wfKey key
  | .keyFault key => wfKey key
  | .keyClear key => wfKey key
  | .curveLoad _ curve es => wfByte curve && decide (es.length = 25) && es.all wfByte
  | .curveRead _ curve => wfByte curve
  | .trimSet _ i p => wfByte i && wfByte p
  | .roundExpiry g => decide (g < 11)
  | .calComplete => true
  | .calFull _ g => wfByte g
  | .pedalSample p raw => decide (p < 3) && wfRaw raw
  | .sostenutoOn => true
  | .pedalFault p => decide (p < 3)
  | .pedalClear p => decide (p < 3)
  | .pedalParam _ p r f c => wfByte p && wfWord r && wfWord f && wfByte c
  | .pedalRead _ => true
  | .switchChange _ => true
  | .overLimitChange _ => true
  | .railSet _ t => wfByte t
  | .railRecover _ => true
  | .railRead _ => true
  | .railAbandoned => true
  | .travelTimeout => true
  | .stall => true
  | .settleExpiry => true
  | .voiceSplit _ r a b => wfByte r && wfByte a && wfByte b
  | .tone _ t m => wfByte t && wfByte m
  | .layer _ f => wfByte f
  | .decayLoad _ es l => decide (es.length = 88) && es.all wfWord && wfByte l
  | .voiceRead _ p => wfByte p
  | .voiceEnd v => decide (v < 64)
  | .phones _ e v l p => wfByte e && wfByte v && wfByte l && wfByte p
  | .jackChange => true
  | .rampEnd => true
  | .glideEnd _ => true
  | .takeWindow _ s m f l => wfByte s && wfByte m && wfWord f && wfWord l
  | .takeData _ rs => decide (1 ≤ rs.length ∧ rs.length ≤ 40) && rs.all wfRecord
  | .takeRead _ => true
  | .takeInfo _ s => wfByte s
  | .takeClear _ s => wfByte s
  | .recArm _ s m => wfByte s && wfByte m
  | .recMark _ n => wfByte n
  | .recStop _ => true
  | .recTimeLimit => true
  | .playStart _ s p => wfByte s && wfMs p
  | .playStop _ => true
  | .playPause _ => true
  | .playResume _ => true
  | .playSeek _ p => wfMs p
  | .playLoop _ a b c => wfMs a && wfMs b && wfByte c
  | .playTempo _ t => wfByte t
  | .playHands _ k m g w => wfByte k && wfByte m && wfByte g && wfByte w
  | .playRead _ => true
  | .dueTimerExpiry => true
  | .outputFrame _ _ _ => true
  | .resetnLow => true

end Sys2Proof
end

