-- ==== Sys2Proof/Certificates/Slice0/Obligations.lean ====
section
/-! DEFINITION. The statements for the provers, in the order of the manual's chapters after the machine itself, the resets and the Link. -/

section

open Sys2Proof Sys2Proof.Machine

/-! ### The machine -/

/-- The step of a block: the command at the front of the queue runs on the state with the queue's rest.
On an empty queue, which the manual does not speak of, the model's own choice (log 3): the events that are due join the queue, or else the Stage Clock advances by 1 µs unless it is suspended; held in reset, nothing happens. -/
def Obligations.StepTakesFrontOrIdles : Prop :=
  (∀ (i : Instr) (s : State), step { s with pending := i :: s.pending } = exec i s) ∧
  ∀ s : State, s.pending = [] →
    (s.ctl.inReset = true → step s = .next s) ∧
    (s.Running → s.ctl.dueEvents ≠ [] → step s = .next { s with pending := s.ctl.dueEvents }) ∧
    (s.Running → s.ctl.dueEvents = [] → s.ctl.clock.suspended = true → step s = .next s) ∧
    (s.Running → s.ctl.dueEvents = [] → s.ctl.clock.suspended = false →
      step s = .next (s.withCtl { s.ctl with clock := { s.ctl.clock with time := s.ctl.clock.time + 1#32 } }))

/-- R207: RESETN_LOW holds the controller in power-on reset with the line silent and all else as it was, and until the release every well-formed command has no effect.
That a command other than a byte has none is the model's choice (log 20). -/
def Obligations.HeldResetIgnoresCommands : Prop :=
  (∀ s : State, s.Running →
    Leaves .resetnLow s { s.ctl with inReset := true, link := { s.ctl.link with line := none } }) ∧
  ∀ (i : Instr) (s : State), s.ctl.inReset = true → i.wf = true → (∀ a b, i ≠ .powerOnReset a b) → exec i s = .next s

/-- Every well-formed command answers a next state and leaves the queue alone, and a command faults only where it names a key, group, pedal, voice or reading that does not exist (R3, R8, R63, R64, R107), by the fault of that name.
That such a command faults is the model's choice (log 25). -/
def Obligations.WellFormedCommandsAnswer : Prop :=
  (∀ (i : Instr) (s : State), i.wf = true → ∃ t, exec i s = .next t ∧ t.pending = s.pending) ∧
  ∀ (i : Instr) (s : State) (e : Fault), exec i s = .fault e → i.wf = false ∧
    match e with
    | .noSuchKey => ∃ k, (k < 1 ∨ 88 < k) ∧ (i = .silentPress k ∨ i = .keyFault k ∨ i = .keyClear k ∨
        ∃ raw, i = .keySample k raw ∨ i = .wakeCheck k raw)
    | .noSuchGroup => ∃ g, 10 < g ∧ i = .roundExpiry g
    | .noSuchPedal => ∃ p, 2 < p ∧ (i = .pedalFault p ∨ i = .pedalClear p ∨ ∃ raw, i = .pedalSample p raw)
    | .noSuchVoice => ∃ v, 63 < v ∧ i = .voiceEnd v
    | .noSuchReading => ∃ n raw, 4095 < raw ∧ (i = .keySample n raw ∨ i = .wakeCheck n raw ∨ i = .pedalSample n raw)

/-- An event of the controller itself that is not due changes nothing: an expiry whose deadline is not reached or whose timer does not run, a debounce, ramp, glide or jack run that is not complete, a frame that may not be taken, a line that may not be granted, the end of a transmission on a free line, a soft reset that no reply to RESET has made due.
The manual has no such events, and that the command then does nothing is the model's choice (log 3, log 4, log 21). -/
def Obligations.EventsNotDueChangeNothing : Prop :=
  (∀ s : State, s.Running → s.ctl.link.line = none → exec .txEnd s = .next s) ∧
  (∀ (clear engaged : Bool) (s : State), s.Running → s.ctl.link.resetDue = false →
    exec (.softReset clear engaged) s = .next s) ∧
  ∀ (i : Instr) (s : State), s.Running → i.wf = true → i ∉ s.ctl.dueEvents →
    ((∃ k, i = .silentPress k ∨ i = .keyFault k ∨ i = .keyClear k) ∨ (∃ g, i = .roundExpiry g) ∨ i = .calComplete ∨
      i = .sostenutoOn ∨ (∃ p, i = .pedalFault p ∨ i = .pedalClear p) ∨ (∃ sw, i = .switchChange sw) ∨
      i = .railAbandoned ∨ i = .travelTimeout ∨ i = .stall ∨ i = .settleExpiry ∨ (∃ v, i = .voiceEnd v) ∨
      i = .recTimeLimit ∨ i = .dueTimerExpiry ∨ i = .rampEnd ∨ (∃ l, i = .glideEnd l) ∨ i = .jackChange ∨
      i = .rxTimeout ∨ i = .wakeComplete ∨ i = .dispatchFrame ∨ i = .lineGrant) →
    exec i s = .next s

/-! ### The resets -/

/-- R131: what the Voice Pool holds after a power-on reset, whatever the switch levels and whatever came before. -/
def Obligations.PowerOnVoicePool : Prop :=
  ∀ (clear engaged : Bool) (s : State), ∃ t, exec (.powerOnReset clear engaged) s = .next t ∧ t.pending = s.pending ∧
    t.ctl.pool.voices.length = 64 ∧ (∀ i, t.ctl.voice i = none) ∧
    t.ctl.reserve .live = 48 ∧ t.ctl.reserve .playback = 16 ∧
    t.ctl.lends .playback = true ∧ t.ctl.lends .live = false ∧
    t.ctl.pool.tone = 0 ∧ t.ctl.pool.pendingTone = none ∧ t.ctl.pool.layer = false ∧ t.ctl.pool.damperLimit = 68 ∧
    t.ctl.pool.decay.length = 88 ∧ ∀ k, 1 ≤ k → k ≤ 88 → t.ctl.decayEntry k = 30 + (k - 1) * 370 / 87

/-- The other blocks after a power-on reset: the stage time, thresholds and key records (R1, R5, R27), the curves (R37), the Trim Engine with group 0 granted at the reset (R58, R62), the pedals (R80), the rail placed from its switches (R105), the Headphone Path (R143), the Take Store (R158), the Recorder (R171), the Player (R197) and the Link (R207).
That the over-limit indication is clear, the raw jack level not inserted, and the frame count and the samples 0 is the model's choice (log 2). -/
def Obligations.PowerOnEveryBlock : Prop :=
  ∀ (clear engaged : Bool) (s : State), ∃ t, exec (.powerOnReset clear engaged) s = .next t ∧
    t.ctl.inReset = false ∧ t.ctl.clock = { time := 0#32, suspended := false } ∧
    t.ctl.thresholds = { rest := 32, damp := 160, lift := 560, strike := 920 } ∧
    t.ctl.keys.length = 88 ∧
    (∀ r ∈ t.ctl.keys, r.state = .uncal ∧ r.restRaw = none ∧ r.nominal = 600 ∧ r.bottom = 3400 ∧ r.travel = 9000 ∧
      r.levelTrim = 0 ∧ r.debt = 0 ∧ r.stale = false ∧ r.muted = false ∧ r.sounded = false ∧ r.liftSpent = false ∧
      r.holdOff = false ∧ r.tLift = none ∧ r.flight = none ∧ r.faultTimer = none ∧ r.recovery = none ∧ r.latest = none) ∧
    (∀ name, t.ctl.curve name =
      [1, 12, 22, 31, 39, 46, 53, 59, 65, 70, 75, 80, 84, 88, 92, 96, 100, 103, 106, 109, 112, 115, 119, 123, 127]) ∧
    t.ctl.trim.interval = 8 ∧ t.ctl.trim.pullIn = true ∧ t.ctl.trim.fifo = [1, 2, 3, 4, 5, 6, 7, 8, 9, 10] ∧
    t.ctl.calibrating 0 = true ∧
    (∀ g, g < 11 → t.ctl.roundTimer g = some (BitVec.ofNat 32 (8000000 + g * 8000000 / 11)) ∧
      (t.ctl.trimUnit g).passedOver = []) ∧
    (∀ p, p < 3 → t.ctl.pedal p =
      { restRaw := 400, fullRaw := 3600, value := 0, fault := false, lastReported := 0, latest := none
        faultTimer := none, recovery := none }) ∧
    t.ctl.pedals.engaged = false ∧ t.ctl.pedals.hold = none ∧ t.ctl.pedals.sostenuto = [] ∧ t.ctl.pedals.softCut = 12 ∧
    (t.ctl.rail.state, t.ctl.rail.lastStop) =
      (match clear, engaged with
       | true, false => (RailState.clear, LastStop.clear)
       | false, true => (.engaged, .engaged)
       | false, false => (.unplaced, .none)
       | true, true => (.fault, .none)) ∧
    t.ctl.rail.cause = (if clear && engaged then some .switchConflict else none) ∧
    t.ctl.rail.motor = .off ∧ t.ctl.rail.pendingTarget = none ∧ t.ctl.rail.quietTimer = none ∧
    t.ctl.rail.travelTimer = none ∧ t.ctl.rail.stallTimer = none ∧ t.ctl.rail.settleTimer = none ∧
    t.ctl.rail.clearSwitch.closed = clear ∧ t.ctl.rail.engagedSwitch.closed = engaged ∧
    t.ctl.phones.enable = true ∧ t.ctl.phones.master = { setting := 40, applied := 345, glide := none } ∧
    t.ctl.phones.liveMix = { setting := 0, applied := 0, glide := none } ∧
    t.ctl.phones.playbackMix = { setting := 0, applied := 0, glide := none } ∧
    t.ctl.phones.output = .off ∧ t.ctl.phones.ramp = 0 ∧ t.ctl.phones.jackPresent = false ∧ t.ctl.phones.jackRun = 0 ∧
    t.ctl.phones.freeingOwed = false ∧ t.ctl.rail.overLimit = false ∧ t.ctl.phones.jackLevel = false ∧
    t.ctl.phones.frame = 0 ∧ t.ctl.phones.left = 0 ∧ t.ctl.phones.right = 0 ∧
    t.ctl.take .a = none ∧ t.ctl.take .b = none ∧ t.ctl.takes.window = none ∧ t.ctl.recState = .idle ∧
    t.ctl.playerState = .stopped ∧ t.ctl.player.tempo = 100 ∧ t.ctl.player.splitKey = 40 ∧
    muteMask t.ctl.player = 0 ∧ t.ctl.player.guide = .none ∧ t.ctl.player.chordWindow = 60 ∧
    t.ctl.player.keyDown = [] ∧ t.ctl.player.held = [] ∧ t.ctl.player.expected = [] ∧ t.ctl.player.consumed = [] ∧
    t.ctl.player.damper = 0 ∧ t.ctl.player.sostenuto = 0 ∧ t.ctl.player.soft = 0 ∧ t.ctl.player.engaged = false ∧
    t.ctl.link.state = .active ∧ t.ctl.link.receiver = .hunting ∧ t.ctl.link.input = [] ∧ t.ctl.link.busy = [] ∧
    t.ctl.link.queue = [{ time := 0#32, report := .started false }] ∧ t.ctl.link.mask = 0x88#8 ∧
    t.ctl.link.overrun = false ∧ t.ctl.link.dropCount = 0

/-- R132: what the soft reset that follows the OK reply to RESET does to the Voice Pool. -/
def Obligations.SoftResetVoicePool : Prop :=
  ∀ (clear engaged : Bool) (s : State), s.Running → s.ctl.link.resetDue = true →
    ∃ c, Leaves (.softReset clear engaged) s c ∧
      c.pool = { s.ctl.pool with voices := s.ctl.pool.voices.map fun _ => none, pendingTone := none } ∧
      c.poolEmpty = true ∧ c.used .live = 0 ∧ c.used .playback = 0 ∧
      c.link.queue = [{ time := s.ctl.now, report := .started true }]

/-- The other blocks at a soft reset: the clock runs on (R1), the thresholds, curves and decisions of the host are kept (R5, R37, R51, R77), the keys are placed by state (R28), one placed in SHALLOW with its hold-off set (R17), with debt +1 and no stale mark (R61), the Trim Engine starts afresh (R61), the sostenuto disengages (R80), the rail is placed from its switches (R106), the Headphone Path takes its reset values (R143), both slots are settled and kept (R158, R171), the Player is stopped with its settings kept (R197), and the Link holds a STARTED report alone (R206).
That the over-limit indication, the raw jack level and the frame count are kept and the samples are 0 (log 2), and that the switch levels come with the command (log 21), are the model's choices. -/
def Obligations.SoftResetEveryBlock : Prop :=
  ∀ (clear engaged : Bool) (s : State), s.Running → s.ctl.link.resetDue = true → s.ctl.Sized →
    ∃ c, Leaves (.softReset clear engaged) s c ∧ c.inReset = false ∧
      c.clock = s.ctl.clock ∧ c.thresholds = s.ctl.thresholds ∧ c.curves = s.ctl.curves ∧
      (∀ k, 1 ≤ k → k ≤ 88 →
        let r := s.ctl.key k
        let r' := c.key k
        r'.nominal = r.nominal ∧ r'.bottom = r.bottom ∧ r'.travel = r.travel ∧ r'.levelTrim = r.levelTrim ∧
        r'.restRaw = r.restRaw ∧ r'.muted = r.muted ∧ r'.latest = r.latest ∧ r'.debt = 1 ∧ r'.stale = false ∧
        r'.flight = none ∧ r'.tLift = none ∧ r'.faultTimer = none ∧ r'.recovery = none ∧ r'.calLost = false ∧
        r'.state =
          (if r.state = .fault then .fault
           else if r.state = .uncal ∨ r.calLost = true then .uncal
           else if r.muted then .muted
           else if r.latestDepth < s.ctl.thresholds.rest then .rest
           else .shallow) ∧
        (r.state ≠ .fault → r.state ≠ .uncal → r.calLost = false →
          r'.holdOff = decide (r'.state = .shallow) ∧ r'.sounded = false ∧ r'.liftSpent = false)) ∧
      c.trim.interval = s.ctl.trim.interval ∧ c.trim.pullIn = s.ctl.trim.pullIn ∧ c.trim.fifo = [] ∧ c.trim.cal = none ∧
      (∀ g, g < 11 →
        c.roundTimer g = some (after s.ctl.now (s.ctl.trim.interval * 1000000 + g * (s.ctl.trim.interval * 1000000) / 11)) ∧
        (c.trimUnit g).passedOver = []) ∧
      c.pedals.engaged = false ∧ c.pedals.hold = none ∧ c.pedals.sostenuto = [] ∧ c.pedals.softCut = s.ctl.pedals.softCut ∧
      (∀ p, p < 3 → c.pedal p =
        { s.ctl.pedal p with lastReported := (s.ctl.pedal p).value, faultTimer := none, recovery := none }) ∧
      c.rail = Rail.placed clear engaged s.ctl.rail.overLimit ∧
      c.phones = HeadphonePath.atReset s.ctl.phones.frame s.ctl.phones.jackLevel ∧
      (∀ sl, s.ctl.recorderUses sl = false → c.take sl = s.ctl.closeWindow.take sl) ∧
      (∀ j, s.ctl.recorder.job = some j → c.take j.target =
        settledTake .recorded (s.ctl.closeWindow.records j.target) (if j.run.isSome then s.ctl.recTime j else 0)) ∧
      c.takes.window = none ∧ c.recState = .idle ∧
      c.player = { s.ctl.player with
        session := none, damper := 0, sostenuto := 0, soft := 0, engaged := false, keyDown := [], held := []
        expected := [], consumed := [] } ∧
      c.link = Link.atReset true s.ctl.now

/-! ### Reception, dispatch and transmission -/

/-- R198, R199: what each byte does to the receiver, in hunting, at the length and in the body, and what completing a frame, a broken byte and the reception timer do. Everything outside the Link is as it was. -/
def Obligations.ReceiverFollowsBytes : Prop :=
  ∀ (b : Byte) (s : State), s.Running →
    let l := s.ctl.link
    let leaves := fun (i : Instr) (l' : Link) => Leaves i s { s.ctl with link := l' }
    leaves (.rxByte b true) { l with receiver := .hunting, rxTimer := none } ∧
    (l.receiver = .hunting → b = 0xC3#8 →
      leaves (.rxByte b false) { l with receiver := .awaitLength, rxTimer := some (s.ctl.phones.frame + 240) }) ∧
    (l.receiver = .hunting → b ≠ 0xC3#8 → leaves (.rxByte b false) l) ∧
    (l.receiver = .awaitLength → 2 ≤ b.toNat → b.toNat ≤ 250 →
      leaves (.rxByte b false) { l with receiver := .inBody b [] }) ∧
    (l.receiver = .awaitLength → (b.toNat < 2 ∨ 250 < b.toNat) →
      leaves (.rxByte b false) { l with receiver := .hunting, rxTimer := none }) ∧
    (∀ len taken, l.receiver = .inBody len taken → taken.length < len.toNat →
      leaves (.rxByte b false) { l with receiver := .inBody len (taken ++ [b]) }) ∧
    (∀ len taken, l.receiver = .inBody len taken → taken.length = len.toNat →
      let done := { l with receiver := .hunting, rxTimer := none }
      let f : RxFrame := { length := len, bytes := taken ++ [b] }
      leaves (.rxByte b false)
        (if l.input.length < 4 then { done with input := l.input ++ [f] }
         else if l.busy.length < 4 then
           { done with busy := l.busy ++ [{ tag := (taken ++ [b]).getD 1 0#8, kind := (taken ++ [b]).getD 0 0#8 }] }
         else done)) ∧
    (∀ f, l.rxTimer = some f → f ≤ s.ctl.phones.frame →
      leaves .rxTimeout { l with receiver := .hunting, rxTimer := none })

/-- R198, R211: the bytes of a frame of any kind, tag and body of at most 248 bytes, taken one after another by a hunting receiver with room in the input queue, are received as that frame, its check right. -/
def Obligations.FrameBytesAreReceived : Prop :=
  ∀ (kind tag : Byte) (body : List Byte) (s : State), s.Running → body.length ≤ 248 →
    s.ctl.link.receiver = .hunting → s.ctl.link.input.length < 4 →
    (checkedFrame kind tag body).checks = true ∧ (checkedFrame kind tag body).kind = kind ∧
    (checkedFrame kind tag body).tag = tag ∧ (checkedFrame kind tag body).body = body ∧
    receiveAll (frameBytes kind tag body) s =
      .next (s.withCtl { s.ctl with link :=
        { s.ctl.link with rxTimer := none, input := s.ctl.link.input ++ [checkedFrame kind tag body] } })

/-- R200, R212: a request taken from the input queue, with every operand at any value its field admits, is handled exactly as the request itself, the frame having left the queue. -/
def Obligations.RequestFrameRunsItsRequest : Prop :=
  ∀ (i : Instr) (kind tag : Byte) (body : List Byte) (fs : List RxFrame) (s : State), s.Running → i.wf = true →
    requestFrame i = some (kind, tag, body) → s.ctl.link.input = checkedFrame kind tag body :: fs →
    s.ctl.replyPending = false → s.ctl.link.resetDue = false →
    exec .dispatchFrame s = exec i (s.withCtl { s.ctl with link := { s.ctl.link with input := fs } })

/-- R200, R211: a frame whose check is wrong is answered BAD_CHECK, one of unknown kind BAD_KIND, both with the kind 0xFE and the received kind byte and with the transfer window as it stands (R149); one of known kind and a body of the wrong length is answered BAD_LENGTH, the window closed but for TAKE_DATA and TAKE_READ. The BAD_LENGTH reply carries the fields that the rule of the request gives every reply or every refused one: the set in force (R5), the curve's name (R39), the trim settings (R51), the pedal's readings and the cut (R77), the rail (R85), the used counts (R110), the partitions (R111), the tones (R124), the slot (R150, R156), the Recorder's state (R161).
Which fields the other requests show, and that the body's first byte names what is addressed, are the model's choices (log 18); the widths and the absent fields are its reading (log 17).
That a set flag is sent as 1 is the model's choice (log 36). -/
def Obligations.BadFramesAreRefused : Prop :=
  ∀ (f : RxFrame) (fs : List RxFrame) (s : State), s.Running → s.ctl.link.input = f :: fs →
    s.ctl.replyPending = false → s.ctl.link.resetDue = false →
    let c := { s.ctl with link := { s.ctl.link with input := fs } }
    let wrongLength := (∃ n, (f.kind.toNat, n) ∈ bodySizes ∧ f.body.length ≠ n) ∨
      (f.kind = 0x29#8 ∧ ¬ ∃ n, byteAt f.body 0 = n ∧ 1 ≤ n ∧ n ≤ 40 ∧ f.body.length = 1 + 6 * n)
    (sumBytes (f.length :: f.bytes) ≠ 0#8 →
      Leaves .dispatchFrame s (c.pushReply 0xFE#8 f.tag { code := .badCheck, fields := [f.kind] })) ∧
    (sumBytes (f.length :: f.bytes) = 0#8 → f.kind ≠ 0x29#8 → (∀ n, (f.kind.toNat, n) ∉ bodySizes) →
      Leaves .dispatchFrame s (c.pushReply 0xFE#8 f.tag { code := .badKind, fields := [f.kind] })) ∧
    (sumBytes (f.length :: f.bytes) = 0#8 → wrongLength → f.kind ≠ 0x29#8 → f.kind ≠ 0x2A#8 →
      Leaves .dispatchFrame s (c.closeWindow.pushReply (f.kind + 0x80#8) f.tag
        { code := .badLength, fields := refusalFields f.kind.toNat f.body c.closeWindow })) ∧
    (sumBytes (f.length :: f.bytes) = 0#8 → wrongLength → f.kind = 0x29#8 ∨ f.kind = 0x2A#8 →
      Leaves .dispatchFrame s (c.pushReply (f.kind + 0x80#8) f.tag { code := .badLength, fields := [] }))

/-- R200: each frame taken from the input queue receives exactly one reply, carrying the frame's tag, whatever the frame holds and whatever its request does; the frames behind it stay in their order, and the line is as it was. -/
def Obligations.EachFrameIsAnsweredOnce : Prop :=
  ∀ (f : RxFrame) (fs : List RxFrame) (s : State), s.Running → s.ctl.link.input = f :: fs →
    s.ctl.replyPending = false → s.ctl.link.resetDue = false →
    ∃ t r, exec .dispatchFrame s = .next t ∧ t.pending = s.pending ∧ t.ctl.link.replies = [r] ∧ r.tag = f.tag ∧
      t.ctl.link.input = fs ∧ t.ctl.link.busy = s.ctl.link.busy ∧ t.ctl.link.line = s.ctl.link.line

/-- R201, R202, R206: a free line goes to the oldest waiting reply, else, no frame waiting, to the oldest LINK_BUSY entry, else to the head report; the report that leaves a queue with the overrun mark set is followed in it by OVERRUN with the drop count. The end of a transmission frees the line, and the end of the OK reply to RESET makes the soft reset due. Everything outside the Link is as it was.
That the soft reset is a command of its own, due from that end, is the model's choice (log 21). -/
def Obligations.LineGrantOrder : Prop :=
  ∀ (s : State), s.Running →
    let l := s.ctl.link
    let leaves := fun (i : Instr) (l' : Link) => Leaves i s { s.ctl with link := l' }
    (∀ r rs, l.line = none → l.resetDue = false → l.replies = r :: rs →
      leaves .lineGrant { l with replies := rs, line := some (.reply r) }) ∧
    (∀ e es, l.line = none → l.resetDue = false → l.replies = [] → l.input = [] → l.busy = e :: es →
      leaves .lineGrant { l with busy := es, line := some (.busy { kind := 0xFE#8, tag := e.tag, code := .linkBusy, fields := [e.kind] }) }) ∧
    (∀ q qs, l.line = none → l.resetDue = false → l.replies = [] → l.input = [] → l.busy = [] → l.queue = q :: qs →
      (l.overrun = false → leaves .lineGrant { l with queue := qs, line := some (.report q) }) ∧
      (l.overrun = true → leaves .lineGrant
        { l with
          queue := qs ++ [{ time := s.ctl.now, report := .overrun l.dropCount }], line := some (.report q)
          overrun := false, dropCount := 0 })) ∧
    (∀ r, l.line = some (.reply r) → leaves .txEnd
      { l with line := none, resetDue := l.resetDue || (r.kind == 0x84#8 && r.code == .ok) }) ∧
    (∀ x, l.line = some x → (∀ r, x ≠ .reply r) → leaves .txEnd { l with line := none })

/-- R202: a report that a block makes is lost while its class is disabled, joins the tail with its stage time while there is room, and is dropped from a full queue with the overrun mark set and the drop count raised, up to 65,535. Nothing else changes. -/
def Obligations.ReportPlacement : Prop :=
  ∀ (r : Report) (c : Controller),
    let enabled := c.link.mask.getLsbD r.class.code
    (enabled = false → c.report r = c) ∧
    (enabled = true → c.link.queue.length < 64 →
      c.report r = { c with link := { c.link with queue := c.link.queue ++ [{ time := c.now, report := r }] } }) ∧
    (enabled = true → 64 ≤ c.link.queue.length →
      c.report r = { c with link :=
        { c.link with overrun := true, dropCount := if c.link.dropCount < 65535 then c.link.dropCount + 1 else 65535 } })

/-- R204, R205, R206: IDENT and STATUS are answered in every state of the Link and change nothing but an open window, and RESET is answered OK, the reset itself following its transmission.
That IDENT's silicon revision takes two bytes is the model's reading of section 11.7 (log 17).
That a set flag is sent as 1 is the model's choice (log 36). -/
def Obligations.IdentStatusAndReset : Prop :=
  (∀ (tag : Byte) (s : State), s.Running →
    Replies (.ident tag) 0x81#8 tag s s.ctl.closeWindow .ok
      (bytesLE 2 0x6D31 ++ bytesLE 2 0x8820 ++ bytesLE 2 1 ++ [88#8, 64#8, 2#8] ++ bytesLE 2 16384)) ∧
  (∀ (tag : Byte) (s : State), s.Running →
    let c := s.ctl.closeWindow
    let count := fun (p : KeyRec → Bool) => codeByte (c.keys.countP p)
    Replies (.status tag) 0x82#8 tag s c .ok
      (codeByte c.rail.state.code ++ codeByte c.playerState.code ++ codeByte c.recState.code
        ++ codeByte c.phones.output.code ++ flagByte c.phones.jackPresent ++ codeByte (c.used .live)
        ++ codeByte (c.used .playback) ++ optLE 1 c.pool.pendingTone
        ++ flagByte (decide (∀ r ∈ c.keys, r.state.disturbs = false))
        ++ count (fun r => r.stale) ++ count (fun r => r.state == .uncal) ++ count (fun r => r.state == .fault)
        ++ codeByte c.trim.fifo.length ++ codeByte c.link.state.code ++ codeByte c.link.input.length
        ++ codeByte c.link.queue.length ++ flagByte c.link.overrun)) ∧
  ∀ (tag : Byte) (s : State), s.Serving → Replies (.reset tag) 0x84#8 tag s s.ctl.closeWindow .ok []

/-! ### Standby and wake -/

/-- R200, R209: in standby and while waking, every request but IDENT, STATUS and WAKE is answered STANDBY and changes nothing but an open window, which TAKE_DATA and TAKE_READ leave open. The reply carries the fields that the rule of the request gives every reply or every refused one: the set in force (R5), the curve's name (R39), the trim settings (R51), the pedal's readings and the cut (R77), the rail (R85), the used counts (R110), the partitions (R111), the tones (R124), the slot (R150, R156), the Recorder's state (R161).
Which fields the other requests show is the model's choice (log 18); the widths and the absent fields are its reading (log 17).
That a set flag is sent as 1 is the model's choice (log 36). -/
def Obligations.SleepingControllerAnswersStandby : Prop :=
  ∀ (i : Instr) (kind tag : Byte) (body : List Byte) (s : State), s.Running → s.ctl.link.state ≠ .active → i.wf = true →
    requestFrame i = some (kind, tag, body) → kind ≠ 0x01#8 → kind ≠ 0x02#8 → kind ≠ 0x06#8 →
    let c := if kind = 0x29#8 ∨ kind = 0x2A#8 then s.ctl else s.ctl.closeWindow
    Replies i (kind + 0x80#8) tag s c .standby (refusalFields kind.toNat body c)

/-- R208: STANDBY is refused with the first busy reason that holds, and otherwise standby is entered: the clock suspended (R1), the keys placed and their timers cancelled (R26), the sostenuto disengaged with every value kept (R79), the trim units suspended with their rounds stopped (R60), no voice left SOUNDING (R130) and the output turned off or falling (R142). -/
def Obligations.StandbyChecksAndEntry : Prop :=
  ∀ (tag : Byte) (s : State), s.Serving →
    let c := s.ctl.closeWindow
    let settled := c.rail.state = .clear ∨ c.rail.state = .engaged ∨ c.rail.state = .fault ∨ c.rail.state = .unplaced
    let refused := fun (reason : BusyReason) =>
      Replies (.standby tag) 0x85#8 tag s c .badState (codeByte reason.code)
    (c.playerState ≠ .stopped → refused .player) ∧
    (c.playerState = .stopped → c.recState ≠ .idle → refused .recorder) ∧
    (c.playerState = .stopped → c.recState = .idle → ¬ settled → refused .rail) ∧
    (c.playerState = .stopped → c.recState = .idle → settled → c.trim.cal ≠ none → refused .calibration) ∧
    (c.playerState = .stopped → c.recState = .idle → settled → c.trim.cal = none →
      ∃ c', Replies (.standby tag) 0x85#8 tag s c' .ok [] ∧
        Controller.Frame [.clock, .keys, .trim, .pedals, .pool, .phones, .link] c c' ∧
        c'.clock = { c.clock with suspended := true } ∧ c'.link.state = .standby ∧
        c'.keys = c.keys.map (fun r =>
          let r := { r with flight := none, faultTimer := none, recovery := none }
          if r.state.disturbs then
            { r with state := .rest, tLift := none, sounded := false, liftSpent := false, holdOff := false }
          else r) ∧
        c'.pedals = { c.pedals with
          engaged := false, hold := none, sostenuto := []
          recs := c.pedals.recs.map fun r => { r with faultTimer := none, recovery := none } } ∧
        c'.trim.fifo = c.trim.fifo ∧ c'.trim.cal = none ∧ (∀ g, c'.roundTimer g = none) ∧
        (∀ u ∈ c'.trim.units, u.phase = .suspended ∧ u.passedOver = []) ∧
        (∀ i n, c'.voice i = some n → n.fading = true) ∧
        (c.phones.output = .off → c'.phones.output = .off ∧ c'.poolEmpty = true ∧ c'.phones.freeingOwed = false) ∧
        (c.phones.output = .on → c'.phones.output = .falling ∧ c'.phones.ramp = 2400 ∧ c'.phones.freeingOwed = true) ∧
        (c.phones.output = .falling → c'.phones = { c.phones with freeingOwed := true }) ∧
        (c.phones.output = .rising → c'.phones.output = .falling ∧ c'.phones.freeingOwed = true))

/-- R26, R209: the WAKE request and the wake check that finds a waking key begin a wake of 960 frames; a check that finds none keeps its sample, and a WAKE taken outside standby is answered ALREADY. -/
def Obligations.WakeBegins : Prop :=
  (∀ (tag : Byte) (s : State), s.Running →
    let c := s.ctl.closeWindow
    (c.link.state = .standby → Replies (.wake tag) 0x86#8 tag s
      { c with link :=
        { c.link with state := .waking, wakeSource := some .request, wakeTimer := some (c.phones.frame + 960) } }
      .accepted []) ∧
    (c.link.state ≠ .standby → Replies (.wake tag) 0x86#8 tag s c .already [])) ∧
  ∀ (k raw : Nat) (s : State), s.Running → 1 ≤ k → k ≤ 88 → raw < 4096 → s.ctl.link.state = .standby →
    (s.ctl.key k).state = .rest →
    let c := s.ctl
    let r := c.key k
    let depth := r.depth raw
    let kept := { r with latest := some { time := c.now, raw := raw, depth := depth }, previous := r.latest }
    (r.latestDepth < c.thresholds.lift ∧ c.thresholds.lift ≤ depth →
      let woken := (c.setKey k { kept with state := .held, holdOff := true }).report (.wakeKey k)
      Leaves (.wakeCheck k raw) s { woken with link :=
        { woken.link with state := .waking, wakeSource := some (.key k), wakeTimer := some (c.phones.frame + 960) } }) ∧
    (¬ (r.latestDepth < c.thresholds.lift ∧ c.thresholds.lift ≤ depth) → Leaves (.wakeCheck k raw) s (c.setKey k kept))

/-- R210: the completion of wake, at the expiry of its timer: the Link ACTIVE, the clock running from the value it held, every resting key placed by its mute and depth, with its hold-off set in SHALLOW (R17), and every other key in its state (R26), the round timers started afresh (R60), the freeing no longer owed (R142), and last the AWAKE report.
That AWAKE is the last of its reports is the model's reading (log 11). -/
def Obligations.WakeCompletes : Prop :=
  ∀ (src : WakeSource) (f : Nat) (s : State), s.Running → s.ctl.Sized → s.ctl.link.state = .waking →
    s.ctl.link.wakeSource = some src → s.ctl.link.wakeTimer = some f → f ≤ s.ctl.phones.frame →
    ∃ c, Leaves .wakeComplete s (c.report (.awake src)) ∧
      Controller.Frame [.clock, .keys, .trim, .rail, .pool, .phones, .link] s.ctl c ∧
      c.clock = { s.ctl.clock with suspended := false } ∧ c.link.state = .active ∧
      c.link.wakeSource = none ∧ c.link.wakeTimer = none ∧ c.phones.freeingOwed = false ∧
      (∀ k, 1 ≤ k → k ≤ 88 → (c.key k).state =
        (if (s.ctl.key k).state ≠ .rest then (s.ctl.key k).state
         else if (s.ctl.key k).muted then .muted
         else if (s.ctl.key k).latestDepth < s.ctl.thresholds.rest then .rest
         else .shallow)) ∧
      (∀ k, 1 ≤ k → k ≤ 88 → (c.key k).holdOff =
        (if (s.ctl.key k).state = .rest then decide ((c.key k).state = .shallow) else (s.ctl.key k).holdOff)) ∧
      (∀ g, g < 11 → c.roundTimer g =
        some (after s.ctl.now (s.ctl.trim.interval * 1000000 + g * (s.ctl.trim.interval * 1000000) / 11))) ∧
      (∀ g, g < 11 → (c.trimUnit g).phase = .suspended → c.motorRunning = true ∨ c.calibrating g = true) ∧
      (c.trim.cal = none → c.trim.fifo = [] ∨ c.rail.state = .engaging ∨ c.rail.state = .disengaging ∨ c.rail.state = .settling) ∧
      c.phones.output =
        (if s.ctl.phones.enable && s.ctl.phones.jackPresent && decide (0 < s.ctl.phones.master.setting) then
          (match s.ctl.phones.output with
           | .off | .falling => .rising
           | .rising | .on => s.ctl.phones.output)
         else
          (match s.ctl.phones.output with
           | .on | .rising => .falling
           | .off | .falling => s.ctl.phones.output))


/-! ### Settings and snapshots -/

/-- R5, R77, R126, R203: the requests that give settings, in every case: refused with BAD_VALUE and nothing changed, ALREADY when the values equal those in force, and otherwise OK with the new values in force; the reply carries the values in force after the request. A PEDAL_PARAM of a pedal outside 0..2 is refused and carries the cut.
That absent readings stand before the cut in that reply is the model's reading (log 17).
That a set flag is sent as 1 is the model's choice (log 36). -/
def Obligations.SettingsRequests : Prop :=
  (∀ (tag : Byte) (a b l k : Nat) (s : State), s.Serving →
    let c := s.ctl.closeWindow
    let t : Thresholds := { rest := a, damp := b, lift := l, strike := k }
    let fields := fun (t : Thresholds) => bytesLE 2 t.rest ++ bytesLE 2 t.damp ++ bytesLE 2 t.lift ++ bytesLE 2 t.strike
    let legal := 16 ≤ a ∧ a + 16 ≤ b ∧ b + 16 ≤ l ∧ l + 64 ≤ k ∧ k ≤ 1000
    let replies := Replies (.thresholds tag a b l k) 0x90#8 tag s
    (¬ legal → replies c .badValue (fields c.thresholds)) ∧
    (legal → t = c.thresholds → replies c .already (fields t)) ∧
    (legal → t ≠ c.thresholds → replies { c with thresholds := t } .ok (fields t))) ∧
  (∀ (tag : Byte) (p rest full cut : Nat) (s : State), s.Serving → s.ctl.Sized →
    let c := s.ctl.closeWindow
    let r := c.pedal p
    let fields := fun (a b x : Nat) => bytesLE 2 a ++ bytesLE 2 b ++ bytesLE 2 x
    let legal := p < 3 ∧ rest ≤ 4095 ∧ full ≤ 4095 ∧ rest + 64 ≤ full ∧ cut ≤ 24
    let same := rest = r.restRaw ∧ full = r.fullRaw ∧ cut = c.pedals.softCut
    let replies := Replies (.pedalParam tag p rest full cut) 0x9A#8 tag s
    (¬ legal → p < 3 → replies c .badValue (fields r.restRaw r.fullRaw c.pedals.softCut)) ∧
    (3 ≤ p → replies c .badValue (absent 4 ++ bytesLE 2 c.pedals.softCut)) ∧
    (legal → same → replies c .already (fields rest full cut)) ∧
    (legal → ¬ same → replies
      { c with pedals :=
        { c.pedals with recs := c.pedals.recs.set p { r with restRaw := rest, fullRaw := full }, softCut := cut } }
      .ok (fields rest full cut))) ∧
  (∀ (tag : Byte) (flag : Nat) (s : State), s.Serving →
    let c := s.ctl.closeWindow
    let on := flag != 0
    let set : Controller := { c with pool := { c.pool with layer := on } }
    (on = c.pool.layer →
      Replies (.layer tag flag) 0xA2#8 tag s c .already (flagByte on ++ flagByte c.livePath)) ∧
    (on ≠ c.pool.layer →
      Replies (.layer tag flag) 0xA2#8 tag s set .ok (flagByte on ++ flagByte set.livePath)) ∧
    (c.livePath = false ↔ c.rail.clearSwitch.closed = true ∧ c.rail.motor = .off ∧ c.pool.layer = false)) ∧
  ∀ (tag : Byte) (mask : Nat) (s : State), s.Serving → mask < 256 →
    let c := s.ctl.closeWindow
    let m := BitVec.ofNat 8 mask
    let fields := [m] ++ codeByte c.link.queue.length ++ flagByte c.link.overrun
    (m = c.link.mask → Replies (.reports tag mask) 0x83#8 tag s c .already fields) ∧
    (m ≠ c.link.mask →
      Replies (.reports tag mask) 0x83#8 tag s { c with link := { c.link with mask := m } } .ok fields)

/-- R22, R41, R78, R103, R128, R155: the requests that read a block answer OK with its snapshot and change nothing but an open window; a key, curve, voice part or slot that does not exist is answered BAD_VALUE, by VOICE_READ with the used counts (R110). PLAY_READ brings the take time up to date first (R174, R196), and what it has then reached is taken (R175).
The order and the widths of the fields are the model's reading of section 11.7, the codes that the manual does not number are free values, the 0xFF of an absent field stands in each of its bytes (log 16, log 17), the bytes of the motor, the origin and the switches, and the four remaining times in the order of R83's table with 0xFF for a timer that does not run, are the model's choice (log 33), and so are the fields of the loop (log 34); that the snapshot is taken before what the take time has reached is the model's reading (log 31).
That a set flag is sent as 1 is the model's choice (log 36). -/
def Obligations.SnapshotReplies : Prop :=
  ∀ (tag : Byte) (n : Nat) (s : State), s.Serving →
    let c := s.ctl.closeWindow
    let bad := fun (i : Instr) (kind : Byte) => Replies i kind tag s c .badValue []
    (n = 0 ∨ 88 < n → bad (.keyRead tag n) 0x93#8) ∧
    (1 ≤ n → n ≤ 88 →
      let r := c.key n
      Replies (.keyRead tag n) 0x93#8 tag s c .ok
        (codeByte r.state.code ++ optLE 2 (r.latest.map Sample.depth) ++ optLE 2 r.restRaw ++ bytesLE 2 r.nominal
          ++ bytesLE 2 r.bottom ++ bytesLE 2 r.travel ++ signed2 r.levelTrim ++ signed2 r.debt ++ flagByte r.stale
          ++ flagByte r.muted ++ flagByte r.holdOff ++ bytesLE 2 c.thresholds.rest ++ bytesLE 2 c.thresholds.damp
          ++ bytesLE 2 c.thresholds.lift ++ bytesLE 2 c.thresholds.strike)) ∧
    (1 < n → bad (.curveRead tag n) 0x95#8) ∧
    (∀ name : Curve, name.code = n → Replies (.curveRead tag n) 0x95#8 tag s c .ok
      (((c.curve name).flatMap fun l => bytesLE 2 l)
        ++ codeByte (if c.rail.lastStop = .engaged then Curve.silent.code else Curve.acoustic.code))) ∧
    Replies (.pedalRead tag) 0x9B#8 tag s c .ok
      (([0, 1, 2].flatMap fun p =>
          let r := c.pedal p
          bytesLE 2 r.value ++ optLE 2 (r.latest.map Prod.snd) ++ bytesLE 2 r.restRaw ++ bytesLE 2 r.fullRaw
            ++ flagByte r.fault ++ bytesLE 2 r.lastReported)
        ++ [Config.zoneCode (zoneOf (c.pedal 0).value)] ++ flagByte c.pedals.engaged ++ flagByte c.pedals.hold.isSome
        ++ codeByte c.pedals.sostenuto.length ++ c.pedals.sostenuto.flatMap codeByte ++ bytesLE 2 c.pedals.softCut) ∧
    Replies (.railRead tag) 0x9E#8 tag s c .ok
      (codeByte c.rail.state.code ++ optLE 1 (c.rail.cause.map RailCause.code)
        ++ optLE 1 (c.rail.target.map Stop.code) ++ optLE 1 (c.rail.origin.map fun o => o.state.code)
        ++ optLE 1 (c.rail.origin.bind fun o => o.cause.map RailCause.code) 
        ++ (if c.rail.state = .waitQuiet ∨ c.rail.state = .disengaging ∨ c.rail.state = .settling then
              flagByte c.rail.recovery
            else absent 1)
        ++ optLE 1 (c.rail.pendingTarget.map Stop.code) ++ codeByte c.rail.lastStop.code
        ++ flagByte c.rail.clearSwitch.closed ++ flagByte c.rail.engagedSwitch.closed ++ motorFields c.rail.motor
        ++ flagByte c.rail.overLimit ++ flagByte c.livePath ++ timerField c c.rail.quietTimer
        ++ timerField c c.rail.travelTimer ++ timerField c c.rail.stallTimer ++ timerField c c.rail.settleTimer) ∧
    (7 < n → Replies (.voiceRead tag n) 0xA4#8 tag s c .badValue (codeByte (c.used .live) ++ codeByte (c.used .playback))) ∧
    (n ≤ 7 → Replies (.voiceRead tag n) 0xA4#8 tag s c .ok
      (((List.range 8).flatMap fun i => voiceBytes c.now (c.voice (8 * n + i))) ++ codeByte (c.reserve .live)
        ++ codeByte (c.reserve .playback) ++ flagByte (c.lends .playback) ++ flagByte (c.lends .live)
        ++ codeByte (c.used .live) ++ codeByte (c.used .playback) ++ codeByte c.pool.tone ++ optLE 1 c.pool.pendingTone
        ++ flagByte c.pool.layer ++ flagByte c.livePath ++ codeByte c.pool.damperLimit
        ++ ((List.range 11).flatMap fun i => bytesLE 2 (c.decayEntry (11 * n + i + 1))))) ∧
    (1 < n → bad (.takeInfo tag n) 0xAB#8) ∧
    (∀ sl : Slot, sl.code = n → Replies (.takeInfo tag n) 0xAB#8 tag s c .ok
      ([Config.slotStateCode (c.take sl).isSome]
        ++ (match c.take sl with | some t => [Config.originCode t.origin] | none => absent 1)
        ++ bytesLE 2 (c.count sl) ++ bytesLE 3 (c.length sl) ++ bytesLE 2 (16384 - c.count sl)
        ++ optLE 3 ((c.records sl).getLast?.map TakeRec.time)
        ++ flagByte (c.recorderUses sl) ++ flagByte (c.playerUses sl))) ∧
    (∃ c' c'', Replies (.playRead tag) 0xC0#8 tag s c'' .ok
        (codeByte c'.playerState.code
          ++ optLE 1 (match c'.player.session with
            | some { phase := .paused true, .. } => some PlayerState.waiting.code
            | some { phase := .paused false, .. } => some PlayerState.playing.code
            | _ => none)
          ++ optLE 1 (c'.player.session.map fun x => x.slot.code) ++ optLE 2 (c'.player.session.map fun x => x.cursor)
          ++ optLE 5 (c'.player.session.map fun x => x.time) ++ optLE 2 (c'.player.session.map fun x => x.remainder)
          ++ bytesLE 2 c'.player.tempo ++ codeByte c'.player.splitKey ++ codeByte (muteMask c'.player)
          ++ codeByte c'.player.guide.code ++ bytesLE 3 c'.player.chordWindow ++ loopFields c'
          ++ bytesLE 2 c'.player.damper ++ bytesLE 2 c'.player.sostenuto ++ bytesLE 2 c'.player.soft
          ++ flagByte c'.player.engaged ++ keyBitmap c'.player.keyDown ++ keyBitmap c'.player.held
          ++ keyBitmap c'.player.expected ++ bytesLE 2 c'.player.consumed.length) ∧
      Controller.Frame [.player] c c' ∧
      c'.player = { c.player with session := c.player.session.map fun x =>
        if x.phase = .playing then
          { x with
            time := x.time + (elapsed c.now x.since * c.player.tempo + x.remainder) / 100
            remainder := (elapsed c.now x.since * c.player.tempo + x.remainder) % 100, since := c.now }
        else x } ∧
      Controller.Frame [.pool, .takes, .recorder, .player, .link] c' c'' ∧
      (c'.playerState ≠ .playing → c'' = c') ∧ (c'.playerState = .playing → c''.CaughtUp) ∧
      (∀ x, c'.player.session = some x → x.phase = .playing → c'.NothingDue x →
        ∃ d, c'' = c'.setSession (some { x with due := some d })))

/-! ### Keys -/

/-- R16, R17, R20, R21, R24, R163: KEY_MUTE and KEY_PARAM name one key and leave the record of every other. A mute withdraws a key from a positional state, an unmute re-evaluates a muted key, and FAULT and UNCAL are kept. The withdrawal of a key whose damper is up hands a DAMPER_DOWN on: the LIVE voices of the key take the rate of their line (R121), and a recording in progress writes it. Nothing else changes the pool or the Recorder. New rest or bottom readings take the calibration of the key away: at once, or at the completion of its group's FULL calibration, whose group is then served; a key in FAULT stays there. A key number outside 1..88 is refused with BAD_VALUE.
That a key which loses its calibration keeps its rest_raw is the model's reading (log 27). -/
def Obligations.KeyMuteAndParam : Prop :=
  (∀ (tag : Byte) (k flag n b t : Nat) (l : Int) (s : State), s.Serving → k = 0 ∨ 88 < k →
    Replies (.keyMute tag k flag) 0x91#8 tag s s.ctl.closeWindow .badValue [] ∧
    Replies (.keyParam tag k n b t l) 0x92#8 tag s s.ctl.closeWindow .badValue []) ∧
  ∀ (tag : Byte) (k : Nat) (s : State), s.Serving → s.ctl.Sized → 1 ≤ k → k ≤ 88 →
    let c := s.ctl.closeWindow
    let r := c.key k
    let others := fun (c' : Controller) => ∀ j, 1 ≤ j → j ≤ 88 → j ≠ k → c'.key j = c.key j
    let touched := [Block.keys, .trim, .rail, .pool, .takes, .recorder, .link]
    let positional := fun (x : KeyState) => x ∈ [KeyState.rest, .shallow, .held, .armed, .struck]
    let out := fun (r : KeyRec) (into : KeyState) =>
      if positional r.state then
        { r with
          state := into, flight := none, tLift := none, sounded := false, liftSpent := false, holdOff := false }
      else { r with state := into }
    let up := r.state = .held ∨ r.state = .armed ∨ r.state = .struck
    let handed := fun (c' : Controller) =>
      (∀ i n, c'.voice i = some n → n.fading = false → n.source = .live → n.key = k →
        (n.rateClass, n.rate) = c'.rateFor .live k) ∧
      ∀ j run, c.recorder.job = some j → j.run = some run → c'.records j.target = c.records j.target ++
        [{ time := c.recTime j, kind := .damperDown, subject := k, value := 0 }]
    let untouched := fun (c' : Controller) => c'.pool = c.pool ∧ c'.takes = c.takes ∧ c'.recorder = c.recorder
    (∀ flag, (flag != 0) = r.muted → Replies (.keyMute tag k flag) 0x91#8 tag s c .already []) ∧
    (∀ flag, (flag != 0) ≠ r.muted → ∃ c', Replies (.keyMute tag k flag) 0x91#8 tag s c' .ok [] ∧
      Controller.Frame touched c c' ∧ others c' ∧
      c'.key k =
        (if flag ≠ 0 then
          if positional r.state then out { r with muted := true } .muted else { r with muted := true }
         else if r.state = .muted then
          { r with
            muted := false, flight := none, tLift := none, sounded := false, liftSpent := false
            state := if r.latestDepth < c.thresholds.rest then .rest else .shallow
            holdOff := decide (c.thresholds.rest ≤ r.latestDepth) }
         else { r with muted := false }) ∧
      (flag ≠ 0 → up → handed c') ∧ (¬ (flag ≠ 0 ∧ up) → untouched c')) ∧
    (∀ (nominal bottom travel : Nat) (trim : Int),
      let legal := nominal ≤ 4095 ∧ bottom ≤ 4095 ∧ 2000 ≤ travel ∧ travel ≤ 16000 ∧ -16 ≤ trim ∧ trim ≤ 15 ∧
        nominal + 256 ≤ bottom
      let moved := nominal ≠ r.nominal ∨ bottom ≠ r.bottom
      let same := ¬ moved ∧ travel = r.travel ∧ trim = r.levelTrim
      let r' := { r with nominal := nominal, bottom := bottom, travel := travel, levelTrim := trim }
      let replies := Replies (.keyParam tag k nominal bottom travel trim) 0x92#8 tag s
      (¬ legal → replies c .badValue []) ∧
      (legal → same → replies c .already []) ∧
      (legal → ¬ same → ∃ c', replies c' .ok [] ∧ Controller.Frame touched c c' ∧ others c' ∧
        c'.key k =
          (if ¬ moved ∨ r.state = .fault then r'
           else if c.calibrating ((k - 1) / 8) then { r' with calLost := true }
           else out r' .uncal) ∧
        (moved → up → c.calibrating ((k - 1) / 8) = false → handed c') ∧
        (¬ (moved ∧ up ∧ c.calibrating ((k - 1) / 8) = false) → untouched c') ∧
        (moved → r.state ≠ .fault → c'.served ((k - 1) / 8) = true) ∧
        (moved → r.state ≠ .fault → c.calibrating ((k - 1) / 8) = true →
          ∃ cal, c'.trim.cal = some cal ∧ cal.group = (k - 1) / 8 ∧ cal.rejoin = true)))

/-- R3, R4, R18, R19, R88, R102: what a sample of a key leaves in its record, whatever its state: the sample with its depth as the latest, the one before it as the previous, the fault or the recovery timer, and every parameter as it was; rest_raw, debt and stale change only where the unit of the group trims the key. Every other key keeps its record. A rail that waits starts its motion, or settles at a closed switch, with its report, when the sample leaves the keyboard quiet and no calibration is in progress; otherwise the rail is as it was. -/
def Obligations.KeySampleKept : Prop :=
  ∀ (k raw : Nat) (s : State), s.Serving → s.ctl.Sized → 1 ≤ k → k ≤ 88 → raw < 4096 →
    let r := s.ctl.key k
    let e := min (r.restRaw.getD r.nominal) (r.bottom - 64)
    let depth := if raw < e then 0 else min 1023 ((raw - e) * 1023 / (r.bottom - e))
    let inRange := 16 ≤ raw ∧ raw ≤ 4079
    ∃ c, Leaves (.keySample k raw) s c ∧
      Controller.Frame [.keys, .trim, .rail, .pool, .takes, .recorder, .player, .link] s.ctl c ∧
      (∀ j, 1 ≤ j → j ≤ 88 → j ≠ k → c.key j = s.ctl.key j) ∧
      (c.key k).latest = some { time := s.ctl.now, raw := raw, depth := depth } ∧ (c.key k).previous = r.latest ∧
      (c.key k).resumed = false ∧
      (c.key k).faultTimer =
        (if r.state = .fault then r.faultTimer
         else if inRange then none else some (r.faultTimer.getD (s.ctl.now + 50000#32))) ∧
      (c.key k).recovery =
        (if r.state ≠ .fault then r.recovery
         else if inRange then some (r.recovery.getD (s.ctl.now + 500000#32)) else none) ∧
      (c.key k).nominal = r.nominal ∧ (c.key k).bottom = r.bottom ∧ (c.key k).travel = r.travel ∧
      (c.key k).levelTrim = r.levelTrim ∧ (c.key k).muted = r.muted ∧ (c.key k).calLost = r.calLost ∧
      ((∀ x n, (s.ctl.trimUnit ((k - 1) / 8)).phase ≠ .trimming k x n) →
        (c.key k).restRaw = r.restRaw ∧ (c.key k).debt = r.debt ∧ (c.key k).stale = r.stale) ∧
      (let rl := s.ctl.rail
       let quiet := ∀ x ∈ c.keys, x.state ∉ [KeyState.shallow, .held, .armed, .struck]
       (∀ t, rl.state = .waitQuiet → rl.target = some t → quiet → s.ctl.trim.cal = none →
         (c.rail.target, c.rail.origin, c.rail.quietTimer) = (some t, none, none) ∧
         (c.rail.state, c.rail.motor) = (if (rl.switch t).closed then (.settling, .off) else (t.motion, t.motor)) ∧
         (s.ctl.link.mask.getLsbD 3 = true → s.ctl.link.queue.length < 60 →
           { time := s.ctl.now, report := .railState c.rail.state (some t) rl.cause false rl.lastStop rl.recovery }
             ∈ c.link.queue)) ∧
       (¬ (rl.state = .waitQuiet ∧ rl.target ≠ none ∧ quiet ∧ s.ctl.trim.cal = none) → c.rail = rl))

/-- R6, R9, R10, R11, R13, R14: the state of a key after a sample, from its state before and the depth of the sample, all crossings of the sample taken: the rising comparisons at T_rest, T_damp, T_lift and T_strike, the falling ones 8 below, and the marks hold_off and lift_spent that keep a key from rising. UNCAL, FAULT and MUTED are kept. The lift crossing stores t_lift and starts the flight timer 120,000 µs after it, and a retreat cancels both. A damper that rises or falls (R14, R24) puts the LIVE voices of its key on the rate of their line (R121) and is written by a recording in progress (R163), and one that falls is reported by RELEASE with its crossing time (R7, R25). -/
def Obligations.KeySampleFollowsDepth : Prop :=
  ∀ (k raw : Nat) (s : State), s.Serving → s.ctl.Sized → s.ctl.thresholds.ok = true → 1 ≤ k → k ≤ 88 → raw < 4096 →
    let r := s.ctl.key k
    let d := r.depth raw
    let t := s.ctl.thresholds
    let fallen := if d + 8 < t.rest then KeyState.rest else .shallow
    let risen := if d < t.rest then KeyState.rest else if d < t.damp then .shallow else if d < t.lift then .held
      else if d < t.strike then .armed else .struck
    let before := if r.resumed then none else r.latest
    let lifted := match before with
      | some p => if p.depth < t.lift then p.time + BitVec.ofNat 32 (20 * (t.lift - p.depth) / (d - p.depth)) else s.ctl.now
      | none => s.ctl.now
    let fallen8 := match before with
      | some p =>
        if t.damp ≤ p.depth + 8 then p.time + BitVec.ofNat 32 (20 * (p.depth + 8 - t.damp) / (p.depth - d)) else s.ctl.now
      | none => s.ctl.now
    let up := fun (x : KeyState) => decide (x = .held ∨ x = .armed ∨ x = .struck)
    ∃ c, Leaves (.keySample k raw) s c ∧
      (r.state = .rest → r.holdOff = false → r.liftSpent = false → (c.key k).state = risen) ∧
      (r.state = .shallow → r.holdOff = true →
        (c.key k).state = fallen ∧ (c.key k).holdOff = !decide (d + 8 < t.rest)) ∧
      (r.state = .shallow → r.holdOff = false → r.liftSpent = false →
        (c.key k).state = if d + 8 < t.rest then .rest else if d < t.damp then .shallow else risen) ∧
      (r.state = .held → d + 8 < t.lift →
        (c.key k).state = if d + 8 < t.damp then fallen else .held) ∧
      (r.state = .held → t.lift ≤ d + 8 →
        (c.key k).state = if d < t.lift ∨ r.holdOff = true ∨ r.liftSpent = true then .held else risen) ∧
      (r.state = .armed → t.lift ≤ d + 8 → (c.key k).state = if d < t.strike then .armed else .struck) ∧
      (r.state = .struck → t.lift ≤ d + 8 → (c.key k).state = .struck) ∧
      (r.state = .armed ∨ r.state = .struck → d + 8 < t.lift →
        (c.key k).state = if d + 8 < t.damp then fallen else .held) ∧
      (r.state = .held → d + 8 < t.lift → (c.key k).liftSpent = false) ∧
      (r.state = .uncal ∨ r.state = .fault ∨ r.state = .muted → (c.key k).state = r.state) ∧
      (r.state ≠ .armed → (c.key k).state = .armed →
        (c.key k).tLift = some lifted ∧ (c.key k).flight = some (lifted + 120000#32)) ∧
      (r.state = .armed → (c.key k).state = .armed → (c.key k).tLift = r.tLift ∧ (c.key k).flight = r.flight) ∧
      (r.state = .armed → (c.key k).state ≠ .armed → (c.key k).tLift = none ∧ (c.key k).flight = none) ∧
      (up r.state ≠ up (c.key k).state → ∀ i n, c.voice i = some n → n.fading = false → n.source = .live → n.key = k →
        (n.rateClass, n.rate) = c.rateFor .live k) ∧
      (∀ j run, s.ctl.recorder.job = some j → j.run = some run →
        let wrote := fun (kind : RecKind) => c.records j.target = s.ctl.records j.target ++
          [{ time := s.ctl.recTime j, kind := kind, subject := k, value := 0 }]
        (up r.state = false → (c.key k).state = .held ∨ (c.key k).state = .armed → wrote .damperUp) ∧
        (up r.state = true → up (c.key k).state = false → wrote .damperDown)) ∧
      (up r.state = true → up (c.key k).state = false →
        (c.key k).sounded = false ∧ (c.key k).liftSpent = false ∧
        (s.ctl.link.mask.getLsbD 0 = true → s.ctl.link.queue.length < 60 →
          { time := fallen8, report := .release k r.sounded } ∈ c.link.queue))

/-- R12, R24, R25, R113: the strike of an ARMED key: at its T_strike crossing the key is STRUCK with sounded set; the flight from t_lift, at least 1 µs, gives the level through the Touch Unit; the STRIKE report carries both with its flags; and with the live path open one LIVE voice of the key begins at that level, with it closed no voice changes.
The Recorder idle and the Player stopped leave the strike to the pool and the Link.
A FREE recording that waits for it starts at the strike (R162): the three PEDAL records and a DAMPER_UP of every key whose damper is up, at record time 0, then the STRIKE, with REC_STARTED reported; one in progress writes the STRIKE at its record time (R163). -/
def Obligations.ArmedKeyStrikes : Prop :=
  (∀ (k raw : Nat) (lift : Time) (p : Sample) (s : State), s.Serving → s.ctl.Sized → s.ctl.PoolOk →
    s.ctl.thresholds.ok = true → 1 ≤ k → k ≤ 88 → raw < 4096 → s.ctl.recState = .idle → s.ctl.playerState = .stopped →
    let r := s.ctl.key k
    let d := r.depth raw
    let t := s.ctl.thresholds
    r.state = .armed → r.tLift = some lift → r.latest = some p → r.resumed = false → p.depth < t.strike → t.strike ≤ d →
    let time := p.time + BitVec.ofNat 32 (20 * (t.strike - p.depth) / (d - p.depth))
    let flight := max 1 (time - lift).toNat
    let level := strikeLevel (s.ctl.curve s.ctl.curveInUse) r.travel flight r.levelTrim (s.ctl.pedal 2).value
      s.ctl.pedals.softCut
    ∃ c, Leaves (.keySample k raw) s c ∧ (c.key k).state = .struck ∧ (c.key k).sounded = true ∧
      (c.key k).tLift = none ∧ (c.key k).flight = none ∧
      (s.ctl.link.mask.getLsbD 0 = true → s.ctl.link.queue.length < 60 →
        { time := time
          report := .strike k level flight r.sounded r.stale
            (decide (s.ctl.rail.state = .engaging ∨ s.ctl.rail.state = .disengaging))
            (decide (s.ctl.rail.lastStop = .engaged)) } ∈ c.link.queue) ∧
      (s.ctl.livePath = true → ∃ i n, c.voice i = some n ∧ n.source = .live ∧ n.key = k ∧ n.level = level ∧
        n.fading = false ∧ n.start = s.ctl.now ∧ ∀ j m, c.voice j = some m → m.source = .live → m.key = k → j = i) ∧
      (s.ctl.livePath = false → c.pool = s.ctl.pool) ∧
      c.recorder = s.ctl.recorder ∧ c.takes = s.ctl.takes ∧ c.player = s.ctl.player) ∧
  ∀ (k raw : Nat) (lift : Time) (p : Sample) (j : RecJob) (s : State), s.Serving → s.ctl.Sized →
    s.ctl.thresholds.ok = true → 1 ≤ k → k ≤ 88 → raw < 4096 → s.ctl.recorder.job = some j →
    s.ctl.playerState = .stopped ∨ s.ctl.playerState = .paused →
    let r := s.ctl.key k
    let d := r.depth raw
    let t := s.ctl.thresholds
    r.state = .armed → r.tLift = some lift → r.latest = some p → r.resumed = false → p.depth < t.strike → t.strike ≤ d →
    let flight := max 1 (p.time + BitVec.ofNat 32 (20 * (t.strike - p.depth) / (d - p.depth)) - lift).toNat
    let level := strikeLevel (s.ctl.curve s.ctl.curveInUse) r.travel flight r.levelTrim (s.ctl.pedal 2).value
      s.ctl.pedals.softCut
    let old := s.ctl.records j.target
    ∃ c, Leaves (.keySample k raw) s c ∧ (∀ other, other ≠ j.target → c.take other = s.ctl.take other) ∧
      (∀ run, j.run = some run →
        c.records j.target = old ++ [{ time := s.ctl.recTime j, kind := .strike, subject := k, value := level }] ∧
        (old.length + 1 < 16384 → c.recorder = s.ctl.recorder) ∧ (16384 ≤ old.length + 1 → c.recorder.job = none)) ∧
      (j.run = none → j.mode = .free → old = [] → ∃ (ups : List Nat) (run : RecRun),
        (∀ q, q ∈ ups ↔ 1 ≤ q ∧ q ≤ 88 ∧ (s.ctl.key q).state ∈ [KeyState.held, .armed, .struck]) ∧
        ups.Pairwise (· < ·) ∧
        c.records j.target =
          ([0, 1, 2].map fun q => { time := 0, kind := .pedal, subject := q, value := (s.ctl.pedal q).value })
            ++ (ups.map fun q => { time := 0, kind := .damperUp, subject := q, value := 0 })
            ++ [{ time := 0, kind := .strike, subject := k, value := level }] ∧
        c.recorder.job = some { j with run := some run } ∧ run.start = some s.ctl.now ∧ run.startTime = 0 ∧
        run.limit = some (s.ctl.now + 4200000000#32) ∧
        (run.lastDamper, run.lastSostenuto, run.lastSoft) =
          ((s.ctl.pedal 0).value, (s.ctl.pedal 1).value, (s.ctl.pedal 2).value) ∧
        (s.ctl.link.mask.getLsbD 6 = true → s.ctl.link.queue.length < 60 →
          { time := s.ctl.now, report := .recStarted j.target .free 0 (3 + ups.length) } ∈ c.link.queue))

/-- R7, R31: a crossing time lies between the two samples, from the previous up to 20 µs after it; of two thresholds above the previous depth that are crossed rising on one sample the lower is crossed no later; where the previous sample does not stand on the near side, the current sample's own time is taken. The key speed of a travel of 2000..16000 µm and a flight of 1..120,000 µs lies within 16..6000 mm/s.
That the formulas hold also where only the lift takes the sample's own time, and the strike then falls before it against R7's own sentence, is the model's choice (log 35). -/
def Obligations.CrossingTimesAndSpeed : Prop :=
  (∀ (p d : Sample) (low high : Nat), p.depth < low → low ≤ high → high ≤ d.depth →
    ∃ x y, x ≤ y ∧ y ≤ 20 ∧ x = 20 * (low - p.depth) / (d.depth - p.depth) ∧
      y = 20 * (high - p.depth) / (d.depth - p.depth) ∧
      risingTime (some p) d low = p.time + BitVec.ofNat 32 x ∧ risingTime (some p) d high = p.time + BitVec.ofNat 32 y) ∧
  (∀ (p d : Sample) (t : Nat), 8 ≤ t → t - 8 ≤ p.depth → d.depth < t - 8 →
    ∃ x, x ≤ 20 ∧ x = 20 * (p.depth - (t - 8)) / (p.depth - d.depth) ∧
      fallingTime (some p) d t = p.time + BitVec.ofNat 32 x) ∧
  (∀ (p d : Sample) (t : Nat), (t ≤ p.depth → risingTime (some p) d t = d.time) ∧
    (p.depth < t - 8 → fallingTime (some p) d t = d.time) ∧ risingTime none d t = d.time ∧ fallingTime none d t = d.time) ∧
  ∀ (travel flight : Nat), 2000 ≤ travel → travel ≤ 16000 → 1 ≤ flight → flight ≤ 120000 →
    16 ≤ keySpeed travel flight ∧ keySpeed travel flight ≤ 6000 ∧
    (keySpeed travel flight = 6000 ↔ flight ≤ travel / 6) ∧
    (150 ≤ flight → travel / 6 < flight → keySpeed travel flight = travel * 1000 / flight)

/-- R15, R16, R18, R19, R24, R163: the expiries of a key's timers: a silent press, a sensor fault with its withdrawal and report, where the DAMPER_DOWN of a key whose damper is up goes to its LIVE voices (R121) and to a recording in progress, and the end of a fault, after which the key is UNCAL and its group is served. -/
def Obligations.KeyTimers : Prop :=
  ∀ (k : Nat) (s : State), s.Running → s.ctl.Sized → 1 ≤ k → k ≤ 88 → s.ctl.clock.suspended = false →
    let r := s.ctl.key k
    let due := fun (d : Time) => (s.ctl.now - d).toNat < 2147483648
    let others := fun (c : Controller) => ∀ j, 1 ≤ j → j ≤ 88 → j ≠ k → c.key j = s.ctl.key j
    let positional := r.state ∈ [KeyState.rest, .shallow, .held, .armed, .struck]
    let up := r.state = .held ∨ r.state = .armed ∨ r.state = .struck
    (∀ d, r.state = .armed → r.flight = some d → due d →
      Leaves (.silentPress k) s
        ((s.ctl.setKey k { r with state := .held, tLift := none, flight := none, liftSpent := true }).reportAt d
          (.silentPress k))) ∧
    (∀ d, r.state ≠ .fault → r.faultTimer = some d → due d →
      ∃ c, Leaves (.keyFault k) s c ∧ Controller.Frame [.keys, .trim, .rail, .pool, .takes, .recorder, .link] s.ctl c ∧
        others c ∧
        c.key k =
          (if positional then
            { r with
              state := .fault, flight := none, tLift := none, sounded := false, liftSpent := false, holdOff := false
              faultTimer := none, recovery := none }
           else { r with state := .fault, faultTimer := none, recovery := none }) ∧
        (∀ cal, c.trim.cal = some cal → ∀ e ∈ cal.exams, e.key ≠ k) ∧
        (up →
          (∀ i n, c.voice i = some n → n.fading = false → n.source = .live → n.key = k →
            (n.rateClass, n.rate) = c.rateFor .live k) ∧
          ∀ j run, s.ctl.recorder.job = some j → j.run = some run → c.records j.target = s.ctl.records j.target ++
            [{ time := s.ctl.recTime j, kind := .damperDown, subject := k, value := 0 }]) ∧
        (¬ up → c.pool = s.ctl.pool ∧ c.takes = s.ctl.takes ∧ c.recorder = s.ctl.recorder) ∧
        (s.ctl.link.mask.getLsbD 0 = true → s.ctl.link.queue.length < 60 →
          { time := s.ctl.now, report := .keyFault k r.state r.latestRaw } ∈ c.link.queue)) ∧
    (∀ d, r.state = .fault → r.recovery = some d → due d →
      ∃ c, Leaves (.keyClear k) s c ∧ Controller.Frame [.keys, .trim, .link] s.ctl c ∧ others c ∧
        c.key k = { r with state := .uncal, recovery := none } ∧ c.served ((k - 1) / 8) = true ∧
        (s.ctl.link.mask.getLsbD 0 = true → s.ctl.link.queue.length < 60 →
          { time := s.ctl.now, report := .keyClear k } ∈ c.link.queue))


/-! ### Touch -/

/-- R33 and R34, for every curve of 25 non-decreasing levels within 0..127: the interpolated curve level of every speed whose index lies within 0..23, with the bounds of the offset, the step and the quotient, the rounding to the nearest level, and a curve level of 0 raised by the clamp; and the level of every strike, the sum of curve level, level trim and cut clamped as a whole into 1..127. -/
def Obligations.CurveLevelAndClampedLevel : Prop :=
  (∀ (curve : List Nat) (v : Nat), curve.length = 25 → (∀ e ∈ curve, e ≤ 127) → curve.Pairwise (· ≤ ·) → v / 250 ≤ 23 →
    let i := v / 250
    let f := v - 250 * i
    let lo := curve.getD i 0
    let hi := curve.getD (i + 1) 0
    let step := hi - lo
    let q := (step * f + 125) / 250
    f ≤ 249 ∧ lo ≤ hi ∧ step ≤ 127 ∧ step * 249 + 125 < 250 * (step + 1) ∧ q ≤ step ∧
    250 * q ≤ step * f + 125 ∧ step * f + 125 < 250 * (q + 1) ∧
    curveLevel curve v = lo + q ∧ lo ≤ curveLevel curve v ∧ curveLevel curve v ≤ hi ∧ curveLevel curve v ≤ 127 ∧
    (f = 0 → curveLevel curve v = lo)) ∧
  (∃ curve : List Nat, curve.length = 25 ∧ (∀ e ∈ curve, e ≤ 127) ∧ curve.Pairwise (· ≤ ·) ∧ curveLevel curve 16 = 0) ∧
  ∀ (curve : List Nat) (travel dt : Nat) (trim : Int) (s c : Nat), (∀ e ∈ curve, e ≤ 127) → curve.length = 25 →
    curve.Pairwise (· ≤ ·) → 2000 ≤ travel → travel ≤ 16000 → 1 ≤ dt → dt ≤ 120000 → -16 ≤ trim → trim ≤ 15 →
    s ≤ 255 → c ≤ 24 →
    let cut := s * c / 255
    let sum := (curveLevel curve (keySpeed travel dt) : Int) + trim - (cut : Int)
    cut ≤ c ∧ (s = 255 → cut = c) ∧ (s = 0 → cut = 0) ∧ -40 ≤ sum ∧ sum ≤ 142 ∧
    (sum < 1 → strikeLevel curve travel dt trim s c = 1) ∧ (127 < sum → strikeLevel curve travel dt trim s c = 127) ∧
    (1 ≤ sum → sum ≤ 127 → (strikeLevel curve travel dt trim s c : Int) = sum) ∧
    1 ≤ strikeLevel curve travel dt trim s c ∧ strikeLevel curve travel dt trim s c ≤ 127

/-- R39: CURVE_LOAD is refused at the lowest index whose entry is above 127 or below the entry before it, the curve as it was; a table equal to the curve is ALREADY, and any other takes the place of the curve whole. A name that is no curve is refused with index 0, and a body without 25 entries is answered BAD_LENGTH (R212). Every reply carries the name of a known curve.
That the index comes before the name in the reply, in two bytes, and is absent where no entry fails, is the model's reading (log 17), and that a BAD_LENGTH reply takes the name from its body is the model's choice (log 18). -/
def Obligations.CurveLoadChecksItsTable : Prop :=
  ∀ (tag : Byte) (name : Nat) (es : List Nat) (s : State), s.Serving →
    let c := s.ctl.closeWindow
    let replies := Replies (.curveLoad tag name es) 0x94#8 tag s
    let fails := fun (i : Nat) => 127 < es.getD i 0 ∨ ∃ j, i = j + 1 ∧ es.getD i 0 < es.getD j 0
    (es.length ≠ 25 → replies c .badLength (absent 2 ++ (if name ≤ 1 then codeByte name else absent 1))) ∧
    (es.length = 25 → 1 < name → replies c .badValue (bytesLE 2 0 ++ absent 1)) ∧
    (∀ i, es.length = 25 → name ≤ 1 → i < 25 → fails i → (∀ j, j < i → ¬ fails j) →
      replies c .badValue (bytesLE 2 i ++ codeByte name)) ∧
    (∀ cv : Curve, es.length = 25 → cv.code = name → (∀ i, i < 25 → ¬ fails i) →
      (es = c.curve cv → replies c .already (absent 2 ++ codeByte name)) ∧
      (es ≠ c.curve cv → ∃ c', replies c' .ok (absent 2 ++ codeByte name) ∧ Controller.Frame [.curves] c c' ∧
        c'.curve cv = es ∧ ∀ other, other ≠ cv → c'.curve other = c.curve other))

/-! ### Trim -/

/-- R43, R51, R52, R53, R57: TRIM_SET gives the interval and the pull-in setting and starts the rounds afresh where the interval changed; CAL_FULL sends a group, or every group with ALL, to the reference FIFO unless it is served already, and a group that finds the FIFO empty and the conditions of the grant met is granted the reference at once. A refused request, and one that has nothing to do, changes nothing.
The list of CAL_FULL as its count and then its groups, two bytes each, is the model's reading (log 17).
That a set flag is sent as 1 is the model's choice (log 36). -/
def Obligations.TrimRequests : Prop :=
  ∀ (tag : Byte) (s : State), s.Serving → s.ctl.Sized →
    let c := s.ctl.closeWindow
    let fields := fun (c : Controller) => bytesLE 2 c.trim.interval ++ flagByte c.trim.pullIn
    let listed := fun (gs : List Nat) (c : Controller) =>
      codeByte gs.length ++ gs.flatMap (bytesLE 2) ++ codeByte c.trim.fifo.length
    let grantable := c.trim.cal = none ∧ c.rail.state ≠ .engaging ∧ c.rail.state ≠ .disengaging ∧ c.rail.state ≠ .settling
    (∀ i p,
      let same := i = c.trim.interval ∧ (p != 0) = c.trim.pullIn
      let replies := Replies (.trimSet tag i p) 0x98#8 tag s
      (i < 1 ∨ 60 < i → replies c .badValue (fields c)) ∧
      (1 ≤ i → i ≤ 60 → same → replies c .already (fields c)) ∧
      (1 ≤ i → i ≤ 60 → ¬ same → ∃ c', replies c' .ok (fields c') ∧ Controller.Frame [.trim] c c' ∧
        c'.trim.interval = i ∧ c'.trim.pullIn = (p != 0) ∧ c'.trim.fifo = c.trim.fifo ∧ c'.trim.cal = c.trim.cal ∧
        ∀ g, g < 11 →
          c'.roundTimer g =
            (if i = c.trim.interval then c.roundTimer g
             else some (after c.now (i * 1000000 + g * (i * 1000000) / 11))) ∧
          (c'.trimUnit g).passedOver = (c.trimUnit g).passedOver)) ∧
    (∀ g,
      let replies := Replies (.calFull tag g) 0x99#8 tag s
      (10 < g → g ≠ 255 → replies c .badValue (listed [] c)) ∧
      (g ≤ 10 → c.served g = true → replies c .already (listed [] c)) ∧
      (g ≤ 10 → c.served g = false → ∃ c', replies c' .accepted (listed [g] c') ∧ Controller.Frame [.trim, .link] c c' ∧
        (¬ grantable → c'.trim.fifo = c.trim.fifo ++ [g] ∧ c'.trim.cal = c.trim.cal) ∧
        (grantable → c.trim.fifo = [] → c'.trim.fifo = [] ∧ ∃ cal, c'.trim.cal = some cal ∧ cal.group = g ∧
          cal.start = c.now ∧
          cal.exams.map Exam.key =
            (groupKeys g).filter (fun k => decide ((c.key k).state ≠ .fault ∧ (c.key k).state ≠ .muted))))) ∧
    (let gs := (List.range 11).filter fun g => !c.served g
     ∃ c', Replies (.calFull tag 255) 0x99#8 tag s c' (if gs = [] then .already else .accepted) (listed gs c') ∧
      Controller.Frame [.trim, .link] c c' ∧ (gs = [] → c' = c) ∧ (∀ g, g < 11 → c'.served g = true) ∧
      (¬ grantable → c'.trim.fifo = c.trim.fifo ++ gs ∧ c'.trim.cal = c.trim.cal))

/-- R43, R44: a round expiry: the next deadline of the group falls one interval after this one; each of its keys in a positional state gains debt, up to +8, and one at +8 is marked stale with a report; the passed-over set is cleared; and a group that holds a key in UNCAL is served. Other keys and other groups' rounds are as they were. The unit of the group, where it was idle and nothing suspends it, then chooses (R45, R46): the lowest-numbered resting key that is due, else, with pull-in enabled and the group quiet, the resting key of the lowest debt above −8, the lowest-numbered of equals, else none. -/
def Obligations.RoundExpiryCountsItsGroup : Prop :=
  ∀ (g : Nat) (d : Time) (s : State), s.Running → s.ctl.Sized → g < 11 → s.ctl.clock.suspended = false →
    s.ctl.roundTimer g = some d → (s.ctl.now - d).toNat < 2147483648 →
    ∃ c, Leaves (.roundExpiry g) s c ∧ Controller.Frame [.keys, .trim, .link] s.ctl c ∧
      c.roundTimer g = some (after d (s.ctl.trim.interval * 1000000)) ∧
      (∀ h, h < 11 → h ≠ g → c.roundTimer h = s.ctl.roundTimer h ∧
        (c.trimUnit h).passedOver = (s.ctl.trimUnit h).passedOver) ∧
      (c.trimUnit g).passedOver = [] ∧ c.trim.interval = s.ctl.trim.interval ∧ c.trim.pullIn = s.ctl.trim.pullIn ∧
      (∀ k, 1 ≤ k → k ≤ 88 →
        let r := s.ctl.key k
        c.key k =
          (if (k - 1) / 8 ≠ g ∨ r.state ∈ [KeyState.uncal, .fault, .muted] then r
           else if r.debt < 8 then { r with debt := r.debt + 1 }
           else { r with stale := true })) ∧
      (∀ k, 1 ≤ k → k ≤ 88 → (k - 1) / 8 = g →
        let r := s.ctl.key k
        (r.state = .uncal → c.served g = true) ∧
        (r.state ∉ [KeyState.uncal, .fault, .muted] → 8 ≤ r.debt → r.stale = false →
          s.ctl.link.mask.getLsbD 2 = true → s.ctl.link.queue.length < 50 →
          { time := s.ctl.now, report := .stale k } ∈ c.link.queue)) ∧
      ((∀ k ∈ groupKeys g, (s.ctl.key k).state ≠ .uncal) → c.trim.fifo = s.ctl.trim.fifo ∧ c.trim.cal = s.ctl.trim.cal) ∧
      ((s.ctl.trimUnit g).phase = .idle → s.ctl.rail.motor = .off → s.ctl.link.state = .active → c.calibrating g = false →
        let resting := fun (k : Nat) => k ∈ groupKeys g ∧ (c.key k).state = .rest
        let due := fun (k : Nat) => resting k ∧ 0 < (c.key k).debt
        let open' := s.ctl.trim.pullIn = true ∧
          ∀ k ∈ groupKeys g, (c.key k).state ∈ [KeyState.rest, .uncal, .fault, .muted]
        let early := fun (k : Nat) => resting k ∧ -8 < (c.key k).debt
        let chosen := fun (k : Nat) => (c.trimUnit g).phase = .trimming k Readings.none 0
        (∀ k, due k → (∀ j, due j → k ≤ j) → chosen k) ∧
        ((∀ k, ¬ due k) → open' → ∀ k, early k →
          (∀ j, early j → (c.key k).debt < (c.key j).debt ∨ ((c.key k).debt = (c.key j).debt ∧ k ≤ j)) → chosen k) ∧
        ((∀ k, ¬ due k) → ¬ (open' ∧ ∃ k, early k) → (c.trimUnit g).phase = .idle))

/-- R45, R47 to R49: the readings of a short trim. One is taken at every sixth sample of its resting key, the first included. The sixteenth reading of a short trim of a resting key judges it. A spread above 12 or a reading outside 16..4079 rejects it: rest_raw, debt and stale stay and the key is passed over. Otherwise rest_raw moves to the mean, by at most 64, the debt falls by 1 down to −8, and a stale mark is cleared with a report. The key stays in REST. A trim whose key leaves REST is abandoned, and so is every trim of a unit that a motion, a calibration of its group or standby suspends; rest_raw, debt, stale and the passed-over set are as they were. -/
def Obligations.SixteenthReadingJudgesTheTrim : Prop :=
  (∀ (k raw n : Nat) (x : Readings) (s : State), s.Serving → s.ctl.Sized → 1 ≤ k → k ≤ 88 → raw < 4096 →
    (s.ctl.trimUnit ((k - 1) / 8)).phase = .trimming k x n → (s.ctl.key k).state = .rest →
    s.ctl.calibrating ((k - 1) / 8) = false → s.ctl.rail.motor = .off → s.ctl.rail.state ≠ .waitQuiet →
    let r := s.ctl.key k
    let u := s.ctl.trimUnit ((k - 1) / 8)
    let kept := fun (c : Controller) =>
      (c.key k).restRaw = r.restRaw ∧ (c.key k).debt = r.debt ∧ (c.key k).stale = r.stale ∧
      (c.trimUnit ((k - 1) / 8)).passedOver = u.passedOver
    ∃ c, Leaves (.keySample k raw) s c ∧
      (r.depth raw < s.ctl.thresholds.rest → 0 < n →
        kept c ∧ (c.trimUnit ((k - 1) / 8)).phase = .trimming k x (n - 1)) ∧
      (r.depth raw < s.ctl.thresholds.rest → n = 0 → x.count ≠ 15 →
        kept c ∧ (c.trimUnit ((k - 1) / 8)).phase = .trimming k
          { count := x.count + 1, sum := x.sum + raw, least := min x.least raw, greatest := max x.greatest raw
            outSeen := x.outSeen || decide (raw < 16 ∨ 4079 < raw) } 5) ∧
      (s.ctl.thresholds.rest ≤ r.depth raw →
        kept c ∧ ∀ x' n', (c.trimUnit ((k - 1) / 8)).phase ≠ .trimming k x' n')) ∧
  (∀ (c : Controller) (g : Nat), g < 11 → c.rail.motor ≠ .off ∨ c.calibrating g = true ∨ c.link.state ≠ .active →
    c.trimSync.trimUnit g = { phase := .suspended, passedOver := (c.trimUnit g).passedOver }) ∧
  ∀ (k raw : Nat) (x : Readings) (s : State), s.Serving → s.ctl.Sized → 1 ≤ k → k ≤ 88 → raw < 4096 →
    (s.ctl.trimUnit ((k - 1) / 8)).phase = .trimming k x 0 → x.count = 15 → (s.ctl.key k).state = .rest →
    (s.ctl.key k).depth raw < s.ctl.thresholds.rest →
    let r := s.ctl.key k
    let rest := r.restRaw.getD r.nominal
    let mean := (x.sum + raw + 8) / 16
    let rejected := 12 < max x.greatest raw - min x.least raw ∨ x.outSeen = true ∨ raw < 16 ∨ 4079 < raw
    ∃ c, Leaves (.keySample k raw) s c ∧ Controller.Frame [.keys, .trim, .rail, .link] s.ctl c ∧
      (c.key k).state = .rest ∧
      (rejected → (c.key k).restRaw = r.restRaw ∧ (c.key k).debt = r.debt ∧ (c.key k).stale = r.stale ∧
        (c.trimUnit ((k - 1) / 8)).passedOver = joinKey k (s.ctl.trimUnit ((k - 1) / 8)).passedOver) ∧
      (¬ rejected →
        (c.key k).restRaw = some (if rest + 64 < mean then rest + 64 else if mean + 64 < rest then rest - 64 else mean) ∧
        (c.key k).debt = (if r.debt ≤ -8 then r.debt else r.debt - 1) ∧ (c.key k).stale = false ∧
        (c.trimUnit ((k - 1) / 8)).passedOver = (s.ctl.trimUnit ((k - 1) / 8)).passedOver ∧
        (r.stale = true → s.ctl.link.mask.getLsbD 2 = true → s.ctl.link.queue.length < 64 →
          { time := s.ctl.now, report := .trimRecovered k false } ∈ c.link.queue))

/-- R54 to R56, R88, R163: the completion of a FULL calibration: an examined key whose 256 readings have a spread of at most 12, none outside 16..4079, a mean within 160 of its nominal reading, and which stayed in REST if it was positional at the grant, takes the mean with debt 0 and no stale mark, and leaves UNCAL by re-evaluation; every other key is as it was, but for one whose calibration a KEY_PARAM took away, which enters UNCAL, its DAMPER_DOWN handed to its LIVE voices and to a recording in progress (R16, R24). A rail that waits then starts where no group is granted and the keyboard is quiet. CAL_DONE lists the rejected keys, and a group marked to rejoin is served. Until then every sample of an examined key that falls due, reading n from 3,000 + 1,160 n µs after the grant, is read with the state of the key after its comparison.
A key with fewer than 256 readings is rejected by the model's choice, as is the sample of a reading (log 13), and that a key keeps its rest_raw as it enters UNCAL is the model's reading (log 27). -/
def Obligations.CalibrationCompletes : Prop :=
  (∀ (k raw : Nat) (cal : Calibration) (s : State), s.Serving → s.ctl.Sized → 1 ≤ k → k ≤ 88 → raw < 4096 →
    s.ctl.trim.cal = some cal →
    ∃ c, Leaves (.keySample k raw) s c ∧ c.trim.cal = some { cal with
      exams := cal.exams.map fun e =>
        let x := e.readings
        if e.key = k ∧ x.count < 256 ∧ 3000 + 1160 * x.count ≤ (s.ctl.now - cal.start).toNat then
          { e with
            readings :=
              { count := x.count + 1, sum := x.sum + raw, least := min x.least raw, greatest := max x.greatest raw
                outSeen := x.outSeen || decide (raw < 16 ∨ 4079 < raw) }
            allRest := e.allRest && decide ((c.key k).state = .rest) }
        else e }) ∧
  ∀ (cal : Calibration) (s : State), s.Running → s.ctl.Sized → s.ctl.trim.FifoOk → s.ctl.trim.cal = some cal →
    s.ctl.clock.suspended = false → 300000 ≤ (s.ctl.now - cal.start).toNat →
    let mean := fun (e : Exam) => (e.readings.sum + 128) / 256
    let accepts := fun (e : Exam) =>
      let n := (s.ctl.key e.key).nominal
      256 ≤ e.readings.count ∧ e.readings.outSeen = false ∧ e.readings.greatest - e.readings.least ≤ 12 ∧
        n ≤ mean e + 160 ∧ mean e ≤ n + 160 ∧ (e.positional = true → e.allRest = true)
    ∃ c, Leaves .calComplete s c ∧
      Controller.Frame [.keys, .trim, .rail, .pool, .takes, .recorder, .link] s.ctl c ∧
      (∀ e ∈ cal.exams, accepts e →
        let r := s.ctl.key e.key
        (c.key e.key).restRaw = some (mean e) ∧ (c.key e.key).debt = 0 ∧ (c.key e.key).stale = false ∧
        (r.calLost = false → (c.key e.key).state =
          (if r.state ≠ .uncal then r.state
           else if r.muted then .muted
           else if r.latestDepth < s.ctl.thresholds.rest then .rest
           else .shallow)) ∧
        (r.calLost = false → r.state = .uncal → (c.key e.key).holdOff = ((c.key e.key).state == .shallow))) ∧
      (∀ k, 1 ≤ k → k ≤ 88 → (∀ e ∈ cal.exams, e.key = k → ¬ accepts e) →
        (c.key k).restRaw = (s.ctl.key k).restRaw ∧ (c.key k).debt = (s.ctl.key k).debt ∧
        (c.key k).stale = (s.ctl.key k).stale ∧
        ((s.ctl.key k).calLost = false ∨ (k - 1) / 8 ≠ cal.group → c.key k = s.ctl.key k)) ∧
      (∀ k ∈ groupKeys cal.group, (s.ctl.key k).calLost = true →
        (c.key k).calLost = false ∧ (c.key k).state = if (s.ctl.key k).state = .fault then .fault else .uncal) ∧
      (let falls := (groupKeys cal.group).filter fun k =>
         decide ((s.ctl.key k).calLost = true ∧ (s.ctl.key k).state ∈ [KeyState.held, .armed, .struck])
       (∀ i n, c.voice i = some n → n.fading = false → n.source = .live → n.key ∈ falls →
         (n.rateClass, n.rate) = c.rateFor .live n.key) ∧
       (∀ j run, s.ctl.recorder.job = some j → j.run = some run → (s.ctl.records j.target).length + falls.length ≤ 16384 →
         c.records j.target = s.ctl.records j.target ++
           falls.map fun k => { time := s.ctl.recTime j, kind := .damperDown, subject := k, value := 0 }) ∧
       (falls = [] → c.pool = s.ctl.pool ∧ c.takes = s.ctl.takes ∧ c.recorder = s.ctl.recorder)) ∧
      (∀ t, s.ctl.rail.state = .waitQuiet → s.ctl.rail.target = some t → s.ctl.link.state = .active →
        (∀ x ∈ c.keys, x.state ∉ [KeyState.shallow, .held, .armed, .struck]) → c.trim.cal = none →
        c.rail.target = some t ∧ c.rail.state = (if (s.ctl.rail.switch t).closed then .settling else t.motion)) ∧
      (cal.rejoin = false → s.ctl.trim.fifo = [] → c.trim.cal = none ∧ c.trim.fifo = []) ∧
      (cal.rejoin = true → c.served cal.group = true) ∧
      (∀ rejected : List Nat, (∀ k, k ∈ rejected ↔ ∃ e ∈ cal.exams, e.key = k ∧ ¬ accepts e) → rejected.Pairwise (· < ·) →
        s.ctl.link.mask.getLsbD 2 = true → s.ctl.link.queue.length < 32 →
        { time := s.ctl.now, report := .calDone cal.group rejected } ∈ c.link.queue)


/-! ### Pedals -/

/-- R64 to R66, R68, R70, R73, R75, R121, R164: what a sample of a pedal does: the timers, the value at an in-range reading while the pedal is not in fault, the sostenuto comparison at pedal 1, with the report of a disengagement and the rates of the LIVE voices on the keys let go, the rates of the LIVE voices at pedal 0, the PEDAL record of a recording in progress, and the value report. The other pedals keep their records.
That an out-of-range sample of pedal 1 starts no hold timer, whatever value the pedal holds, is the model's choice (log 32). -/
def Obligations.PedalSampleTakesItsValue : Prop :=
  ∀ (p raw : Nat) (s : State), s.Serving → s.ctl.Sized → p < 3 → raw < 4096 →
    let r := s.ctl.pedal p
    let inRange := 16 ≤ raw ∧ raw ≤ 4079
    let v := if r.fault = false ∧ inRange then
        (if raw < r.restRaw then 0 else min 255 ((raw - r.restRaw) * 255 / (r.fullRaw - r.restRaw)))
      else r.value
    let passes := fun (earlier : Nat) => earlier + 4 ≤ v ∨ v + 4 ≤ earlier ∨ ((v = 0 ∨ v = 255) ∧ v ≠ earlier)
    ∃ c, Leaves (.pedalSample p raw) s c ∧ Controller.Frame [.pedals, .pool, .takes, .recorder, .link] s.ctl c ∧
      c.pedal p =
        { r with
          latest := some (s.ctl.now, raw), value := v
          lastReported := if v ≠ r.value ∧ passes r.lastReported then v else r.lastReported
          faultTimer := if r.fault then r.faultTimer
            else if inRange then none else some (r.faultTimer.getD (s.ctl.now + 50000#32))
          recovery := if r.fault = false then r.recovery
            else if inRange then some (r.recovery.getD (s.ctl.now + 500000#32)) else none } ∧
      (∀ q, q < 3 → q ≠ p → c.pedal q = s.ctl.pedal q) ∧ c.pedals.softCut = s.ctl.pedals.softCut ∧
      (c.pedals.engaged, c.pedals.hold, c.pedals.sostenuto) =
        (let u := s.ctl.pedals
         if p ≠ 1 ∨ r.fault = true ∨ ¬ inRange then (u.engaged, u.hold, u.sostenuto)
         else if u.engaged then (if v < 96 then (false, u.hold, []) else (true, u.hold, u.sostenuto))
         else if 128 ≤ v then (false, some (u.hold.getD (s.ctl.now + 15000#32)), u.sostenuto)
         else (false, none, u.sostenuto)) ∧
      (p = 1 → r.fault = false → inRange → s.ctl.pedals.engaged = true → v < 96 →
        let keys := s.ctl.pedals.sostenuto
        (∀ i n, c.voice i = some n → n.fading = false → n.source = .live → n.key ∈ keys →
          (n.rateClass, n.rate) = c.rateFor .live n.key) ∧
        (s.ctl.link.mask.getLsbD 1 = true → s.ctl.link.queue.length < 60 →
          { time := s.ctl.now, report := .sostenutoOff keys.length } ∈ c.link.queue)) ∧
      (p ≠ 0 → ¬ (p = 1 ∧ r.fault = false ∧ inRange ∧ s.ctl.pedals.engaged = true ∧ v < 96) → c.pool = s.ctl.pool) ∧
      (v = r.value → p ≠ 1 → c.pool = s.ctl.pool ∧ c.takes = s.ctl.takes ∧ c.recorder = s.ctl.recorder ∧
        c.link = s.ctl.link) ∧
      (v ≠ r.value → p = 0 → ∀ i n, c.voice i = some n → n.fading = false → n.source = .live →
        (n.rateClass, n.rate) = c.rateFor .live n.key) ∧
      (v ≠ r.value → ∀ j run, s.ctl.recorder.job = some j → j.run = some run → passes (run.lastOf p) →
        c.records j.target = s.ctl.records j.target ++
          [{ time := s.ctl.recTime j, kind := .pedal, subject := p, value := v }]) ∧
      (v ≠ r.value → passes r.lastReported → s.ctl.link.mask.getLsbD 1 = true → s.ctl.link.queue.length < 60 →
        { time := s.ctl.now, report := .pedalValue p v } ∈ c.link.queue)

/-- R65 to R67, R70, R71, R73, R121, R164: the expiries of the Pedal Unit's timers: a pedal in fault holds the value 0, its fall to 0 handed to the LIVE voices at pedal 0 and to a recording in progress, and an engaged sostenuto disengages with pedal 1, with its report and the rates of the LIVE voices on the keys let go; the end of a fault; and the engaging of the sostenuto over the keys whose dampers are up. -/
def Obligations.PedalTimers : Prop :=
  ∀ (s : State), s.Running → s.ctl.Sized → s.ctl.clock.suspended = false →
    let due := fun (d : Time) => (s.ctl.now - d).toNat < 2147483648
    (∀ p d, p < 3 → (s.ctl.pedal p).fault = false → (s.ctl.pedal p).faultTimer = some d → due d →
      ∃ c, Leaves (.pedalFault p) s c ∧ Controller.Frame [.pedals, .pool, .takes, .recorder, .link] s.ctl c ∧
        c.pedal p =
          { s.ctl.pedal p with fault := true, faultTimer := none, recovery := none, value := 0, lastReported := 0 } ∧
        (∀ q, q < 3 → q ≠ p → c.pedal q = s.ctl.pedal q) ∧
        (p = 1 → c.pedals.engaged = false ∧ (s.ctl.pedals.engaged = true → c.pedals.sostenuto = []) ∧
          (s.ctl.pedals.engaged = false → c.pedals.hold = none)) ∧
        (p ≠ 1 → c.pedals.engaged = s.ctl.pedals.engaged ∧ c.pedals.hold = s.ctl.pedals.hold ∧
          c.pedals.sostenuto = s.ctl.pedals.sostenuto) ∧
        (p = 1 → s.ctl.pedals.engaged = true →
          let keys := s.ctl.pedals.sostenuto
          (∀ i n, c.voice i = some n → n.fading = false → n.source = .live → n.key ∈ keys →
            (n.rateClass, n.rate) = c.rateFor .live n.key) ∧
          (s.ctl.link.mask.getLsbD 1 = true → s.ctl.link.queue.length < 60 →
            { time := s.ctl.now, report := .sostenutoOff keys.length } ∈ c.link.queue)) ∧
        (p = 0 → (s.ctl.pedal p).value ≠ 0 → ∀ i n, c.voice i = some n → n.fading = false → n.source = .live →
          (n.rateClass, n.rate) = c.rateFor .live n.key) ∧
        (∀ j run, (s.ctl.pedal p).value ≠ 0 → s.ctl.recorder.job = some j → j.run = some run → run.lastOf p ≠ 0 →
          c.records j.target = s.ctl.records j.target ++
            [{ time := s.ctl.recTime j, kind := .pedal, subject := p, value := 0 }]) ∧
        ((s.ctl.pedal p).value = 0 → c.takes = s.ctl.takes ∧ c.recorder = s.ctl.recorder) ∧
        (s.ctl.link.mask.getLsbD 1 = true → s.ctl.link.queue.length < 60 →
          ∃ raw, { time := s.ctl.now, report := .pedalFault p raw } ∈ c.link.queue ∧
            ∀ t x, (s.ctl.pedal p).latest = some (t, x) → raw = x)) ∧
    (∀ p d, p < 3 → (s.ctl.pedal p).fault = true → (s.ctl.pedal p).recovery = some d → due d →
      Leaves (.pedalClear p) s
        ((s.ctl.setPedal p { s.ctl.pedal p with fault := false, recovery := none }).report (.pedalClear p))) ∧
    (∀ d, s.ctl.pedals.hold = some d → due d →
      ∃ c keys, Leaves .sostenutoOn s c ∧ Controller.Frame [.pedals, .pool, .link] s.ctl c ∧
        c.pedals = { s.ctl.pedals with engaged := true, hold := none, sostenuto := keys } ∧
        (∀ k, k ∈ keys ↔ 1 ≤ k ∧ k ≤ 88 ∧ (s.ctl.key k).state ∈ [KeyState.held, .armed, .struck]) ∧
        keys.Pairwise (· < ·) ∧
        (∀ i n, c.voice i = some n → n.fading = false → n.source = .live → n.key ∈ keys →
          (n.rateClass, n.rate) = c.rateFor .live n.key) ∧
        (s.ctl.link.mask.getLsbD 1 = true → s.ctl.link.queue.length < 64 →
          { time := s.ctl.now, report := .sostenutoOn keys.length } ∈ c.link.queue))

/-! ### The rail -/

/-- R85 to R88, R93, R96, R97, R102: RAIL_SET by the state of the rail, and RAIL_RECOVER. A rail that waits moves at once where the keyboard is quiet and no calibration is in progress, and then toward a closed switch it settles without the motor. Each entry to a state is reported by RAIL_STATE, and a wait or a pending target that is cancelled by RAIL_CANCELLED (R102). -/
def Obligations.RailRequests : Prop :=
  ∀ (tag : Byte) (s : State), s.Serving →
    let c := s.ctl.closeWindow
    let now := c.now
    let rl := c.rail
    let fields := fun (r : Rail) =>
      codeByte r.state.code ++ optLE 1 (r.target.map Stop.code) ++ optLE 1 (r.pendingTarget.map Stop.code)
    let quiet := ∀ r ∈ c.keys, r.state ∉ [KeyState.shallow, .held, .armed, .struck]
    let none' : Option Time := none
    let reported := fun (c' : Controller) (r : Report) => c.link.mask.getLsbD 3 = true → c.link.queue.length < 60 →
      { time := now, report := r } ∈ c'.link.queue
    let waits := fun (t : Stop) (origin : RailOrigin) (recovery : Bool) (c' : Controller) =>
      let r := c'.rail
      reported c' (.railState .waitQuiet (some t) none false rl.lastStop recovery) ∧
      (quiet → c.trim.cal = none → reported c' (.railState r.state (some t) none false rl.lastStop recovery)) ∧
      r.target = some t ∧ r.recovery = recovery ∧ r.pendingTarget = none ∧ r.cause = none ∧
      r.lastStop = rl.lastStop ∧ r.overLimit = rl.overLimit ∧ r.clearSwitch = rl.clearSwitch ∧
      r.engagedSwitch = rl.engagedSwitch ∧
      (¬ (quiet ∧ c.trim.cal = none) → r.state = .waitQuiet ∧ r.origin = some origin ∧ r.motor = .off ∧
        (r.quietTimer, r.travelTimer, r.stallTimer, r.settleTimer) = (some (now + 5000000#32), none', none', none')) ∧
      (quiet → c.trim.cal = none → (rl.switch t).closed = true → r.state = .settling ∧ r.origin = none ∧
        r.motor = .off ∧ (r.quietTimer, r.travelTimer, r.stallTimer, r.settleTimer) = (none', none', none', some (now + 100000#32))) ∧
      (quiet → c.trim.cal = none → (rl.switch t).closed = false → r.state = t.motion ∧ r.origin = none ∧
        r.motor = t.motor ∧ (r.quietTimer, r.travelTimer, r.stallTimer, r.settleTimer) =
          (none', some (now + 1500000#32), if rl.overLimit then some (now + 200000#32) else none, none'))
    let moving := rl.state = .engaging ∨ rl.state = .disengaging ∨ rl.state = .settling
    let failed := rl.state = .fault ∨ rl.state = .unplaced
    (∀ n, 1 < n → Replies (.railSet tag n) 0x9C#8 tag s c .badValue (fields rl)) ∧
    (∀ t : Stop,
      let replies := fun (c' : Controller) (code : ResultCode) =>
        Replies (.railSet tag t.code) 0x9C#8 tag s c' code (fields c'.rail)
      (failed → replies c .badState) ∧ (rl.state = t.railState → replies c .already) ∧
      (rl.state = t.other.railState → ∃ c', replies c' .accepted ∧ Controller.Frame [.rail, .trim, .link] c c' ∧
        waits t { state := rl.state, cause := none } false c') ∧
      (rl.state = .waitQuiet → rl.target = some t → replies c .already) ∧
      (rl.state = .waitQuiet → rl.target ≠ some t → rl.recovery = true → replies c .badState) ∧
      (∀ o, rl.state = .waitQuiet → rl.target ≠ some t → rl.recovery = false → rl.origin = some o →
        let cancelled : Rail :=
          { rl with
            state := o.state, cause := o.cause, target := none, origin := none, pendingTarget := none
            quietTimer := none, travelTimer := none, stallTimer := none, settleTimer := none, motor := .off }
        replies ((c.setRail cancelled).report (.railCancelled o.state rl.target)) .ok) ∧
      (moving → rl.target = some t → rl.pendingTarget = none → replies c .already) ∧
      (∀ p, moving → rl.target = some t → rl.pendingTarget = some p →
        replies ((c.setRail { rl with pendingTarget := none }).report (.railCancelled rl.state (some p))) .ok) ∧
      (moving → rl.target ≠ some t → rl.pendingTarget = none →
        replies (c.setRail { rl with pendingTarget := some t }) .accepted) ∧
      (moving → rl.target ≠ some t → rl.pendingTarget ≠ none → replies c .already)) ∧
    (¬ failed → Replies (.railRecover tag) 0x9D#8 tag s c .badState (codeByte rl.state.code)) ∧
    (failed → ∃ c', Replies (.railRecover tag) 0x9D#8 tag s c' .accepted (codeByte c'.rail.state.code) ∧
      Controller.Frame [.rail, .trim, .link] c c' ∧
      (rl.clearSwitch.closed = true → rl.engagedSwitch.closed = false → c.trim.cal = none →
        c'.rail.state = .settling ∧ c'.rail.target = some .clear ∧ c'.rail.recovery = true ∧ c'.rail.motor = .off ∧
        c'.rail.cause = none ∧ c'.rail.settleTimer = some (now + 100000#32) ∧
        reported c' (.railState .settling (some .clear) none false rl.lastStop true)) ∧
      (¬ (rl.clearSwitch.closed = true ∧ rl.engagedSwitch.closed = false ∧ c.trim.cal = none) →
        waits .clear { state := rl.state, cause := rl.cause } true c'))

/-- R88, R89, R91, R92, R93, R96, R102: the expiries of the rail's timers: a wait is abandoned to its origin; a motion that runs out of time or stalls leaves FAULT with its cause; and a settle places the rail at its target, or leaves FAULT where the other switch is closed too. A fault and a placing try the grant of the reference (R53), and a pending target is then waited for, or moved to at once where R88 allows it. Each state entered is reported (R102). -/
def Obligations.RailTimers : Prop :=
  ∀ (s : State), s.Running → s.ctl.clock.suspended = false →
    let rl := s.ctl.rail
    let due := fun (t : Option Time) => ∃ d, t = some d ∧ (s.ctl.now - d).toNat < 2147483648
    let still : Rail :=
      { rl with
        target := none, origin := none, recovery := false, pendingTarget := none
        quietTimer := none, travelTimer := none, stallTimer := none, settleTimer := none, motor := .off }
    let granted := fun (c : Controller) => ∀ g gs, s.ctl.trim.fifo = g :: gs → s.ctl.trim.cal = none →
      s.ctl.link.state = .active → c.trim.fifo = gs ∧ c.calibrating g = true
    let faults := fun (i : Instr) (cause : RailCause) (last : LastStop) =>
      ∃ c, Leaves i s c ∧ Controller.Frame [.rail, .trim, .link] s.ctl c ∧
        c.rail = { still with state := .fault, cause := some cause, lastStop := last } ∧ granted c ∧
        (s.ctl.link.mask.getLsbD 3 = true → s.ctl.link.queue.length < 64 →
          { time := s.ctl.now, report := .railState .fault none (some cause) rl.pendingTarget.isSome last false }
            ∈ c.link.queue)
    (∀ o, rl.state = .waitQuiet → rl.origin = some o → due rl.quietTimer →
      Leaves .railAbandoned s ((s.ctl.setRail { still with state := o.state, cause := o.cause }).report
        (.railAbandoned rl.target o.state o.cause))) ∧
    (rl.motor ≠ .off → due rl.travelTimer → faults .travelTimeout .travelTimeout rl.lastStop) ∧
    (rl.motor ≠ .off → due rl.stallTimer → faults .stall .stall rl.lastStop) ∧
    (∀ t, rl.state = .settling → rl.target = some t → due rl.settleTimer → (rl.switch t.other).closed = true →
      faults .settleExpiry .switchConflict .none) ∧
    (∀ t, rl.state = .settling → rl.target = some t → due rl.settleTimer → (rl.switch t.other).closed = false →
      ∃ c, Leaves .settleExpiry s c ∧ Controller.Frame [.rail, .trim, .link] s.ctl c ∧ granted c ∧
        c.rail.lastStop = t.lastStop ∧ c.rail.clearSwitch = rl.clearSwitch ∧ c.rail.engagedSwitch = rl.engagedSwitch ∧
        (rl.pendingTarget = none → c.rail = { still with state := t.railState, cause := none, lastStop := t.lastStop }) ∧
        (∀ p, rl.pendingTarget = some p → c.rail.target = some p ∧ c.rail.pendingTarget = none ∧
          (c.trim.cal ≠ none → c.rail.state = .waitQuiet ∧ c.rail.quietTimer = some (s.ctl.now + 5000000#32) ∧
            c.rail.origin = some { state := t.railState, cause := none }) ∧
          (c.trim.cal = none → s.ctl.link.state = .active → (∀ r ∈ s.ctl.keys, r.state ∉ [KeyState.shallow, .held, .armed, .struck]) →
            c.rail.origin = none ∧ c.rail.state = (if (rl.switch p).closed then .settling else p.motion) ∧
            (s.ctl.link.mask.getLsbD 3 = true → s.ctl.link.queue.length < 60 →
              { time := s.ctl.now, report := .railState c.rail.state (some p) none false t.lastStop false } ∈ c.link.queue)) ∧
          (s.ctl.link.mask.getLsbD 3 = true → s.ctl.link.queue.length < 60 →
            { time := s.ctl.now, report := .railState .waitQuiet (some p) none false t.lastStop false } ∈ c.link.queue)) ∧
        (s.ctl.link.mask.getLsbD 3 = true → s.ctl.link.queue.length < 64 →
          { time := s.ctl.now, report := .railState t.railState none none false t.lastStop false } ∈ c.link.queue))

/-- R81, R90, R92, R94 to R96, R102: a switch that completes its debounce changes its debounced state: closing where the other is closed is SWITCH_CONFLICT; closing at the end of a motion begins the settle; opening where the rail stands is LOST_POSITION; any other change is of the switch alone. The settle and the fault are reported (R102). The over-limit indication runs the stall timer while the motor runs. -/
def Obligations.SwitchesAndOverLimit : Prop :=
  (∀ (sw : Stop) (s : State), s.Running → (s.ctl.rail.switch sw).run = 96 →
    let old := s.ctl.rail
    let rl := old.setSwitch sw { old.switch sw with closed := !(old.switch sw).closed, run := 0 }
    let closes := (old.switch sw).closed = false
    let endsMotion := (old.state = .engaging ∧ sw = .engaged) ∨ (old.state = .disengaging ∧ sw = .clear)
    let standsAt := old.state = sw.railState ∨ (old.state = .settling ∧ old.target = some sw) ∨
      (old.state = .waitQuiet ∧ ∃ o, old.origin = some o ∧ o.state = sw.railState)
    let still : Rail :=
      { rl with
        target := none, origin := none, recovery := false, pendingTarget := none
        quietTimer := none, travelTimer := none, stallTimer := none, settleTimer := none, motor := .off }
    let reported := fun (c : Controller) (r : Report) =>
      s.ctl.link.mask.getLsbD 3 = true → s.ctl.link.queue.length < 64 → { time := s.ctl.now, report := r } ∈ c.link.queue
    let faults := fun (cause : RailCause) =>
      ∃ c, Leaves (.switchChange sw) s c ∧ Controller.Frame [.rail, .trim, .link] s.ctl c ∧
        c.rail = { still with state := .fault, cause := some cause, lastStop := .none } ∧
        reported c (.railState .fault none (some cause) old.pendingTarget.isSome .none false)
    (closes → (old.switch sw.other).closed = true → faults .switchConflict) ∧
    (closes → (old.switch sw.other).closed = false → endsMotion →
      ∃ c, Leaves (.switchChange sw) s c ∧ Controller.Frame [.rail, .trim, .link] s.ctl c ∧
        c.rail = { rl with
          state := .settling, origin := none, quietTimer := none, travelTimer := none, stallTimer := none
          settleTimer := some (s.ctl.now + 100000#32), motor := .off } ∧
        reported c (.railState .settling old.target old.cause false old.lastStop old.recovery)) ∧
    (closes → (old.switch sw.other).closed = false → ¬ endsMotion → Leaves (.switchChange sw) s (s.ctl.setRail rl)) ∧
    (¬ closes → standsAt → faults .lostPosition) ∧
    (¬ closes → ¬ standsAt → Leaves (.switchChange sw) s (s.ctl.setRail rl))) ∧
  ∀ (set : Bool) (s : State), s.Running →
    (set = s.ctl.rail.overLimit → Leaves (.overLimitChange set) s s.ctl) ∧
    (set ≠ s.ctl.rail.overLimit → Leaves (.overLimitChange set) s (s.ctl.setRail
      { s.ctl.rail with
        overLimit := set
        stallTimer := if set = true ∧ s.ctl.rail.motor ≠ .off then some (s.ctl.now + 200000#32) else none }))


/-! ### Voices -/

/-- R111, R112: VOICE_SPLIT: refused outside 8..56, ALREADY when nothing changes, and otherwise the new reserve and lending settings, with the voices beyond the reserve that fell re-owned: as many as needed, the most attenuated first, then the oldest start, then the lowest index, and none but the owner changed.
That a set flag is sent as 1 is the model's choice (log 36). -/
def Obligations.VoiceSplitReowns : Prop :=
  ∀ (tag : Byte) (r pl ll : Nat) (s : State), s.Serving → s.ctl.Sized → s.ctl.PoolOk →
    let c := s.ctl.closeWindow
    let fields := fun (c : Controller) (n : Nat) =>
      codeByte (c.reserve .live) ++ codeByte (c.reserve .playback) ++ flagByte (c.lends .playback)
        ++ flagByte (c.lends .live) ++ codeByte (c.used .live) ++ codeByte (c.used .playback) ++ codeByte n
    let same := r = c.pool.liveReserve ∧ (pl != 0) = c.pool.playbackLends ∧ (ll != 0) = c.pool.liveLends
    let replies := Replies (.voiceSplit tag r pl ll) 0xA0#8 tag s
    let att := fun (n : Note) => n.attenuation c.now
    let age := fun (n : Note) => elapsed c.now n.start
    (r < 8 ∨ 56 < r → replies c .badValue (fields c 0)) ∧
    (8 ≤ r → r ≤ 56 → same → replies c .already (fields c 0)) ∧
    (8 ≤ r → r ≤ 56 → ¬ same →
      let fell : Source := if r < c.pool.liveReserve then .live else .playback
      ∃ c' e, replies c' .ok (fields c' e) ∧ Controller.Frame [.pool] c c' ∧ c'.PoolOk ∧
        c'.reserve .live = r ∧ c'.reserve .playback = 64 - r ∧ c'.lends .playback = (pl != 0) ∧ c'.lends .live = (ll != 0) ∧
        e = c.used fell - c'.reserve fell ∧ c'.used fell + e = c.used fell ∧ c'.used fell.other = c.used fell.other + e ∧
        (c'.pool.tone, c'.pool.pendingTone, c'.pool.layer, c'.pool.damperLimit, c'.pool.decay) =
          (c.pool.tone, c.pool.pendingTone, c.pool.layer, c.pool.damperLimit, c.pool.decay) ∧
        (∀ i, c'.voice i = c.voice i ∨
          ∃ n, c.voice i = some n ∧ n.owner = fell ∧ c'.voice i = some { n with owner := fell.other }) ∧
        (∀ i j a b, c.voice i = some a → c.voice j = some b → a.owner = fell → b.owner = fell →
          c'.voice i ≠ c.voice i → c'.voice j = c.voice j →
          att b < att a ∨ (att b = att a ∧ (age b < age a ∨ (age b = age a ∧ i < j)))))

/-- R109, R118 to R121, R123 to R125, R127: TONE at once with every voice fading at its own attenuation, or pending until the pool is empty; DECAY_LOAD with its checks and every SOUNDING voice on its rate afterwards, by the lines of R119; and the end of a voice at 96 dB, which applies a pending tone where it leaves every voice FREE. A DECAY_LOAD without 88 entries is answered BAD_LENGTH (R212), with no field by the model's choice (log 18). -/
def Obligations.TonesDecayAndVoiceEnds : Prop :=
  (∀ (tag : Byte) (t mode : Nat) (s : State), s.Serving →
    let c := s.ctl.closeWindow
    let fields := fun (tone : Nat) (pending : Option Nat) => codeByte tone ++ optLE 1 pending
    let replies := Replies (.tone tag t mode) 0xA1#8 tag s
    let cur := c.pool.tone
    let pend := c.pool.pendingTone
    let empty := ∀ v ∈ c.pool.voices, v = none
    (3 < t ∨ 1 < mode → replies c .badValue (fields cur pend)) ∧
    (t ≤ 3 → mode ≤ 1 → t = cur → pend = none → replies c .already (fields cur none)) ∧
    (t ≤ 3 → mode ≤ 1 → t = cur → pend ≠ none →
      replies { c with pool := { c.pool with pendingTone := none } } .ok (fields cur none)) ∧
    (t ≤ 3 → mode = 1 → t ≠ cur → pend = some t → replies c .already (fields cur pend)) ∧
    (t ≤ 3 → mode = 1 → t ≠ cur → pend ≠ some t → empty →
      ∃ c', replies c' .ok (fields t c'.pool.pendingTone) ∧ Controller.Frame [.pool] c c' ∧ c'.pool.tone = t ∧
        c'.pool.voices = c.pool.voices) ∧
    (t ≤ 3 → mode = 1 → t ≠ cur → pend ≠ some t → ¬ empty →
      replies { c with pool := { c.pool with pendingTone := some t } } .accepted (fields cur (some t))) ∧
    (t ≤ 3 → mode = 0 → t ≠ cur →
      ∃ c', replies c' .ok (fields t none) ∧ Controller.Frame [.pool] c c' ∧ c'.pool.tone = t ∧
        c'.pool.pendingTone = none ∧
        ∀ i, c'.voice i =
          (match c.voice i with
           | none => none
           | some n =>
             if n.fading then some n
             else if n.rate = 19200 then some { n with fading := true, rateClass := .fade }
             else if 960 ≤ n.attenuation c.now then none
             else some { n with
               fading := true, rateClass := .fade, rate := 19200, aRef := n.attenuation c.now, tRef := c.now
               deadline := endDeadline (n.attenuation c.now) c.now 19200 }))) ∧
  (∀ (tag : Byte) (es : List Nat) (limit : Nat) (s : State), s.Serving →
    let c := s.ctl.closeWindow
    let replies := Replies (.decayLoad tag es limit) 0xA3#8 tag s
    let fails := fun (k : Nat) => es.getD (k - 1) 0 < 1 ∨ 2000 < es.getD (k - 1) 0
    (es.length ≠ 88 → replies c .badLength []) ∧
    (∀ k, es.length = 88 → 1 ≤ k → k ≤ 88 → fails k → (∀ j, 1 ≤ j → j < k → ¬ fails j) →
      replies c .badValue (codeByte k)) ∧
    (es.length = 88 → (∀ k, 1 ≤ k → k ≤ 88 → ¬ fails k) →
      (limit < 60 ∨ 88 < limit → replies c .badValue (codeByte 0)) ∧
      (60 ≤ limit → limit ≤ 88 → es = c.pool.decay → limit = c.pool.damperLimit → replies c .already []) ∧
      (60 ≤ limit → limit ≤ 88 → ¬ (es = c.pool.decay ∧ limit = c.pool.damperLimit) →
        ∃ c', replies c' .ok [] ∧ Controller.Frame [.pool, .link] c c' ∧ c'.pool.decay = es ∧
          c'.pool.damperLimit = limit ∧
          ∀ i n, c'.voice i = some n → n.fading = false →
            let own := es.getD (n.key - 1) 1
            let p := if n.source = .live then (c.pedal 0).value else c.player.damper
            let raised := if n.source = .live then (c.key n.key).state ∈ [KeyState.held, .armed, .struck]
              else n.key ∈ c.player.keyDown
            let kept := if n.source = .live then n.key ∈ c.pedals.sostenuto else n.key ∈ c.player.held
            (n.rateClass, n.rate) =
              (if n.source = .playback ∧ c.playerState = .paused then (RateClass.frozen, 0)
               else if limit < n.key ∨ raised ∨ kept ∨ 192 ≤ p then (.natural, own)
               else if 64 ≤ p then (.part, 8000 - (8000 - own) * (p - 64) / 128)
               else (.damped, 8000))))) ∧
  ∀ (i : Nat) (n : Note) (d : Time) (s : State), s.Running → s.ctl.clock.suspended = false → i < 64 →
    s.ctl.voice i = some n → n.deadline = some d → (s.ctl.now - d).toNat < 2147483648 →
    let last := ∀ j m, s.ctl.voice j = some m → j = i
    ∃ c, Leaves (.voiceEnd i) s c ∧ Controller.Frame [.pool, .link] s.ctl c ∧ c.voice i = none ∧
      (∀ j, j ≠ i → c.voice j = s.ctl.voice j) ∧
      (s.ctl.pool.pendingTone = none ∨ ¬ last →
        c.pool.tone = s.ctl.pool.tone ∧ c.pool.pendingTone = s.ctl.pool.pendingTone) ∧
      (∀ t, s.ctl.pool.pendingTone = some t → last → c.pool.tone = t ∧ c.pool.pendingTone = none ∧
        (s.ctl.link.mask.getLsbD 4 = true → s.ctl.link.queue.length < 64 →
          { time := s.ctl.now, report := .toneApplied t } ∈ c.link.queue))

/-- R113 to R117: taking a strike always gives one voice its note: the voice that its source and key already have, with its owner kept; else the lowest FREE voice, within the own reserve or borrowed from the other partition; else a stolen voice of the own partition, FADING before the other source's before the rest, then the most attenuated, then the oldest start, then the lowest index. No other voice changes, and the limits of the pool hold. -/
def Obligations.StrikeTakesOneVoice : Prop :=
  ∀ (c : Controller) (src : Source) (key level : Nat), c.Sized → c.PoolOk →
    let c' := c.poolStrike src key level
    let mine := fun (i : Nat) => ∃ n, c.voice i = some n ∧ n.source = src ∧ n.key = key
    let band := fun (n : Note) => if n.fading then 2 else if n.source = src then 0 else 1
    let att := fun (n : Note) => n.attenuation c.now
    let age := fun (n : Note) => elapsed c.now n.start
    let room := c.used src < c.reserve src
    let borrow := c.lends src.other = true ∧ c.used src.other < c.reserve src.other
    Controller.Frame [.pool, .link] c c' ∧ c'.PoolOk ∧
    ∃ i n, c'.voice i = some n ∧ (∀ j, j ≠ i → c'.voice j = c.voice j) ∧
      n.fading = false ∧ n.source = src ∧ n.key = key ∧ n.level = level ∧ n.tone = c.pool.tone ∧ n.start = c.now ∧
      n.tRef = c.now ∧ n.aRef = (127 - level) * 3 ∧ (n.rateClass, n.rate) = c.rateFor src key ∧
      n.deadline = endDeadline n.aRef c.now n.rate ∧
      (∀ j, mine j → i = j ∧ ∀ old, c.voice j = some old → n.owner = old.owner) ∧
      ((∀ j, ¬ mine j) → room → c.voice i = none ∧ n.owner = src ∧ ∀ j, j < i → c.voice j ≠ none) ∧
      ((∀ j, ¬ mine j) → ¬ room → borrow → c.voice i = none ∧ n.owner = src.other ∧ ∀ j, j < i → c.voice j ≠ none) ∧
      ((∀ j, ¬ mine j) → ¬ room → ¬ borrow → n.owner = src ∧ ∃ old, c.voice i = some old ∧ old.owner = src ∧
        (∀ j b, c.voice j = some b → b.owner = src → j ≠ i →
          band b < band old ∨ (band b = band old ∧ (att b < att old ∨ (att b = att old ∧
            (age b < age old ∨ (age b = age old ∧ i < j)))))) ∧
        (c.link.mask.getLsbD 4 = true → c.link.queue.length < 64 →
          { time := c.now, report := .steal i old.source old.key (att old) (old.owner != old.source) src key }
            ∈ c'.link.queue))

/-! ### Headphones -/

/-- R134 to R138, R141: PHONES, the jack, the ends of ramps and glides. A level whose setting changes glides from its applied attenuation; the output is wanted on while it is enabled, the jack is in and the master volume is not 0, and the output state follows.
That a ramp at its end reverses at 1 or 2,399 until its RAMP_END is taken is the model's choice (log 8); the place of the marks beside the settings, and an enable never marked, are its reading (log 17).
That a set flag is sent as 1 is the model's choice (log 36). -/
def Obligations.PhonesAndOutputState : Prop :=
  let decided := fun (wanted owed : Bool) (p p' : HeadphonePath) =>
    (wanted = true → p'.output = (if p.output = .on then .on else .rising)) ∧
    (wanted = false → p'.output = (if p.output = .off then .off else .falling)) ∧
    (p.output = .off → wanted = true → p'.ramp = 0) ∧ (p.output = .on → wanted = false → p'.ramp = 2400) ∧
    (p.output = .falling → wanted = true → 1 ≤ p.ramp → p'.ramp = p.ramp) ∧
    (p.output = .rising → wanted = false → p.ramp ≤ 2399 → p'.ramp = p.ramp) ∧
    (p'.output = p.output → (p.output = .off → owed = false) → p'.ramp = p.ramp)
  (∀ (tag : Byte) (e v l b : Nat) (s : State), s.Serving →
    let c := s.ctl.closeWindow
    let v' := min v 63
    let l' := min l 31
    let b' := min b 31
    let fields := fun (p : HeadphonePath) =>
      flagByte p.enable ++ flagByte false ++ bytesLE 2 p.master.setting ++ flagByte (decide (63 < v))
        ++ bytesLE 2 p.liveMix.setting ++ flagByte (decide (31 < l)) ++ bytesLE 2 p.playbackMix.setting
        ++ flagByte (decide (31 < b)) ++ flagByte p.jackPresent ++ codeByte p.output.code ++ bytesLE 2 p.ramp
        ++ bytesLE 2 p.master.applied ++ bytesLE 2 p.liveMix.applied ++ bytesLE 2 p.playbackMix.applied
    let given := fun (old new : LevelRec) (setting target : Nat) =>
      new = if setting = old.setting then old
        else { setting := setting, applied := old.applied, glide := some { start := old.applied, target := target, count := 0 } }
    let same := (e != 0) = c.phones.enable ∧ v' = c.phones.master.setting ∧ l' = c.phones.liveMix.setting ∧
      b' = c.phones.playbackMix.setting
    (same → Replies (.phones tag e v l b) 0xA5#8 tag s c .already (fields c.phones)) ∧
    (¬ same → ∃ c', Replies (.phones tag e v l b) 0xA5#8 tag s c' .ok (fields c'.phones) ∧
      Controller.Frame [.phones, .pool, .link] c c' ∧ c'.phones.enable = (e != 0) ∧
      given c.phones.master c'.phones.master v' (if v' = 0 then 960 else (63 - v') * 15) ∧
      given c.phones.liveMix c'.phones.liveMix l' (l' * 15) ∧ given c.phones.playbackMix c'.phones.playbackMix b' (b' * 15) ∧
      decided ((e != 0) && c.phones.jackPresent && decide (0 < v')) c.phones.freeingOwed c.phones c'.phones ∧
      (c.phones.jackPresent, c.phones.jackRun, c.phones.frame) =
        (c'.phones.jackPresent, c'.phones.jackRun, c'.phones.frame))) ∧
  (∀ (s : State), s.Running → s.ctl.phones.jackRun = 4800 →
    let p := s.ctl.phones
    ∃ c, Leaves .jackChange s c ∧ Controller.Frame [.phones, .pool, .link] s.ctl c ∧
      c.phones.jackPresent = !p.jackPresent ∧ c.phones.jackRun = 0 ∧
      decided (p.enable && !p.jackPresent && (s.ctl.link.state == .active) && decide (0 < p.master.setting)) p.freeingOwed p
        c.phones ∧
      (s.ctl.link.state = .standby → p.jackPresent = false →
        c.link.state = .waking ∧ c.link.wakeSource = some .jack ∧ c.link.wakeTimer = some (p.frame + 960)) ∧
      (¬ (s.ctl.link.state = .standby ∧ p.jackPresent = false) → c.link.state = s.ctl.link.state) ∧
      (s.ctl.link.mask.getLsbD 7 = true → s.ctl.link.queue.length < 64 →
        { time := s.ctl.now, report := if p.jackPresent then .jackOut else .jackIn } ∈ c.link.queue)) ∧
  (∀ (s : State), s.Running →
    let p := s.ctl.phones
    (p.output = .rising → 2400 ≤ p.ramp →
      Leaves .rampEnd s { s.ctl with phones := { p with output := .on, ramp := 2400 } }) ∧
    (p.output = .falling → p.ramp = 0 → p.freeingOwed = false →
      Leaves .rampEnd s { s.ctl with phones := { p with output := .off, ramp := 0 } }) ∧
    (p.output = .falling → p.ramp = 0 → p.freeingOwed = true →
      ∃ c, Leaves .rampEnd s c ∧ Controller.Frame [.phones, .pool, .link] s.ctl c ∧
        c.phones = { p with output := .off, ramp := 0, freeingOwed := false } ∧ c.poolEmpty = true)) ∧
  ∀ (name : Level) (g : Glide) (s : State), s.Running → (s.ctl.phones.level name).glide = some g → 480 ≤ g.count →
    ∃ c, Leaves (.glideEnd name) s c ∧ Controller.Frame [.phones] s.ctl c ∧
      c.phones.level name = { s.ctl.phones.level name with applied := g.target, glide := none } ∧
      (∀ other, other ≠ name → c.phones.level other = s.ctl.phones.level other) ∧
      (c.phones.output, c.phones.ramp, c.phones.jackPresent, c.phones.enable, c.phones.frame) =
        (s.ctl.phones.output, s.ctl.phones.ramp, s.ctl.phones.jackPresent, s.ctl.phones.enable, s.ctl.phones.frame)

/-- R81, R133, R134, R136, R138 to R140: one frame: the counts of the jack and of the two switches, which start over at a level that agrees with the state; the glides; the ramp; and the samples, silent at ramp 0: for each channel the sum over the voices of the sample of each, weighted by (174 − q) / 174 on the left and (87 + q) / 174 on the right, times the ramp position over 2,400, clipped to full scale. Nothing else changes, neither the output state nor the voices. A voice at 96 dB or more contributes nothing (R139); any other contributes its waveform scaled to its output attenuation, the sum of its own attenuation, its source's mix and the master volume.
That a completed count waits for its own command is the model's choice (log 8), and so are the waveform, that 20 dB are a factor of 10 of a sample, the rounding of the scaled sample toward 0, the rounding down of each weighted sample and of the ramp's quotient, and that the ramp and the attenuations are those after the frame's moves (log 15). -/
def Obligations.OutputFrameCounts : Prop :=
  (∀ (c : Controller) (n : Note),
    let a := n.attenuation c.now + (if n.source = .live then c.phones.liveMix.applied else c.phones.playbackMix.applied)
      + c.phones.master.applied
    let w := Config.waveform n.tone n.key n.level (c.phones.frame - n.startFrame)
    let v := c.voiceSample n
    (960 ≤ a → v = 0) ∧
    (a < 960 → (0 ≤ w → 0 ≤ v) ∧ (w ≤ 0 → v ≤ 0) ∧ v.natAbs ^ 200 * 10 ^ a ≤ w.natAbs ^ 200 ∧
      w.natAbs ^ 200 < (v.natAbs + 1) ^ 200 * 10 ^ a)) ∧
  ∀ (jack clear engaged : Bool) (s : State), s.Running →
    let p := s.ctl.phones
    let rl := s.ctl.rail
    let framed := fun (old new : Switch) (level : Bool) =>
      new = if old.run = 96 then { old with level := level }
        else { old with level := level, run := if level = old.closed then 0 else old.run + 1 }
    let glides := fun (old new : LevelRec) => new.setting = old.setting ∧
      (old.glide = none → new = old) ∧
      (∀ g, old.glide = some g → new.glide = some { g with count := min (g.count + 1) 480 } ∧
        new.applied = ((g.start : Int) + (((g.target : Int) - g.start) * (min (g.count + 1) 480 : Nat)).tdiv 480).toNat)
    ∃ c, Leaves (.outputFrame jack clear engaged) s c ∧ Controller.Frame [.phones, .rail] s.ctl c ∧
      framed rl.clearSwitch c.rail.clearSwitch clear ∧ framed rl.engagedSwitch c.rail.engagedSwitch engaged ∧
      { c.rail with clearSwitch := rl.clearSwitch, engagedSwitch := rl.engagedSwitch } = rl ∧
      glides p.master c.phones.master ∧ glides p.liveMix c.phones.liveMix ∧ glides p.playbackMix c.phones.playbackMix ∧
      c.phones.frame = p.frame + 1 ∧ c.phones.jackLevel = jack ∧
      c.phones.jackRun = (if p.jackRun = 4800 then 4800 else if jack = p.jackPresent then 0 else p.jackRun + 1) ∧
      c.phones.ramp = (match p.output with
        | .rising => min (p.ramp + 1) 2400
        | .falling => p.ramp - 1
        | .off | .on => p.ramp) ∧
      c.phones.output = p.output ∧ c.phones.jackPresent = p.jackPresent ∧ c.phones.enable = p.enable ∧
      c.phones.freeingOwed = p.freeingOwed ∧
      (c.phones.ramp = 0 → c.phones.left = 0 ∧ c.phones.right = 0) ∧
      (let channel := fun (weight : Nat → Nat) =>
         let sum := ((s.ctl.pool.voices.filterMap id).map fun n => (c.voiceSample n * (weight (n.key - 1) : Int)).fdiv 174).sum
         let x := (sum * (c.phones.ramp : Int)).fdiv 2400
         if Config.fullScaleMax < x then Config.fullScaleMax else if x < Config.fullScaleMin then Config.fullScaleMin else x
       c.phones.ramp ≠ 0 → c.phones.left = channel (fun q => 174 - q) ∧ c.phones.right = channel (fun q => 87 + q)) ∧
      (Config.fullScaleMin ≤ Config.fullScaleMax → c.phones.ramp ≠ 0 →
        Config.fullScaleMin ≤ c.phones.left ∧ c.phones.left ≤ Config.fullScaleMax ∧
        Config.fullScaleMin ≤ c.phones.right ∧ c.phones.right ≤ Config.fullScaleMax)


/-! ### Takes -/

/-- R145, R148 to R153: TAKE_WINDOW with its checks in their order, the truncation of a WRITE window and the read end of a READ window; and TAKE_DATA, whose records pass the checks of R152 one at a time: all good, they are stored up to the window's last index and the rest ignored; at a failure those before it are kept, the window closes and the slot is settled.
That an IN_USE reply names its user before the slot's state and count, that absent fields stand for a slot that is neither A nor B, and that the position of a failing record takes two bytes, is the model's reading (log 17), and that a BAD_LENGTH reply to TAKE_DATA carries no field is its choice (log 18). -/
def Obligations.WindowAndWrittenRecords : Prop :=
  (∀ (tag : Byte) (n mode first last : Nat) (s : State), s.Serving →
    let c := s.ctl.closeWindow
    let replies := Replies (.takeWindow tag n mode first last) 0xA8#8 tag s
    let shown := fun (c : Controller) (sl : Slot) => [Config.slotStateCode (c.take sl).isSome] ++ bytesLE 2 (c.count sl)
    (1 < n → replies c .badValue (absent 3)) ∧
    ∀ sl : Slot, sl.code = n →
      let opened := fun (m : WindowMode) =>
        some { slot := sl, mode := m, first := first, last := last, cursor := first : Window }
      let head := fun (m : WindowMode) =>
        codeByte n ++ codeByte m.code ++ bytesLE 2 first ++ bytesLE 2 last ++ bytesLE 2 first
      (1 < mode ∨ last < first → replies c .badValue (shown c sl)) ∧
      (mode ≤ 1 → first ≤ last → c.recorderUses sl = true →
        replies c .inUse ([Config.userCode .recorder] ++ shown c sl)) ∧
      (mode = 1 → first ≤ last → c.recorderUses sl = false → c.playerUses sl = true →
        replies c .inUse ([Config.userCode .player] ++ shown c sl)) ∧
      (mode = 1 → first ≤ last → c.recorderUses sl = false → c.playerUses sl = false →
        (c.count sl < first → replies c .badValue (shown c sl)) ∧
        (first ≤ c.count sl → ∃ c', replies c' .ok (head .write ++ bytesLE 2 first ++ absent 2) ∧
          Controller.Frame [.takes] c c' ∧ c'.takes.window = opened .write ∧
          c'.take sl = some { origin := .uploaded, records := (c.records sl).take first, length := 0 } ∧
          ∀ other, other ≠ sl → c'.take other = c.take other)) ∧
      (mode = 0 → first ≤ last → c.recorderUses sl = false →
        (c.count sl ≤ first → replies c .badValue (shown c sl)) ∧
        (first < c.count sl →
          replies { c with takes := { c.takes with window := opened .read } } .ok
            (head .read ++ bytesLE 2 (c.count sl) ++ bytesLE 2 (min last (c.count sl - 1)))))) ∧
  ∀ (tag : Byte) (rs : List RawRecord) (s : State), s.Serving →
    let c := s.ctl
    let replies := Replies (.takeData tag rs) 0xA9#8 tag s
    let kindOk := fun (r : RawRecord) =>
      (r.kind = 1 ∧ 1 ≤ r.subject ∧ r.subject ≤ 88 ∧ 1 ≤ r.value ∧ r.value ≤ 127) ∨
      ((r.kind = 2 ∨ r.kind = 3) ∧ 1 ≤ r.subject ∧ r.subject ≤ 88 ∧ r.value = 0) ∨
      (r.kind = 4 ∧ r.subject ≤ 2 ∧ r.value ≤ 255) ∨ (r.kind = 5 ∧ r.subject ≤ 15 ∧ r.value = 0)
    let stored := fun (r : RawRecord) (t : TakeRec) =>
      t.time = r.time ∧ t.kind.code = r.kind ∧ t.subject = r.subject ∧ t.value = r.value
    (rs.length = 0 ∨ 40 < rs.length → replies c .badLength []) ∧
    (1 ≤ rs.length → rs.length ≤ 40 → (∀ w, c.takes.window = some w → w.mode = .read) → replies c .badState []) ∧
    (∀ w, 1 ≤ rs.length → rs.length ≤ 40 → c.takes.window = some w → w.mode = .write →
      let old := c.records w.slot
      let admitted := min rs.length (w.last + 1 - old.length)
      let before := fun (i : Nat) =>
        ((rs.take i).getLast?.map RawRecord.time).getD ((old.getLast?.map TakeRec.time).getD 0)
      let passes := fun (i : Nat) => ∃ r, rs[i]? = some r ∧ kindOk r ∧ before i ≤ r.time ∧ old.length + i < 16384
      let written := fun (c' : Controller) (n : Nat) (window : Option Window) (length : Nat) =>
        Controller.Frame [.takes] c c' ∧ c'.takes.window = window ∧
        (∀ other, other ≠ w.slot → c'.take other = c.take other) ∧
        (∃ ts, List.Forall₂ stored (rs.take n) ts ∧ c'.records w.slot = old ++ ts) ∧
        c'.length w.slot = length ∧ (∀ t, c'.take w.slot = some t → t.origin = .uploaded)
      ((∀ i, i < admitted → passes i) →
        ∃ c', written c' admitted (some { w with cursor := old.length + admitted }) 0 ∧
          replies c' .ok (codeByte admitted ++ codeByte (rs.length - admitted) ++ bytesLE 2 (old.length + admitted)
            ++ bytesLE 2 (old.length + admitted))) ∧
      (∀ n r, n < admitted → rs[n]? = some r → (∀ i, i < n → passes i) → ¬ passes n →
        let code := if ¬ kindOk r then ResultCode.badValue else if r.time < before n then .order else .full
        ∃ c', written c' n none (before n) ∧
          replies c' code (codeByte n ++ codeByte 0 ++ codeByte (rs.length - n) ++ bytesLE 2 (n + 1)
            ++ bytesLE 2 (old.length + n) ++ [Config.slotStateCode (decide (0 < old.length + n))])))

/-- R147, R154, R156: TAKE_READ sends the next records of a READ window, at most 40, up to the read end, and moves its cursor past them, the slots unchanged; TAKE_CLEAR empties a slot that no one uses.
The user before the slot's state and count in an IN_USE reply, the absent fields for an unknown slot, and the index in a reply that sends no record are the model's reading and choice (log 17).
That a set flag is sent as 1 is the model's choice (log 36). -/
def Obligations.TakeReadAndClear : Prop :=
  (∀ (tag : Byte) (s : State), s.Serving →
    let c := s.ctl
    ((∀ w, c.takes.window = some w → w.mode = .write) → Replies (.takeRead tag) 0xAA#8 tag s c .badState []) ∧
    (∀ w, c.takes.window = some w → w.mode = .read →
      let stop := min (w.last + 1) (c.count w.slot)
      let n := min 40 (stop - w.cursor)
      let sent := ((c.records w.slot).drop w.cursor).take n
      sent.length = n ∧
      Replies (.takeRead tag) 0xAA#8 tag s
        { c with takes := { c.takes with window := some { w with cursor := w.cursor + n } } } .ok
        (bytesLE 2 w.cursor ++ codeByte n ++ bytesLE 2 (stop - (w.cursor + n)) ++ flagByte (decide (n = 0))
          ++ sent.flatMap fun r =>
            bytesLE 3 r.time ++ codeByte r.kind.code ++ codeByte r.subject ++ codeByte r.value))) ∧
  ∀ (tag : Byte) (n : Nat) (s : State), s.Serving →
    let c := s.ctl.closeWindow
    let replies := Replies (.takeClear tag n) 0xAC#8 tag s
    let shown := fun (sl : Slot) => [Config.slotStateCode (c.take sl).isSome] ++ bytesLE 2 (c.count sl)
    (1 < n → replies c .badValue (absent 3)) ∧
    ∀ sl : Slot, sl.code = n →
      (c.recorderUses sl = true → replies c .inUse ([Config.userCode .recorder] ++ shown sl)) ∧
      (c.recorderUses sl = false → c.playerUses sl = true → replies c .inUse ([Config.userCode .player] ++ shown sl)) ∧
      (c.recorderUses sl = false → c.playerUses sl = false → c.take sl = none → replies c .already (shown sl)) ∧
      (c.recorderUses sl = false → c.playerUses sl = false → c.take sl ≠ none →
        replies (c.setTake sl none) .ok ([Config.slotStateCode false] ++ bytesLE 2 0))

/-! ### The Recorder -/

/-- R160 to R162, R170: REC_ARM with its checks in their order; accepted, the slot is emptied and ARMED reported; in FREE mode the Recorder waits, in SYNC mode it starts at once at the Player's take time, with REC_STARTED reported, with the three PEDAL records and a DAMPER_UP of every key whose damper is up.
That the IN_USE reply names its user before the Recorder's state is the model's choice (log 17). -/
def Obligations.RecArmEmptiesItsSlot : Prop :=
  ∀ (tag : Byte) (n m : Nat) (s : State), s.Serving →
    let c := s.ctl.closeWindow
    let replies := Replies (.recArm tag n m) 0xB0#8 tag s
    let shown := codeByte c.recState.code
    let active := fun (l : Loop) => l.count = 0 ∨ l.passes < l.count
    let syncOpen := ∃ x, c.player.session = some x ∧ ∀ l, x.loop = some l → ¬ active l
    let ms := fun (x : Session) =>
      (if x.phase = .playing then x.time + (elapsed c.now x.since * c.player.tempo + x.remainder) / 100 else x.time) / 1000
    (1 < n ∨ 1 < m → replies c .badValue shown) ∧
    (n ≤ 1 → m ≤ 1 → c.recState ≠ .idle → replies c .badState shown) ∧
    ∀ sl : Slot, sl.code = n → m ≤ 1 → c.recState = .idle →
      (c.playerUses sl = true → replies c .inUse ([Config.userCode .player] ++ shown)) ∧
      (c.playerUses sl = false → m = 1 → ¬ syncOpen → replies c .badState shown) ∧
      (c.playerUses sl = false → m = 0 → ∃ c', replies c' .accepted (codeByte n ++ codeByte m ++ codeByte 1) ∧
        Controller.Frame [.takes, .recorder, .link] c c' ∧ c'.takes.window = none ∧
        c'.recorder.job = some { target := sl, mode := .free, run := none } ∧
        c'.take sl = some { origin := .recorded, records := [], length := 0 } ∧
        (∀ other, other ≠ sl → c'.take other = c.take other) ∧
        (c.link.mask.getLsbD 6 = true → c.link.queue.length < 64 →
          { time := c.now, report := .recArmed sl .free } ∈ c'.link.queue)) ∧
      (∀ x, c.playerUses sl = false → m = 1 → syncOpen → c.player.session = some x →
        ∃ (c' : Controller) (run : RecRun) (ups : List Nat), replies c' .accepted (codeByte n ++ codeByte m ++ codeByte 2) ∧
          Controller.Frame [.takes, .recorder, .link] c c' ∧
          c'.recorder.job = some { target := sl, mode := .sync, run := some run } ∧ run.start = none ∧
          run.limit = none ∧ run.startTime = ms x ∧
          (run.lastDamper, run.lastSostenuto, run.lastSoft) = ((c.pedal 0).value, (c.pedal 1).value, (c.pedal 2).value) ∧
          (∀ k, k ∈ ups ↔ 1 ≤ k ∧ k ≤ 88 ∧ (c.key k).state ∈ [KeyState.held, .armed, .struck]) ∧
          ups.Pairwise (· < ·) ∧
          c'.take sl = some
            { origin := .recorded, length := 0
              records :=
                ([0, 1, 2].map fun p => { time := ms x, kind := .pedal, subject := p, value := (c.pedal p).value })
                  ++ ups.map fun k => { time := ms x, kind := .damperUp, subject := k, value := 0 } } ∧
          (∀ other, other ≠ sl → c'.take other = c.take other) ∧
          (c.link.mask.getLsbD 6 = true → c.link.queue.length < 60 →
            { time := c.now, report := .recArmed sl .sync } ∈ c'.link.queue ∧
            { time := c.now, report := .recStarted sl .sync (ms x) (3 + ups.length) } ∈ c'.link.queue))

/-- R160, R165 to R168: REC_MARK writes a MARK at the record time of a recording in progress, the ms since the start of a FREE one and the Player's take time in ms (R174) in a SYNC one; REC_STOP and the limit timer end the recording, the slot settled with the length of the cause and a STOPPED report sent; so does the mark that fills the slot.
That the mark number takes two bytes is the model's reading (log 17), and that a request with no mark or recording to answer for carries no field is its choice (log 34). -/
def Obligations.MarksAndRecorderStops : Prop :=
  (∀ (tag : Byte) (n : Nat) (s : State), s.Serving →
    let c := s.ctl.closeWindow
    let replies := Replies (.recMark tag n) 0xB1#8 tag s
    (15 < n → replies c .badValue []) ∧
    (n ≤ 15 → c.recState ≠ .recording → replies c .badState []) ∧
    (∀ j run t0, j.run = some run → j.mode = .free → run.start = some t0 → c.recTime j = (c.now - t0).toNat / 1000) ∧
    (∀ j, j.mode = .sync → c.recTime j =
      (match c.player.session with
       | some x =>
         (if x.phase = .playing then x.time + (elapsed c.now x.since * c.player.tempo + x.remainder) / 100 else x.time) / 1000
       | none => 0)) ∧
    (∀ j run, n ≤ 15 → c.recorder.job = some j → j.run = some run →
      let ms := c.recTime j
      let mark : TakeRec := { time := ms, kind := .mark, subject := n, value := 0 }
      ∃ c', replies c' .ok (bytesLE 2 n ++ bytesLE 3 ms ++ bytesLE 2 (c.count j.target + 1)) ∧
        Controller.Frame [.takes, .recorder, .link] c c' ∧ c'.records j.target = c.records j.target ++ [mark] ∧
        (∀ other, other ≠ j.target → c'.take other = c.take other) ∧
        (c.count j.target + 1 < 16384 → c'.recorder = c.recorder ∧ c'.length j.target = 0) ∧
        (16384 ≤ c.count j.target + 1 → c'.recorder.job = none ∧ c'.length j.target = ms ∧
          (c.link.mask.getLsbD 6 = true → c.link.queue.length < 64 →
            { time := c.now, report := .recStopped j.target .full (c.count j.target + 1) ms true } ∈ c'.link.queue)))) ∧
  (∀ (tag : Byte) (s : State), s.Serving →
    let c := s.ctl.closeWindow
    (c.recorder.job = none → Replies (.recStop tag) 0xB2#8 tag s c .already []) ∧
    (∀ j, c.recorder.job = some j →
      let length := if j.run.isSome then c.recTime j else 0
      let kept := settledTake .recorded (c.records j.target) length
      ∃ c', Replies (.recStop tag) 0xB2#8 tag s c' .ok
          (codeByte j.target.code ++ [Config.slotStateCode kept.isSome] ++ bytesLE 2 (c.count j.target)
            ++ bytesLE 3 (if kept.isSome then length else 0)) ∧
        Controller.Frame [.takes, .recorder, .link] c c' ∧ c'.recorder.job = none ∧ c'.take j.target = kept ∧
        (∀ other, other ≠ j.target → c'.take other = c.take other) ∧
        (c.link.mask.getLsbD 6 = true → c.link.queue.length < 64 →
          { time := c.now
            report := .recStopped j.target .request (c.count j.target) (if kept.isSome then length else 0) kept.isSome }
            ∈ c'.link.queue))) ∧
  ∀ (j : RecJob) (run : RecRun) (t0 : Time) (s : State), s.Running → s.ctl.clock.suspended = false →
    s.ctl.recorder.job = some j → j.run = some run → run.start = some t0 → 4200000000 ≤ (s.ctl.now - t0).toNat →
    ∃ c, Leaves .recTimeLimit s c ∧ Controller.Frame [.takes, .recorder, .link] s.ctl c ∧ c.recorder.job = none ∧
      c.take j.target = settledTake .recorded (s.ctl.records j.target) 4200000 ∧
      (∀ other, other ≠ j.target → c.take other = s.ctl.take other) ∧
      (s.ctl.link.mask.getLsbD 6 = true → s.ctl.link.queue.length < 64 →
        let held := !(s.ctl.records j.target).isEmpty
        { time := s.ctl.now
          report := .recStopped j.target .timeLimit (s.ctl.count j.target) (if held then 4200000 else 0) held }
          ∈ c.link.queue)


/-! ### The Player -/

/-- R174, R181, R182, R184, R195: PLAY_START with its checks in their order; accepted, the Player stands at P with its pedals from the snapshot at P and its sets empty, and whatever P has reached is taken. Where no record has time P and the take is longer, the Player is PLAYING toward its next record.
That a refused request carries no field but its user is the model's choice (log 34). -/
def Obligations.PlayStartStandsAtItsPosition : Prop :=
  ∀ (tag : Byte) (n p : Nat) (s : State), s.Serving →
    let c := s.ctl.closeWindow
    let replies := Replies (.playStart tag n p) 0xB8#8 tag s
    let pl := c.player
    (1 < n → replies c .badValue []) ∧
    ∀ sl : Slot, sl.code = n →
      let rs := c.records sl
      let pedal := fun (q : Nat) =>
        ((rs.filter fun r => decide (r.kind = .pedal ∧ r.subject = q ∧ r.time < p)).getLast?.map TakeRec.value).getD 0
      let cursor := (rs.takeWhile fun r => decide (r.time < p)).length
      (pl.session ≠ none → replies c .badState []) ∧
      (pl.session = none → c.recorderUses sl = true → replies c .inUse [Config.userCode .recorder]) ∧
      (pl.session = none → c.recorderUses sl = false → c.take sl = none → replies c .badState []) ∧
      (pl.session = none → c.recorderUses sl = false → c.take sl ≠ none → c.length sl < p → replies c .badValue []) ∧
      (pl.session = none → c.recorderUses sl = false → c.take sl ≠ none → p ≤ c.length sl →
        ∃ c', replies c' .accepted
            (optLE 1 (c'.player.session.map fun x => x.slot.code) ++ optLE 2 (c'.player.session.map fun x => x.cursor)
              ++ optLE 3 (c'.player.session.map fun x => x.time / 1000) ++ codeByte c'.playerState.code) ∧
          Controller.Frame [.pool, .takes, .recorder, .player, .link] c c' ∧ c'.CaughtUp ∧
          (c.link.mask.getLsbD 5 = true → c.link.queue.length < 64 →
            { time := c.now, report := .playerState sl p .playing } ∈ c'.link.queue) ∧
          ((∀ r ∈ rs, r.time ≠ p) → rs.Pairwise (fun a b => a.time ≤ b.time) → p < c.length sl → pl.expected = [] →
            c'.takes = c.takes ∧ c'.recorder = c.recorder ∧ ∃ due, c'.player =
            { pl with
              session := some
                { phase := .playing, slot := sl, cursor := cursor, time := p * 1000, remainder := 0, since := c.now
                  due := some due, loop := none }
              damper := pedal 0, sostenuto := pedal 1, soft := pedal 2, engaged := decide (128 ≤ pedal 1)
              keyDown := [], held := [], expected := [], consumed := [] } ∧
            due = after c.now (min 1000000000
              ((100 * (((rs[cursor]?.map TakeRec.time).getD (c.length sl)) * 1000 - p * 1000) + (pl.tempo - 1)) / pl.tempo))))

/-- R122, R123, R169, R174, R183, R185, R186, R195: PLAY_STOP fades the PLAYBACK voices, empties the Player and stops a SYNC recording; PLAY_PAUSE stands the take time still and freezes the PLAYBACK voices; PLAY_RESUME returns to the state the pause was taken from. LIVE voices and the settings of tempo and hands are kept. A PLAY_RESUME that finds the Player PLAYING takes what the take time has reached (R175).
That PLAY_STOP and PLAY_PAUSE do not is the model's reading (log 31). -/
def Obligations.StopPauseAndResume : Prop :=
  ∀ (tag : Byte) (s : State), s.Serving →
    let c := s.ctl.closeWindow
    let u := c.bringUp
    let pl := c.player
    (pl.session = none →
      Replies (.playStop tag) 0xB9#8 tag s c .already [] ∧ Replies (.playPause tag) 0xBA#8 tag s c .badState [] ∧
      Replies (.playResume tag) 0xBB#8 tag s c .badState []) ∧
    (∀ x, u.player.session = some x →
      let ms := x.time / 1000
      (∃ c', Replies (.playStop tag) 0xB9#8 tag s c' .ok [] ∧
        Controller.Frame [.pool, .takes, .recorder, .player, .link] c c' ∧
        c'.player = { pl with
          session := none, damper := 0, sostenuto := 0, soft := 0, engaged := false, keyDown := [], held := []
          expected := [], consumed := [] } ∧
        (∀ i n, c'.voice i = some n → n.source = .playback → n.fading = true) ∧
        (∀ i n, c.voice i = some n → n.source = .live → c'.voice i = some n) ∧
        (c.syncRecording = false → c'.takes = c.takes ∧ c'.recorder = c.recorder) ∧
        (∀ j, c.recorder.job = some j → j.mode = .sync → c'.recorder.job = none ∧
          c'.take j.target = settledTake .recorded (c.records j.target) ms) ∧
        (c.link.mask.getLsbD 5 = true → c.link.queue.length < 60 →
          { time := c.now, report := .playerState x.slot ms .stopped } ∈ c'.link.queue)) ∧
      ((∃ w, x.phase = .paused w) → Replies (.playPause tag) 0xBA#8 tag s u .already []) ∧
      (x.phase = .playing ∨ x.phase = .waiting →
        Replies (.playResume tag) 0xBB#8 tag s u.takeReached .already [] ∧
        ∃ c', Replies (.playPause tag) 0xBA#8 tag s c' .ok [] ∧ Controller.Frame [.pool, .player, .link] c c' ∧
          c'.player = { pl with session := some { x with phase := .paused (x.phase == .waiting), due := none } } ∧
          (∀ i n, c'.voice i = some n → n.fading = false → n.source = .playback → (n.rateClass, n.rate) = (.frozen, 0)) ∧
          (∀ i n, c.voice i = some n → n.source = .live → c'.voice i = some n) ∧
          (c.link.mask.getLsbD 5 = true → c.link.queue.length < 64 →
            { time := c.now, report := .playerState x.slot ms (.paused (x.phase == .waiting)) } ∈ c'.link.queue)) ∧
      (x.phase = .paused true →
        ∃ c', Replies (.playResume tag) 0xBB#8 tag s c' .ok [] ∧ Controller.Frame [.pool, .player, .link] c c' ∧
          c'.player = { pl with session := some { x with phase := .waiting } } ∧
          (∀ i n, c'.voice i = some n → n.fading = false → n.source = .playback →
            (n.rateClass, n.rate) = c'.rateFor .playback n.key)) ∧
      (x.phase = .paused false →
        let due := ∃ r, (c.records x.slot)[x.cursor]? = some r ∧ r.time * 1000 ≤ x.time
        ∃ c', Replies (.playResume tag) 0xBB#8 tag s c' .ok [] ∧
          Controller.Frame [.pool, .takes, .recorder, .player, .link] c c' ∧ c'.CaughtUp ∧
          (¬ due → x.loop = none → x.time < c.length x.slot * 1000 → pl.expected = [] →
            c'.takes = c.takes ∧ c'.recorder = c.recorder ∧
            (∃ d, c'.player = { pl with session := some { x with phase := .playing, since := c.now, due := some d } }) ∧
            ∀ i n, c'.voice i = some n → n.fading = false → n.source = .playback →
              (n.rateClass, n.rate) = c'.rateFor .playback n.key)))

/-- R187 to R189: PLAY_SEEK moves the Player with its sets emptied, its pedals from the snapshot and the loop armed afresh, PLAYING or still PAUSED; PLAY_LOOP sets, keeps or removes the loop. Both are refused in STOPPED and during a SYNC recording, and outside the take. A request that changes nothing still brings the take time up to date and takes what it has reached (R174, R175).
That the request's own effect comes first is the model's reading (log 31), and that a refused PLAY_SEEK carries no field and the loop of a reply no pedal value is its choice (log 34), as is the byte of more than 255 passes (log 19).
That a set flag is sent as 1 is the model's choice (log 36). -/
def Obligations.SeekAndLoop : Prop :=
  ∀ (tag : Byte) (s : State), s.Serving →
    let c := s.ctl.closeWindow
    let u := c.bringUp
    let v := u.takeReached
    let moves := [Block.pool, .takes, .recorder, .player, .link]
    let looped := fun (c : Controller) =>
      match c.player.session.bind Session.loop with
      | some l => bytesLE 3 l.start ++ bytesLE 3 l.stop ++ codeByte l.count ++ passesByte l.passes ++ flagByte l.armed
      | none => absent 9
    (∀ p ls le count, u.player.session = none ∨ c.syncRecording = true →
      Replies (.playSeek tag p) 0xBC#8 tag s v .badState [] ∧
      Replies (.playLoop tag ls le count) 0xBD#8 tag s v .badState (looped v)) ∧
    Controller.Frame moves u v ∧ (u.playerState ≠ .playing → v = u) ∧ (u.playerState = .playing → v.CaughtUp) ∧
    ∀ x, u.player.session = some x → c.syncRecording = false →
      let rs := c.records x.slot
      let snapshot := fun (t q : Nat) =>
        ((rs.filter fun r => decide (r.kind = .pedal ∧ r.subject = q ∧ r.time < t)).getLast?.map TakeRec.value).getD 0
      let active := fun (l : Loop) => l.count = 0 ∨ l.passes < l.count
      (∀ p, c.length x.slot < p → Replies (.playSeek tag p) 0xBC#8 tag s v .badValue []) ∧
      (∀ p, p ≤ c.length x.slot →
        ∃ c', Replies (.playSeek tag p) 0xBC#8 tag s c' .ok
            (optLE 2 (c'.player.session.map fun y => y.cursor) ++ optLE 3 (c'.player.session.map fun y => y.time / 1000)
              ++ codeByte c'.playerState.code) ∧
          Controller.Frame moves c c' ∧
          (x.phase ≠ .paused false → x.phase ≠ .paused true → c'.CaughtUp) ∧
          let at' := fun (y : Session) => y.slot = x.slot ∧ y.time = p * 1000 ∧ y.remainder = 0 ∧ y.since = c.now ∧
            y.cursor = (rs.takeWhile fun r => decide (r.time < p)).length ∧
            y.loop = x.loop.map fun l => { l with armed := decide (active l ∧ p < l.stop) }
          let emptied := c'.takes = c.takes ∧ c'.recorder = c.recorder ∧
            (c'.player.damper, c'.player.sostenuto, c'.player.soft) = (snapshot p 0, snapshot p 1, snapshot p 2) ∧
            c'.player.engaged = decide (128 ≤ snapshot p 1) ∧ c'.player.keyDown = [] ∧ c'.player.held = [] ∧
            c'.player.expected = [] ∧ c'.player.consumed = [] ∧
            ∀ i n, c'.voice i = some n → n.source = .playback → n.fading = true
          (∀ w, x.phase = .paused w →
            emptied ∧ ∃ y, c'.player.session = some y ∧ y.phase = .paused false ∧ y.due = none ∧ at' y) ∧
          (x.phase = .playing ∨ x.phase = .waiting → (∀ r ∈ rs, r.time ≠ p) → p < c.length x.slot →
            rs.Pairwise (fun a b => a.time ≤ b.time) →
            emptied ∧ ∃ y, c'.player.session = some y ∧ y.phase = .playing ∧ at' y)) ∧
      (∀ ls count, x.loop = none → Replies (.playLoop tag ls 0 count) 0xBD#8 tag s v .already (absent 9)) ∧
      (∀ ls le count, le ≠ 0 → le ≤ ls ∨ c.length x.slot < le ∨ 99 < count →
        Replies (.playLoop tag ls le count) 0xBD#8 tag s v .badValue (looped v)) ∧
      (∀ ls le count l, le ≠ 0 → ls < le → le ≤ c.length x.slot → count ≤ 99 → x.loop = some l → l.start = ls →
        l.stop = le → l.count = count → Replies (.playLoop tag ls le count) 0xBD#8 tag s v .already (looped v)) ∧
      (∀ ls le count, (le = 0 ∧ x.loop ≠ none) ∨
          (le ≠ 0 ∧ ls < le ∧ le ≤ c.length x.slot ∧ count ≤ 99 ∧
            ∀ l, x.loop = some l → ¬ (l.start = ls ∧ l.stop = le ∧ l.count = count)) →
        let loop : Option Loop := if le = 0 then none else some
          { start := ls, stop := le, count := count, passes := 0, damper := snapshot ls 0, sostenuto := snapshot ls 1
            soft := snapshot ls 2, armed := decide (x.time < le * 1000) }
        ∃ c', Replies (.playLoop tag ls le count) 0xBD#8 tag s c' .ok (looped c') ∧ Controller.Frame moves c c' ∧
          (x.phase ≠ .playing → c' = u.setSession (some { x with loop := loop })) ∧
          (x.phase = .playing → c'.CaughtUp) ∧
          (x.phase = .playing → (∃ r, rs[x.cursor]? = some r ∧ x.time < r.time * 1000) → u.player.expected = [] →
            c'.takes = c.takes ∧ c'.recorder = c.recorder ∧ c'.pool = c.pool ∧
            ∃ d, c'.player = { u.player with session := some { x with loop := loop, due := some d } }))

/-- R176 to R178, R193: PLAY_TEMPO limits its value to 25..200 and counts stage time at the old tempo up to the request, the due timer afresh at the new one; PLAY_HANDS gives the hand settings, lowers the playback dampers of the hands now muted or guided, and ends a wait where more than the chord window changed: the expectation set is emptied, and from WAITING the Player is PLAYING from now, reported by PLAYER_STATE (R195), and takes what it has reached. In PLAYING, what the take time has reached is taken, whatever the answer (R174, R175).
That the request's own effect comes first is the model's reading (log 31), and so is the byte of the mute mask (log 17).
That a set flag is sent as 1 is the model's choice (log 36). -/
def Obligations.TempoAndHands : Prop :=
  ∀ (tag : Byte) (s : State), s.Serving →
    let c := s.ctl.closeWindow
    let u := c.bringUp
    let v := u.takeReached
    let moves := [Block.pool, .takes, .recorder, .player, .link]
    Controller.Frame moves u v ∧ (u.playerState ≠ .playing → v = u) ∧ (u.playerState = .playing → v.CaughtUp) ∧
    (∀ y, c.player.session = some y → y.phase = .playing → u = c.setSession (some { y with
      time := y.time + (elapsed c.now y.since * c.player.tempo + y.remainder) / 100
      remainder := (elapsed c.now y.since * c.player.tempo + y.remainder) % 100, since := c.now })) ∧
    (∀ t,
      let limited := max 25 (min 200 t)
      let fields := fun (c : Controller) =>
        bytesLE 2 limited ++ flagByte (decide (limited ≠ t)) ++ optLE 3 (c.player.session.map fun x => x.time / 1000)
      (limited = c.player.tempo → Replies (.playTempo tag t) 0xBE#8 tag s v .already (fields v)) ∧
      (limited ≠ c.player.tempo →
        ∃ c', Replies (.playTempo tag t) 0xBE#8 tag s c' .ok (fields c') ∧ Controller.Frame moves c c' ∧
          c'.player.tempo = limited ∧ c'.CaughtUp ∧
          (u.playerState ≠ .playing → c' = { u with player := { u.player with tempo := limited } }) ∧
          (∀ x, u.player.session = some x → x.phase = .playing → u.NothingDue x → ∃ d, c' = { u with player :=
            { u.player with tempo := limited, session := some { x with due := some d } } }))) ∧
    ∀ split mask guide window,
      let replies := Replies (.playHands tag split mask guide window) 0xBF#8 tag s
      let fields := fun (c : Controller) =>
        codeByte c.player.splitKey ++ codeByte (muteMask c.player) ++ codeByte c.player.guide.code
          ++ bytesLE 3 c.player.chordWindow ++ codeByte c.playerState.code
      (split < 1 ∨ 89 < split ∨ 250 < window ∨ 3 < guide → replies v .badValue (fields v)) ∧
      ∀ g : GuideHand, g.code = guide → 1 ≤ split → split ≤ 89 → window ≤ 250 →
        let ml := mask.testBit 0
        let mr := mask.testBit 1
        let hands := c.player.splitKey = split ∧ c.player.muteLeft = ml ∧ c.player.muteRight = mr ∧ c.player.guide = g
        let left := fun (k : Nat) => decide (k < split)
        let out := fun (k : Nat) => (if left k then ml else mr) ||
          (match g with | .none => false | .both => true | .left => left k | .right => !left k)
        (hands → c.player.chordWindow = window → replies v .already (fields v)) ∧
        (¬ (hands ∧ c.player.chordWindow = window) →
          ∃ c', replies c' .ok (fields c') ∧ Controller.Frame moves c c' ∧
            (c'.player.splitKey, c'.player.muteLeft, c'.player.muteRight, c'.player.guide, c'.player.chordWindow) =
              (split, ml, mr, g, window) ∧ c'.player.tempo = c.player.tempo ∧
            (u.player.session = none → c'.player.keyDown = c.player.keyDown ∧ c'.player.session = none) ∧
            (∀ x, u.player.session = some x →
              (x.phase = .playing → c'.CaughtUp) ∧
              ((x.phase = .playing → u.NothingDue x) → hands ∨ x.phase ≠ .waiting →
                c'.player.keyDown = c.player.keyDown.filter (fun k => !out k) ∧ c'.takes = c.takes ∧
                c'.recorder = c.recorder ∧ c'.player.held = c.player.held ∧
                (∀ i n, c'.voice i = some n → n.fading = false → n.source = .playback → n.key ∈ c.player.keyDown →
                  out n.key = true → (n.rateClass, n.rate) = c'.rateFor .playback n.key)) ∧
              ((x.phase = .playing → u.NothingDue x) → hands ∨ x.phase = .playing ∨ x.phase = .paused false →
                ∃ d, c'.player.session = some { x with due := d } ∧ (x.phase ≠ .playing → d = x.due) ∧
                  c'.player.expected = c.player.expected) ∧
              (¬ hands → x.phase = .paused true →
                c'.player.session = some { x with phase := .paused false } ∧ c'.player.expected = []) ∧
              (¬ hands → x.phase = .waiting → c'.CaughtUp ∧
                (c.link.mask.getLsbD 5 = true → c.link.queue.length < 60 →
                  { time := c.now, report := .playerState x.slot (x.time / 1000) .playing } ∈ c'.link.queue) ∧
                (x.loop = none → (∃ r, (c.records x.slot)[x.cursor]? = some r ∧ x.time < r.time * 1000) →
                  c'.takes = c.takes ∧ c'.recorder = c.recorder ∧
                  (∀ i n, c'.voice i = some n → n.fading = false → n.source = .playback → n.key ∈ c.player.keyDown →
                    out n.key = true → (n.rateClass, n.rate) = c'.rateFor .playback n.key) ∧
                  ∃ d, c'.player = { c.player with
                    splitKey := split, muteLeft := ml, muteRight := mr, guide := g, chordWindow := window, expected := []
                    keyDown := c.player.keyDown.filter (fun k => !out k)
                    session := some { x with phase := .playing, since := c.now, due := some d } }))))

/-- R191, R192: a guided STRIKE record expects its key and the key of every guided STRIKE record at or after the cursor within the chord window, below LE of an armed loop and not taken before, and their indices are consumed. In WAITING, a LIVE strike of an expected key removes it, the last one resuming play; any other is a GUIDE_MISS; in the other states the strike is not taken, and in PLAYING the take time is brought up to date and what it has reached is taken (R173 to R175).
That a LIVE strike in PLAYING does so (log 31), and that the search leaves out records already consumed (log 28), is the model's reading. -/
def Obligations.GuidedChords : Prop :=
  (∀ (c : Controller) (x : Session) (r : TakeRec), r.kind = .strike → c.player.guides r.subject = true →
    let rs := c.records x.slot
    let chord := fun (i : Nat) (q : TakeRec) => x.cursor ≤ i ∧ rs[i]? = some q ∧ q.kind = .strike ∧
      c.player.guides q.subject = true ∧ r.time ≤ q.time ∧ q.time ≤ r.time + c.player.chordWindow ∧
      (∀ l, x.loop = some l → l.armed = true → q.time < l.stop) ∧ i ∉ c.player.consumed
    let c' := c.applyRecord x r
    Controller.Frame [.player] c c' ∧ c'.player = { c.player with expected := c'.player.expected, consumed := c'.player.consumed } ∧
    (∀ k, k ∈ c'.player.expected ↔ k ∈ c.player.expected ∨ k = r.subject ∨ ∃ i q, chord i q ∧ q.subject = k) ∧
    (∀ i, i ∈ c'.player.consumed ↔ i ∈ c.player.consumed ∨ ∃ q, chord i q)) ∧
  ∀ (c : Controller) (k : Nat),
    let c' := c.guideStrike k
    (∀ x, c.player.session = some x → x.phase = .waiting →
      (k ∉ c.player.expected → c' = c.report (.guideMiss k c.player.expected.length)) ∧
      (k ∈ c.player.expected → (∃ j ∈ c.player.expected, j ≠ k) →
        c' = { c with player := { c.player with expected := c.player.expected.filter fun j => j != k } }) ∧
      (k ∈ c.player.expected → (∀ j ∈ c.player.expected, j = k) →
        Controller.Frame [.pool, .takes, .recorder, .player, .link] c c' ∧ c'.CaughtUp ∧
        (c.link.mask.getLsbD 5 = true → c.link.queue.length < 64 →
          { time := c.now, report := .playerState x.slot (x.time / 1000) .playing } ∈ c'.link.queue) ∧
        ((∃ r, (c.records x.slot)[x.cursor]? = some r ∧ x.time < r.time * 1000) → x.loop = none →
          ∃ d, c'.player = { c.player with
            expected := [], session := some { x with phase := .playing, since := c.now, due := some d } }))) ∧
    (c.playerState = .stopped ∨ c.playerState = .paused → c' = c) ∧
    (∀ x, c.player.session = some x → x.phase = .playing →
      let y := { x with
        time := x.time + (elapsed c.now x.since * c.player.tempo + x.remainder) / 100
        remainder := (elapsed c.now x.since * c.player.tempo + x.remainder) % 100, since := c.now }
      Controller.Frame [.pool, .takes, .recorder, .player, .link] c c' ∧ c'.CaughtUp ∧
      (c.NothingDue y → ∃ d, c' = c.setSession (some { y with due := some d })))

/-- R174, R175, R179 to R181, R184, R189, R190: the due timer's expiry takes whatever the take time has reached. With no guide and no loop, the due records are applied in order: the dampers, the pedals and the cursor follow them, a lone unmuted STRIKE sounds, and at the end of the take the Player stops with its END report and a SYNC recording ends. An armed loop at its end jumps to its start with a pass counted. -/
def Obligations.DueTimerTakesWhatIsReached : Prop :=
  ∀ (x : Session) (d : Time) (s : State), s.Running → s.ctl.clock.suspended = false → s.ctl.player.session = some x →
    x.phase = .playing → x.due = some d → (s.ctl.now - d).toNat < 2147483648 →
    let c := s.ctl
    let pl := c.player
    let sum := elapsed c.now x.since * pl.tempo + x.remainder
    let time := x.time + sum / 100
    let rs := c.records x.slot
    let due := (rs.drop x.cursor).takeWhile fun r => decide (r.time * 1000 ≤ time)
    let muted := fun (k : Nat) => if k < pl.splitKey then pl.muteLeft else pl.muteRight
    let dampers := due.foldl (fun ks r =>
      if muted r.subject then ks
      else match r.kind with
        | .strike | .damperUp => joinKey r.subject ks
        | .damperDown => leaveKey r.subject ks
        | .pedal | .mark => ks) pl.keyDown
    let pedalled := fun (p old : Nat) =>
      ((due.filter fun r => decide (r.kind = .pedal ∧ r.subject = p)).getLast?.map TakeRec.value).getD old
    let ended := rs.length ≤ x.cursor + due.length ∧ c.length x.slot * 1000 ≤ time
    ∃ c', Leaves .dueTimerExpiry s c' ∧ Controller.Frame [.pool, .takes, .recorder, .player, .link] c c' ∧ c'.CaughtUp ∧
      (pl.guide = .none → pl.expected = [] → pl.consumed = [] → x.loop = none → (∀ r ∈ due, r.kind = .pedal → r.subject ≤ 2) →
        (¬ ended → c'.takes = c.takes ∧ c'.recorder = c.recorder ∧
          (∃ deadline, c'.player.session = some { x with
            cursor := x.cursor + due.length, time := time, remainder := sum % 100, since := c.now, due := some deadline }) ∧
          c'.player.keyDown = dampers ∧
          (c'.player.damper, c'.player.sostenuto, c'.player.soft) =
            (pedalled 0 pl.damper, pedalled 1 pl.sostenuto, pedalled 2 pl.soft) ∧
          (∀ r, due = [r] → r.kind = .strike → muted r.subject = false → c.Sized → c.PoolOk →
            ∃ i n, c'.voice i = some n ∧ n.source = .playback ∧ n.key = r.subject ∧ n.level = r.value ∧
              n.fading = false ∧ n.start = c.now)) ∧
        (ended → c'.player = { pl with
            session := none, damper := 0, sostenuto := 0, soft := 0, engaged := false, keyDown := [], held := []
            expected := [], consumed := [] } ∧
          (∀ j, c.recorder.job = some j → j.mode = .sync → j.target ≠ x.slot → c'.recorder.job = none ∧
            c'.take j.target = settledTake .recorded (c.records j.target) (time / 1000)) ∧
          (due = [] → c.link.mask.getLsbD 5 = true → c.link.queue.length < 60 →
            { time := c.now, report := .playEnd x.slot (time / 1000) } ∈ c'.link.queue))) ∧
      (∀ l, pl.guide = .none → pl.expected = [] → x.loop = some l → l.armed = true → l.stop * 1000 ≤ time →
        rs.Pairwise (fun a b => a.time ≤ b.time) → (∀ r ∈ rs, r.time ≠ l.start) → l.start < c.length x.slot →
        c'.takes = c.takes ∧ c'.recorder = c.recorder ∧
        (c'.player.damper, c'.player.sostenuto, c'.player.soft) = (l.damper, l.sostenuto, l.soft) ∧
        c'.player.engaged = decide (128 ≤ l.sostenuto) ∧ c'.player.keyDown = [] ∧ c'.player.held = [] ∧
        c'.player.consumed = [] ∧ (∀ i n, c'.voice i = some n → n.source = .playback → n.fading = true) ∧
        ∃ deadline, c'.player.session = some
          { x with
            cursor := (rs.takeWhile fun r => decide (r.time < l.start)).length, time := l.start * 1000, remainder := 0
            since := c.now, due := some deadline
            loop := some { l with
              passes := l.passes + 1
              armed := decide ((l.count = 0 ∨ l.passes + 1 < l.count) ∧ l.start < l.stop) } })


/-! ### What every step keeps -/

/-- R8, R29, R43, R63, R107, R118, R199, R202: in every state that a step answers, whatever the command, the tables of fixed size keep their sizes, and the queues of the Link stay within their room and the drop count within 65,535. -/
def Obligations.SizesAndQueuesKept : Prop :=
  ∀ s t : State, Sys2Proof.Machine.step s = .next t →
    (s.ctl.Sized → t.ctl.Sized) ∧ (s.ctl.link.Bounded → t.ctl.link.Bounded)

/-- R42, R52, R54: every step keeps the debts within −8..+8 with a stale key at +8, the reference FIFO free of repeats and of groups that do not exist, and the examined keys of a calibration in key order within its group. -/
def Obligations.DebtsAndFifoKept : Prop :=
  ∀ s t : State, Sys2Proof.Machine.step s = .next t →
    (s.ctl.DebtsOk → t.ctl.DebtsOk) ∧ (s.ctl.trim.FifoOk → t.ctl.trim.FifoOk)

/-- R53, R82, R83, R101: every step keeps the motor running exactly in ENGAGING and DISENGAGING, and with that, no FULL calibration is in progress while the rail moves or settles. -/
def Obligations.MotionExcludesCalibration : Prop :=
  ∀ s t : State, Sys2Proof.Machine.step s = .next t → s.ctl.rail.Coupled →
    t.ctl.rail.Coupled ∧ (s.ctl.Exclusive → t.ctl.Exclusive)

/-- R71, R72, R173, R181: every step keeps the sostenuto sets empty while disengaged and free of repeats, the Player's sets empty in STOPPED, and the expectation set empty but in a wait. -/
def Obligations.KeySetsKept : Prop :=
  ∀ s t : State, Sys2Proof.Machine.step s = .next t → s.ctl.SetsOk → t.ctl.SetsOk

/-- R110, R112, R115, R116: every step keeps the LIVE reserve within 8..56, each partition's voices within its reserve, and at most one voice that is not FREE for a source and key. -/
def Obligations.PoolLimitsKept : Prop :=
  ∀ s t : State, Sys2Proof.Machine.step s = .next t → s.ctl.PoolOk → t.ctl.PoolOk

/-- The invariants hold right after the power-on reset of the model's reset state.
Its switch levels, the clear switch closed and the engaged switch open, are the model's choice (log 1). -/
def Obligations.InvariantsHoldAtReset : Prop :=
  let c := Sys2Proof.Machine.State.reset.ctl
  c.Sized ∧ c.link.Bounded ∧ c.DebtsOk ∧ c.trim.FifoOk ∧ c.rail.Coupled ∧ c.Exclusive ∧ c.SetsOk ∧ c.PoolOk ∧ c.CaughtUp

end
end

