-- ==== Sys2Proof/Laws/State.lean ====
section
/-! SUPPORT. One lemma per part and update: what an update of the controller leaves as it was, and what it puts there. -/

namespace Sys2Proof.Machine

variable (c : Controller)

/-! ### reportAt -/

@[simp] theorem Controller.reportAt_clock (t : Time) (r : Report) : (c.reportAt t r).clock = c.clock := rfl
@[simp] theorem Controller.reportAt_thresholds (t : Time) (r : Report) : (c.reportAt t r).thresholds = c.thresholds := rfl
@[simp] theorem Controller.reportAt_keys (t : Time) (r : Report) : (c.reportAt t r).keys = c.keys := rfl
@[simp] theorem Controller.reportAt_curves (t : Time) (r : Report) : (c.reportAt t r).curves = c.curves := rfl
@[simp] theorem Controller.reportAt_trim (t : Time) (r : Report) : (c.reportAt t r).trim = c.trim := rfl
@[simp] theorem Controller.reportAt_pedals (t : Time) (r : Report) : (c.reportAt t r).pedals = c.pedals := rfl
@[simp] theorem Controller.reportAt_rail (t : Time) (r : Report) : (c.reportAt t r).rail = c.rail := rfl
@[simp] theorem Controller.reportAt_pool (t : Time) (r : Report) : (c.reportAt t r).pool = c.pool := rfl
@[simp] theorem Controller.reportAt_phones (t : Time) (r : Report) : (c.reportAt t r).phones = c.phones := rfl
@[simp] theorem Controller.reportAt_takes (t : Time) (r : Report) : (c.reportAt t r).takes = c.takes := rfl
@[simp] theorem Controller.reportAt_recorder (t : Time) (r : Report) : (c.reportAt t r).recorder = c.recorder := rfl
@[simp] theorem Controller.reportAt_player (t : Time) (r : Report) : (c.reportAt t r).player = c.player := rfl
@[simp] theorem Controller.reportAt_inReset (t : Time) (r : Report) : (c.reportAt t r).inReset = c.inReset := rfl

/-! ### report -/

@[simp] theorem Controller.report_clock (r : Report) : (c.report r).clock = c.clock := rfl
@[simp] theorem Controller.report_thresholds (r : Report) : (c.report r).thresholds = c.thresholds := rfl
@[simp] theorem Controller.report_keys (r : Report) : (c.report r).keys = c.keys := rfl
@[simp] theorem Controller.report_curves (r : Report) : (c.report r).curves = c.curves := rfl
@[simp] theorem Controller.report_trim (r : Report) : (c.report r).trim = c.trim := rfl
@[simp] theorem Controller.report_pedals (r : Report) : (c.report r).pedals = c.pedals := rfl
@[simp] theorem Controller.report_rail (r : Report) : (c.report r).rail = c.rail := rfl
@[simp] theorem Controller.report_pool (r : Report) : (c.report r).pool = c.pool := rfl
@[simp] theorem Controller.report_phones (r : Report) : (c.report r).phones = c.phones := rfl
@[simp] theorem Controller.report_takes (r : Report) : (c.report r).takes = c.takes := rfl
@[simp] theorem Controller.report_recorder (r : Report) : (c.report r).recorder = c.recorder := rfl
@[simp] theorem Controller.report_player (r : Report) : (c.report r).player = c.player := rfl
@[simp] theorem Controller.report_inReset (r : Report) : (c.report r).inReset = c.inReset := rfl

/-! ### setKey -/

@[simp] theorem Controller.setKey_clock (k : Nat) (r : KeyRec) : (c.setKey k r).clock = c.clock := rfl
@[simp] theorem Controller.setKey_thresholds (k : Nat) (r : KeyRec) : (c.setKey k r).thresholds = c.thresholds := rfl
@[simp] theorem Controller.setKey_curves (k : Nat) (r : KeyRec) : (c.setKey k r).curves = c.curves := rfl
@[simp] theorem Controller.setKey_trim (k : Nat) (r : KeyRec) : (c.setKey k r).trim = c.trim := rfl
@[simp] theorem Controller.setKey_pedals (k : Nat) (r : KeyRec) : (c.setKey k r).pedals = c.pedals := rfl
@[simp] theorem Controller.setKey_rail (k : Nat) (r : KeyRec) : (c.setKey k r).rail = c.rail := rfl
@[simp] theorem Controller.setKey_pool (k : Nat) (r : KeyRec) : (c.setKey k r).pool = c.pool := rfl
@[simp] theorem Controller.setKey_phones (k : Nat) (r : KeyRec) : (c.setKey k r).phones = c.phones := rfl
@[simp] theorem Controller.setKey_takes (k : Nat) (r : KeyRec) : (c.setKey k r).takes = c.takes := rfl
@[simp] theorem Controller.setKey_recorder (k : Nat) (r : KeyRec) : (c.setKey k r).recorder = c.recorder := rfl
@[simp] theorem Controller.setKey_player (k : Nat) (r : KeyRec) : (c.setKey k r).player = c.player := rfl
@[simp] theorem Controller.setKey_link (k : Nat) (r : KeyRec) : (c.setKey k r).link = c.link := rfl
@[simp] theorem Controller.setKey_inReset (k : Nat) (r : KeyRec) : (c.setKey k r).inReset = c.inReset := rfl

/-! ### modKey -/

@[simp] theorem Controller.modKey_clock (k : Nat) (f : KeyRec → KeyRec) : (c.modKey k f).clock = c.clock := rfl
@[simp] theorem Controller.modKey_thresholds (k : Nat) (f : KeyRec → KeyRec) : (c.modKey k f).thresholds = c.thresholds := rfl
@[simp] theorem Controller.modKey_curves (k : Nat) (f : KeyRec → KeyRec) : (c.modKey k f).curves = c.curves := rfl
@[simp] theorem Controller.modKey_trim (k : Nat) (f : KeyRec → KeyRec) : (c.modKey k f).trim = c.trim := rfl
@[simp] theorem Controller.modKey_pedals (k : Nat) (f : KeyRec → KeyRec) : (c.modKey k f).pedals = c.pedals := rfl
@[simp] theorem Controller.modKey_rail (k : Nat) (f : KeyRec → KeyRec) : (c.modKey k f).rail = c.rail := rfl
@[simp] theorem Controller.modKey_pool (k : Nat) (f : KeyRec → KeyRec) : (c.modKey k f).pool = c.pool := rfl
@[simp] theorem Controller.modKey_phones (k : Nat) (f : KeyRec → KeyRec) : (c.modKey k f).phones = c.phones := rfl
@[simp] theorem Controller.modKey_takes (k : Nat) (f : KeyRec → KeyRec) : (c.modKey k f).takes = c.takes := rfl
@[simp] theorem Controller.modKey_recorder (k : Nat) (f : KeyRec → KeyRec) : (c.modKey k f).recorder = c.recorder := rfl
@[simp] theorem Controller.modKey_player (k : Nat) (f : KeyRec → KeyRec) : (c.modKey k f).player = c.player := rfl
@[simp] theorem Controller.modKey_link (k : Nat) (f : KeyRec → KeyRec) : (c.modKey k f).link = c.link := rfl
@[simp] theorem Controller.modKey_inReset (k : Nat) (f : KeyRec → KeyRec) : (c.modKey k f).inReset = c.inReset := rfl

/-! ### setUnit -/

@[simp] theorem Controller.setUnit_clock (g : Nat) (u : TrimUnit) : (c.setUnit g u).clock = c.clock := rfl
@[simp] theorem Controller.setUnit_thresholds (g : Nat) (u : TrimUnit) : (c.setUnit g u).thresholds = c.thresholds := rfl
@[simp] theorem Controller.setUnit_keys (g : Nat) (u : TrimUnit) : (c.setUnit g u).keys = c.keys := rfl
@[simp] theorem Controller.setUnit_curves (g : Nat) (u : TrimUnit) : (c.setUnit g u).curves = c.curves := rfl
@[simp] theorem Controller.setUnit_pedals (g : Nat) (u : TrimUnit) : (c.setUnit g u).pedals = c.pedals := rfl
@[simp] theorem Controller.setUnit_rail (g : Nat) (u : TrimUnit) : (c.setUnit g u).rail = c.rail := rfl
@[simp] theorem Controller.setUnit_pool (g : Nat) (u : TrimUnit) : (c.setUnit g u).pool = c.pool := rfl
@[simp] theorem Controller.setUnit_phones (g : Nat) (u : TrimUnit) : (c.setUnit g u).phones = c.phones := rfl
@[simp] theorem Controller.setUnit_takes (g : Nat) (u : TrimUnit) : (c.setUnit g u).takes = c.takes := rfl
@[simp] theorem Controller.setUnit_recorder (g : Nat) (u : TrimUnit) : (c.setUnit g u).recorder = c.recorder := rfl
@[simp] theorem Controller.setUnit_player (g : Nat) (u : TrimUnit) : (c.setUnit g u).player = c.player := rfl
@[simp] theorem Controller.setUnit_link (g : Nat) (u : TrimUnit) : (c.setUnit g u).link = c.link := rfl
@[simp] theorem Controller.setUnit_inReset (g : Nat) (u : TrimUnit) : (c.setUnit g u).inReset = c.inReset := rfl

/-! ### setPedal -/

@[simp] theorem Controller.setPedal_clock (p : Nat) (r : PedalRec) : (c.setPedal p r).clock = c.clock := rfl
@[simp] theorem Controller.setPedal_thresholds (p : Nat) (r : PedalRec) : (c.setPedal p r).thresholds = c.thresholds := rfl
@[simp] theorem Controller.setPedal_keys (p : Nat) (r : PedalRec) : (c.setPedal p r).keys = c.keys := rfl
@[simp] theorem Controller.setPedal_curves (p : Nat) (r : PedalRec) : (c.setPedal p r).curves = c.curves := rfl
@[simp] theorem Controller.setPedal_trim (p : Nat) (r : PedalRec) : (c.setPedal p r).trim = c.trim := rfl
@[simp] theorem Controller.setPedal_rail (p : Nat) (r : PedalRec) : (c.setPedal p r).rail = c.rail := rfl
@[simp] theorem Controller.setPedal_pool (p : Nat) (r : PedalRec) : (c.setPedal p r).pool = c.pool := rfl
@[simp] theorem Controller.setPedal_phones (p : Nat) (r : PedalRec) : (c.setPedal p r).phones = c.phones := rfl
@[simp] theorem Controller.setPedal_takes (p : Nat) (r : PedalRec) : (c.setPedal p r).takes = c.takes := rfl
@[simp] theorem Controller.setPedal_recorder (p : Nat) (r : PedalRec) : (c.setPedal p r).recorder = c.recorder := rfl
@[simp] theorem Controller.setPedal_player (p : Nat) (r : PedalRec) : (c.setPedal p r).player = c.player := rfl
@[simp] theorem Controller.setPedal_link (p : Nat) (r : PedalRec) : (c.setPedal p r).link = c.link := rfl
@[simp] theorem Controller.setPedal_inReset (p : Nat) (r : PedalRec) : (c.setPedal p r).inReset = c.inReset := rfl

/-! ### setVoice -/

@[simp] theorem Controller.setVoice_clock (i : Nat) (v : Option Note) : (c.setVoice i v).clock = c.clock := rfl
@[simp] theorem Controller.setVoice_thresholds (i : Nat) (v : Option Note) : (c.setVoice i v).thresholds = c.thresholds := rfl
@[simp] theorem Controller.setVoice_keys (i : Nat) (v : Option Note) : (c.setVoice i v).keys = c.keys := rfl
@[simp] theorem Controller.setVoice_curves (i : Nat) (v : Option Note) : (c.setVoice i v).curves = c.curves := rfl
@[simp] theorem Controller.setVoice_trim (i : Nat) (v : Option Note) : (c.setVoice i v).trim = c.trim := rfl
@[simp] theorem Controller.setVoice_pedals (i : Nat) (v : Option Note) : (c.setVoice i v).pedals = c.pedals := rfl
@[simp] theorem Controller.setVoice_rail (i : Nat) (v : Option Note) : (c.setVoice i v).rail = c.rail := rfl
@[simp] theorem Controller.setVoice_phones (i : Nat) (v : Option Note) : (c.setVoice i v).phones = c.phones := rfl
@[simp] theorem Controller.setVoice_takes (i : Nat) (v : Option Note) : (c.setVoice i v).takes = c.takes := rfl
@[simp] theorem Controller.setVoice_recorder (i : Nat) (v : Option Note) : (c.setVoice i v).recorder = c.recorder := rfl
@[simp] theorem Controller.setVoice_player (i : Nat) (v : Option Note) : (c.setVoice i v).player = c.player := rfl
@[simp] theorem Controller.setVoice_link (i : Nat) (v : Option Note) : (c.setVoice i v).link = c.link := rfl
@[simp] theorem Controller.setVoice_inReset (i : Nat) (v : Option Note) : (c.setVoice i v).inReset = c.inReset := rfl

/-! ### freeVoices -/

@[simp] theorem Controller.freeVoices_clock : (c.freeVoices).clock = c.clock := rfl
@[simp] theorem Controller.freeVoices_thresholds : (c.freeVoices).thresholds = c.thresholds := rfl
@[simp] theorem Controller.freeVoices_keys : (c.freeVoices).keys = c.keys := rfl
@[simp] theorem Controller.freeVoices_curves : (c.freeVoices).curves = c.curves := rfl
@[simp] theorem Controller.freeVoices_trim : (c.freeVoices).trim = c.trim := rfl
@[simp] theorem Controller.freeVoices_pedals : (c.freeVoices).pedals = c.pedals := rfl
@[simp] theorem Controller.freeVoices_rail : (c.freeVoices).rail = c.rail := rfl
@[simp] theorem Controller.freeVoices_phones : (c.freeVoices).phones = c.phones := rfl
@[simp] theorem Controller.freeVoices_takes : (c.freeVoices).takes = c.takes := rfl
@[simp] theorem Controller.freeVoices_recorder : (c.freeVoices).recorder = c.recorder := rfl
@[simp] theorem Controller.freeVoices_player : (c.freeVoices).player = c.player := rfl
@[simp] theorem Controller.freeVoices_link : (c.freeVoices).link = c.link := rfl
@[simp] theorem Controller.freeVoices_inReset : (c.freeVoices).inReset = c.inReset := rfl

/-! ### setRail -/

@[simp] theorem Controller.setRail_clock (r : Rail) : (c.setRail r).clock = c.clock := rfl
@[simp] theorem Controller.setRail_thresholds (r : Rail) : (c.setRail r).thresholds = c.thresholds := rfl
@[simp] theorem Controller.setRail_keys (r : Rail) : (c.setRail r).keys = c.keys := rfl
@[simp] theorem Controller.setRail_curves (r : Rail) : (c.setRail r).curves = c.curves := rfl
@[simp] theorem Controller.setRail_trim (r : Rail) : (c.setRail r).trim = c.trim := rfl
@[simp] theorem Controller.setRail_pedals (r : Rail) : (c.setRail r).pedals = c.pedals := rfl
@[simp] theorem Controller.setRail_pool (r : Rail) : (c.setRail r).pool = c.pool := rfl
@[simp] theorem Controller.setRail_phones (r : Rail) : (c.setRail r).phones = c.phones := rfl
@[simp] theorem Controller.setRail_takes (r : Rail) : (c.setRail r).takes = c.takes := rfl
@[simp] theorem Controller.setRail_recorder (r : Rail) : (c.setRail r).recorder = c.recorder := rfl
@[simp] theorem Controller.setRail_player (r : Rail) : (c.setRail r).player = c.player := rfl
@[simp] theorem Controller.setRail_link (r : Rail) : (c.setRail r).link = c.link := rfl
@[simp] theorem Controller.setRail_inReset (r : Rail) : (c.setRail r).inReset = c.inReset := rfl

/-! ### setSession -/

@[simp] theorem Controller.setSession_clock (s : Option Session) : (c.setSession s).clock = c.clock := rfl
@[simp] theorem Controller.setSession_thresholds (s : Option Session) : (c.setSession s).thresholds = c.thresholds := rfl
@[simp] theorem Controller.setSession_keys (s : Option Session) : (c.setSession s).keys = c.keys := rfl
@[simp] theorem Controller.setSession_curves (s : Option Session) : (c.setSession s).curves = c.curves := rfl
@[simp] theorem Controller.setSession_trim (s : Option Session) : (c.setSession s).trim = c.trim := rfl
@[simp] theorem Controller.setSession_pedals (s : Option Session) : (c.setSession s).pedals = c.pedals := rfl
@[simp] theorem Controller.setSession_rail (s : Option Session) : (c.setSession s).rail = c.rail := rfl
@[simp] theorem Controller.setSession_pool (s : Option Session) : (c.setSession s).pool = c.pool := rfl
@[simp] theorem Controller.setSession_phones (s : Option Session) : (c.setSession s).phones = c.phones := rfl
@[simp] theorem Controller.setSession_takes (s : Option Session) : (c.setSession s).takes = c.takes := rfl
@[simp] theorem Controller.setSession_recorder (s : Option Session) : (c.setSession s).recorder = c.recorder := rfl
@[simp] theorem Controller.setSession_link (s : Option Session) : (c.setSession s).link = c.link := rfl
@[simp] theorem Controller.setSession_inReset (s : Option Session) : (c.setSession s).inReset = c.inReset := rfl

/-! ### modPhones -/

@[simp] theorem Controller.modPhones_clock (f : HeadphonePath → HeadphonePath) : (c.modPhones f).clock = c.clock := rfl
@[simp] theorem Controller.modPhones_thresholds (f : HeadphonePath → HeadphonePath) : (c.modPhones f).thresholds = c.thresholds := rfl
@[simp] theorem Controller.modPhones_keys (f : HeadphonePath → HeadphonePath) : (c.modPhones f).keys = c.keys := rfl
@[simp] theorem Controller.modPhones_curves (f : HeadphonePath → HeadphonePath) : (c.modPhones f).curves = c.curves := rfl
@[simp] theorem Controller.modPhones_trim (f : HeadphonePath → HeadphonePath) : (c.modPhones f).trim = c.trim := rfl
@[simp] theorem Controller.modPhones_pedals (f : HeadphonePath → HeadphonePath) : (c.modPhones f).pedals = c.pedals := rfl
@[simp] theorem Controller.modPhones_rail (f : HeadphonePath → HeadphonePath) : (c.modPhones f).rail = c.rail := rfl
@[simp] theorem Controller.modPhones_pool (f : HeadphonePath → HeadphonePath) : (c.modPhones f).pool = c.pool := rfl
@[simp] theorem Controller.modPhones_takes (f : HeadphonePath → HeadphonePath) : (c.modPhones f).takes = c.takes := rfl
@[simp] theorem Controller.modPhones_recorder (f : HeadphonePath → HeadphonePath) : (c.modPhones f).recorder = c.recorder := rfl
@[simp] theorem Controller.modPhones_player (f : HeadphonePath → HeadphonePath) : (c.modPhones f).player = c.player := rfl
@[simp] theorem Controller.modPhones_link (f : HeadphonePath → HeadphonePath) : (c.modPhones f).link = c.link := rfl
@[simp] theorem Controller.modPhones_inReset (f : HeadphonePath → HeadphonePath) : (c.modPhones f).inReset = c.inReset := rfl

/-! ### pushReply -/

@[simp] theorem Controller.pushReply_clock (kind tag : Byte) (a : Answer) : (c.pushReply kind tag a).clock = c.clock := rfl
@[simp] theorem Controller.pushReply_thresholds (kind tag : Byte) (a : Answer) : (c.pushReply kind tag a).thresholds = c.thresholds := rfl
@[simp] theorem Controller.pushReply_keys (kind tag : Byte) (a : Answer) : (c.pushReply kind tag a).keys = c.keys := rfl
@[simp] theorem Controller.pushReply_curves (kind tag : Byte) (a : Answer) : (c.pushReply kind tag a).curves = c.curves := rfl
@[simp] theorem Controller.pushReply_trim (kind tag : Byte) (a : Answer) : (c.pushReply kind tag a).trim = c.trim := rfl
@[simp] theorem Controller.pushReply_pedals (kind tag : Byte) (a : Answer) : (c.pushReply kind tag a).pedals = c.pedals := rfl
@[simp] theorem Controller.pushReply_rail (kind tag : Byte) (a : Answer) : (c.pushReply kind tag a).rail = c.rail := rfl
@[simp] theorem Controller.pushReply_pool (kind tag : Byte) (a : Answer) : (c.pushReply kind tag a).pool = c.pool := rfl
@[simp] theorem Controller.pushReply_phones (kind tag : Byte) (a : Answer) : (c.pushReply kind tag a).phones = c.phones := rfl
@[simp] theorem Controller.pushReply_takes (kind tag : Byte) (a : Answer) : (c.pushReply kind tag a).takes = c.takes := rfl
@[simp] theorem Controller.pushReply_recorder (kind tag : Byte) (a : Answer) : (c.pushReply kind tag a).recorder = c.recorder := rfl
@[simp] theorem Controller.pushReply_player (kind tag : Byte) (a : Answer) : (c.pushReply kind tag a).player = c.player := rfl
@[simp] theorem Controller.pushReply_inReset (kind tag : Byte) (a : Answer) : (c.pushReply kind tag a).inReset = c.inReset := rfl

/-! ### wakeBegin -/

@[simp] theorem Controller.wakeBegin_clock (src : WakeSource) : (c.wakeBegin src).clock = c.clock := rfl
@[simp] theorem Controller.wakeBegin_thresholds (src : WakeSource) : (c.wakeBegin src).thresholds = c.thresholds := rfl
@[simp] theorem Controller.wakeBegin_keys (src : WakeSource) : (c.wakeBegin src).keys = c.keys := rfl
@[simp] theorem Controller.wakeBegin_curves (src : WakeSource) : (c.wakeBegin src).curves = c.curves := rfl
@[simp] theorem Controller.wakeBegin_trim (src : WakeSource) : (c.wakeBegin src).trim = c.trim := rfl
@[simp] theorem Controller.wakeBegin_pedals (src : WakeSource) : (c.wakeBegin src).pedals = c.pedals := rfl
@[simp] theorem Controller.wakeBegin_rail (src : WakeSource) : (c.wakeBegin src).rail = c.rail := rfl
@[simp] theorem Controller.wakeBegin_pool (src : WakeSource) : (c.wakeBegin src).pool = c.pool := rfl
@[simp] theorem Controller.wakeBegin_phones (src : WakeSource) : (c.wakeBegin src).phones = c.phones := rfl
@[simp] theorem Controller.wakeBegin_takes (src : WakeSource) : (c.wakeBegin src).takes = c.takes := rfl
@[simp] theorem Controller.wakeBegin_recorder (src : WakeSource) : (c.wakeBegin src).recorder = c.recorder := rfl
@[simp] theorem Controller.wakeBegin_player (src : WakeSource) : (c.wakeBegin src).player = c.player := rfl
@[simp] theorem Controller.wakeBegin_inReset (src : WakeSource) : (c.wakeBegin src).inReset = c.inReset := rfl

/-! ### trimSync -/

@[simp] theorem Controller.trimSync_clock : (c.trimSync).clock = c.clock := rfl
@[simp] theorem Controller.trimSync_thresholds : (c.trimSync).thresholds = c.thresholds := rfl
@[simp] theorem Controller.trimSync_keys : (c.trimSync).keys = c.keys := rfl
@[simp] theorem Controller.trimSync_curves : (c.trimSync).curves = c.curves := rfl
@[simp] theorem Controller.trimSync_pedals : (c.trimSync).pedals = c.pedals := rfl
@[simp] theorem Controller.trimSync_rail : (c.trimSync).rail = c.rail := rfl
@[simp] theorem Controller.trimSync_pool : (c.trimSync).pool = c.pool := rfl
@[simp] theorem Controller.trimSync_phones : (c.trimSync).phones = c.phones := rfl
@[simp] theorem Controller.trimSync_takes : (c.trimSync).takes = c.takes := rfl
@[simp] theorem Controller.trimSync_recorder : (c.trimSync).recorder = c.recorder := rfl
@[simp] theorem Controller.trimSync_player : (c.trimSync).player = c.player := rfl
@[simp] theorem Controller.trimSync_link : (c.trimSync).link = c.link := rfl
@[simp] theorem Controller.trimSync_inReset : (c.trimSync).inReset = c.inReset := rfl

/-! ### startRounds -/

@[simp] theorem Controller.startRounds_clock : (c.startRounds).clock = c.clock := rfl
@[simp] theorem Controller.startRounds_thresholds : (c.startRounds).thresholds = c.thresholds := rfl
@[simp] theorem Controller.startRounds_keys : (c.startRounds).keys = c.keys := rfl
@[simp] theorem Controller.startRounds_curves : (c.startRounds).curves = c.curves := rfl
@[simp] theorem Controller.startRounds_pedals : (c.startRounds).pedals = c.pedals := rfl
@[simp] theorem Controller.startRounds_rail : (c.startRounds).rail = c.rail := rfl
@[simp] theorem Controller.startRounds_pool : (c.startRounds).pool = c.pool := rfl
@[simp] theorem Controller.startRounds_phones : (c.startRounds).phones = c.phones := rfl
@[simp] theorem Controller.startRounds_takes : (c.startRounds).takes = c.takes := rfl
@[simp] theorem Controller.startRounds_recorder : (c.startRounds).recorder = c.recorder := rfl
@[simp] theorem Controller.startRounds_player : (c.startRounds).player = c.player := rfl
@[simp] theorem Controller.startRounds_link : (c.startRounds).link = c.link := rfl
@[simp] theorem Controller.startRounds_inReset : (c.startRounds).inReset = c.inReset := rfl

/-! ### setPlayPedals -/

@[simp] theorem Controller.setPlayPedals_clock (d n f : Nat) : (c.setPlayPedals d n f).clock = c.clock := rfl
@[simp] theorem Controller.setPlayPedals_thresholds (d n f : Nat) : (c.setPlayPedals d n f).thresholds = c.thresholds := rfl
@[simp] theorem Controller.setPlayPedals_keys (d n f : Nat) : (c.setPlayPedals d n f).keys = c.keys := rfl
@[simp] theorem Controller.setPlayPedals_curves (d n f : Nat) : (c.setPlayPedals d n f).curves = c.curves := rfl
@[simp] theorem Controller.setPlayPedals_trim (d n f : Nat) : (c.setPlayPedals d n f).trim = c.trim := rfl
@[simp] theorem Controller.setPlayPedals_pedals (d n f : Nat) : (c.setPlayPedals d n f).pedals = c.pedals := rfl
@[simp] theorem Controller.setPlayPedals_rail (d n f : Nat) : (c.setPlayPedals d n f).rail = c.rail := rfl
@[simp] theorem Controller.setPlayPedals_pool (d n f : Nat) : (c.setPlayPedals d n f).pool = c.pool := rfl
@[simp] theorem Controller.setPlayPedals_phones (d n f : Nat) : (c.setPlayPedals d n f).phones = c.phones := rfl
@[simp] theorem Controller.setPlayPedals_takes (d n f : Nat) : (c.setPlayPedals d n f).takes = c.takes := rfl
@[simp] theorem Controller.setPlayPedals_recorder (d n f : Nat) : (c.setPlayPedals d n f).recorder = c.recorder := rfl
@[simp] theorem Controller.setPlayPedals_link (d n f : Nat) : (c.setPlayPedals d n f).link = c.link := rfl
@[simp] theorem Controller.setPlayPedals_inReset (d n f : Nat) : (c.setPlayPedals d n f).inReset = c.inReset := rfl

/-! ### reportState -/

@[simp] theorem Controller.reportState_clock (s : Session) (d : PlayerDetail) : (c.reportState s d).clock = c.clock := rfl
@[simp] theorem Controller.reportState_thresholds (s : Session) (d : PlayerDetail) : (c.reportState s d).thresholds = c.thresholds := rfl
@[simp] theorem Controller.reportState_keys (s : Session) (d : PlayerDetail) : (c.reportState s d).keys = c.keys := rfl
@[simp] theorem Controller.reportState_curves (s : Session) (d : PlayerDetail) : (c.reportState s d).curves = c.curves := rfl
@[simp] theorem Controller.reportState_trim (s : Session) (d : PlayerDetail) : (c.reportState s d).trim = c.trim := rfl
@[simp] theorem Controller.reportState_pedals (s : Session) (d : PlayerDetail) : (c.reportState s d).pedals = c.pedals := rfl
@[simp] theorem Controller.reportState_rail (s : Session) (d : PlayerDetail) : (c.reportState s d).rail = c.rail := rfl
@[simp] theorem Controller.reportState_pool (s : Session) (d : PlayerDetail) : (c.reportState s d).pool = c.pool := rfl
@[simp] theorem Controller.reportState_phones (s : Session) (d : PlayerDetail) : (c.reportState s d).phones = c.phones := rfl
@[simp] theorem Controller.reportState_takes (s : Session) (d : PlayerDetail) : (c.reportState s d).takes = c.takes := rfl
@[simp] theorem Controller.reportState_recorder (s : Session) (d : PlayerDetail) : (c.reportState s d).recorder = c.recorder := rfl
@[simp] theorem Controller.reportState_player (s : Session) (d : PlayerDetail) : (c.reportState s d).player = c.player := rfl
@[simp] theorem Controller.reportState_inReset (s : Session) (d : PlayerDetail) : (c.reportState s d).inReset = c.inReset := rfl

/-! ### railReport -/

@[simp] theorem Controller.railReport_clock (d : Bool) : (c.railReport d).clock = c.clock := rfl
@[simp] theorem Controller.railReport_thresholds (d : Bool) : (c.railReport d).thresholds = c.thresholds := rfl
@[simp] theorem Controller.railReport_keys (d : Bool) : (c.railReport d).keys = c.keys := rfl
@[simp] theorem Controller.railReport_curves (d : Bool) : (c.railReport d).curves = c.curves := rfl
@[simp] theorem Controller.railReport_trim (d : Bool) : (c.railReport d).trim = c.trim := rfl
@[simp] theorem Controller.railReport_pedals (d : Bool) : (c.railReport d).pedals = c.pedals := rfl
@[simp] theorem Controller.railReport_rail (d : Bool) : (c.railReport d).rail = c.rail := rfl
@[simp] theorem Controller.railReport_pool (d : Bool) : (c.railReport d).pool = c.pool := rfl
@[simp] theorem Controller.railReport_phones (d : Bool) : (c.railReport d).phones = c.phones := rfl
@[simp] theorem Controller.railReport_takes (d : Bool) : (c.railReport d).takes = c.takes := rfl
@[simp] theorem Controller.railReport_recorder (d : Bool) : (c.railReport d).recorder = c.recorder := rfl
@[simp] theorem Controller.railReport_player (d : Bool) : (c.railReport d).player = c.player := rfl
@[simp] theorem Controller.railReport_inReset (d : Bool) : (c.railReport d).inReset = c.inReset := rfl

/-! ### setTake and closeWindow -/

@[simp] theorem Controller.setTake_clock (s : Slot) (t : Option Take) : (c.setTake s t).clock = c.clock := by
  cases s <;> rfl
@[simp] theorem Controller.setTake_thresholds (s : Slot) (t : Option Take) : (c.setTake s t).thresholds = c.thresholds := by
  cases s <;> rfl
@[simp] theorem Controller.setTake_keys (s : Slot) (t : Option Take) : (c.setTake s t).keys = c.keys := by
  cases s <;> rfl
@[simp] theorem Controller.setTake_curves (s : Slot) (t : Option Take) : (c.setTake s t).curves = c.curves := by
  cases s <;> rfl
@[simp] theorem Controller.setTake_trim (s : Slot) (t : Option Take) : (c.setTake s t).trim = c.trim := by
  cases s <;> rfl
@[simp] theorem Controller.setTake_pedals (s : Slot) (t : Option Take) : (c.setTake s t).pedals = c.pedals := by
  cases s <;> rfl
@[simp] theorem Controller.setTake_rail (s : Slot) (t : Option Take) : (c.setTake s t).rail = c.rail := by
  cases s <;> rfl
@[simp] theorem Controller.setTake_pool (s : Slot) (t : Option Take) : (c.setTake s t).pool = c.pool := by
  cases s <;> rfl
@[simp] theorem Controller.setTake_phones (s : Slot) (t : Option Take) : (c.setTake s t).phones = c.phones := by
  cases s <;> rfl
@[simp] theorem Controller.setTake_recorder (s : Slot) (t : Option Take) : (c.setTake s t).recorder = c.recorder := by
  cases s <;> rfl
@[simp] theorem Controller.setTake_player (s : Slot) (t : Option Take) : (c.setTake s t).player = c.player := by
  cases s <;> rfl
@[simp] theorem Controller.setTake_link (s : Slot) (t : Option Take) : (c.setTake s t).link = c.link := by
  cases s <;> rfl
@[simp] theorem Controller.setTake_inReset (s : Slot) (t : Option Take) : (c.setTake s t).inReset = c.inReset := by
  cases s <;> rfl
@[simp] theorem Controller.closeWindow_clock : c.closeWindow.clock = c.clock := by
  unfold Controller.closeWindow; split
  · rfl
  · dsimp only; split <;> simp
@[simp] theorem Controller.closeWindow_thresholds : c.closeWindow.thresholds = c.thresholds := by
  unfold Controller.closeWindow; split
  · rfl
  · dsimp only; split <;> simp
@[simp] theorem Controller.closeWindow_keys : c.closeWindow.keys = c.keys := by
  unfold Controller.closeWindow; split
  · rfl
  · dsimp only; split <;> simp
@[simp] theorem Controller.closeWindow_curves : c.closeWindow.curves = c.curves := by
  unfold Controller.closeWindow; split
  · rfl
  · dsimp only; split <;> simp
@[simp] theorem Controller.closeWindow_trim : c.closeWindow.trim = c.trim := by
  unfold Controller.closeWindow; split
  · rfl
  · dsimp only; split <;> simp
@[simp] theorem Controller.closeWindow_pedals : c.closeWindow.pedals = c.pedals := by
  unfold Controller.closeWindow; split
  · rfl
  · dsimp only; split <;> simp
@[simp] theorem Controller.closeWindow_rail : c.closeWindow.rail = c.rail := by
  unfold Controller.closeWindow; split
  · rfl
  · dsimp only; split <;> simp
@[simp] theorem Controller.closeWindow_pool : c.closeWindow.pool = c.pool := by
  unfold Controller.closeWindow; split
  · rfl
  · dsimp only; split <;> simp
@[simp] theorem Controller.closeWindow_phones : c.closeWindow.phones = c.phones := by
  unfold Controller.closeWindow; split
  · rfl
  · dsimp only; split <;> simp
@[simp] theorem Controller.closeWindow_recorder : c.closeWindow.recorder = c.recorder := by
  unfold Controller.closeWindow; split
  · rfl
  · dsimp only; split <;> simp
@[simp] theorem Controller.closeWindow_player : c.closeWindow.player = c.player := by
  unfold Controller.closeWindow; split
  · rfl
  · dsimp only; split <;> simp
@[simp] theorem Controller.closeWindow_link : c.closeWindow.link = c.link := by
  unfold Controller.closeWindow; split
  · rfl
  · dsimp only; split <;> simp
@[simp] theorem Controller.closeWindow_inReset : c.closeWindow.inReset = c.inReset := by
  unfold Controller.closeWindow; split
  · rfl
  · dsimp only; split <;> simp

/-! ### What the updates put there -/

@[simp] theorem Controller.setKey_keys (k : Nat) (r : KeyRec) : (c.setKey k r).keys = c.keys.set (k - 1) r := rfl

@[simp] theorem Controller.setRail_rail (r : Rail) : (c.setRail r).rail = r := rfl

@[simp] theorem Controller.setSession_session (s : Option Session) : (c.setSession s).player.session = s := rfl

@[simp] theorem Controller.modPhones_phones (f : HeadphonePath → HeadphonePath) : (c.modPhones f).phones = f c.phones := rfl

@[simp] theorem Controller.reportAt_link (t : Time) (r : Report) :
    (c.reportAt t r).link = c.link.place { time := t, report := r } := rfl

@[simp] theorem Controller.report_link (r : Report) : (c.report r).link = c.link.place { time := c.now, report := r } := rfl

@[simp] theorem Controller.pushReply_link (kind tag : Byte) (a : Answer) : (c.pushReply kind tag a).link =
    { c.link with replies := c.link.replies ++ [{ kind := kind, tag := tag, code := a.code, fields := a.fields }] } := rfl

@[simp] theorem Controller.setTake_take (s : Slot) (t : Option Take) : (c.setTake s t).take s = t := by cases s <;> rfl

/-- Key k reads back what was written to it. -/
theorem Controller.setKey_key {k : Nat} (h : 1 ≤ k ∧ k ≤ c.keys.length) (r : KeyRec) : (c.setKey k r).key k = r := by
  simp only [Controller.key, Controller.setKey_keys]
  rw [List.getElem?_set_self (by omega)]
  rfl

/-- A write to key k leaves the other keys. -/
theorem Controller.setKey_key_other {j k : Nat} (hj : 1 ≤ j) (hk : 1 ≤ k) (h : j ≠ k) (r : KeyRec) :
    (c.setKey k r).key j = c.key j := by
  simp only [Controller.key, Controller.setKey_keys]
  rw [List.getElem?_set_ne (by omega)]

/-- Writing a key keeps the size of the Key Table. -/
theorem Controller.setKey_length (k : Nat) (r : KeyRec) : (c.setKey k r).keys.length = c.keys.length := by simp

/-- A pedal reads back what was written to it. -/
theorem Controller.setPedal_pedal {p : Nat} (h : p < c.pedals.recs.length) (r : PedalRec) :
    (c.setPedal p r).pedal p = r := by
  simp only [Controller.pedal, Controller.setPedal]
  rw [List.getElem?_set_self h]
  rfl

/-- A voice reads back what was written to it. -/
theorem Controller.setVoice_voice {i : Nat} (h : i < c.pool.voices.length) (v : Option Note) :
    (c.setVoice i v).voice i = v := by
  simp only [Controller.voice, Controller.setVoice]
  rw [List.getElem?_set_self h]
  rfl

/-! ### Placing a report (R202) -/

@[simp] theorem Link.place_state (l : Link) (q : QueuedReport) : (l.place q).state = l.state := by
  unfold Link.place; split <;> [split; skip] <;> rfl

@[simp] theorem Link.place_replies (l : Link) (q : QueuedReport) : (l.place q).replies = l.replies := by
  unfold Link.place; split <;> [split; skip] <;> rfl

@[simp] theorem Link.place_input (l : Link) (q : QueuedReport) : (l.place q).input = l.input := by
  unfold Link.place; split <;> [split; skip] <;> rfl

@[simp] theorem Link.place_busy (l : Link) (q : QueuedReport) : (l.place q).busy = l.busy := by
  unfold Link.place; split <;> [split; skip] <;> rfl

@[simp] theorem Link.place_line (l : Link) (q : QueuedReport) : (l.place q).line = l.line := by
  unfold Link.place; split <;> [split; skip] <;> rfl

@[simp] theorem Link.place_mask (l : Link) (q : QueuedReport) : (l.place q).mask = l.mask := by
  unfold Link.place; split <;> [split; skip] <;> rfl

/-- A queue within its room stays within it. -/
theorem Link.place_bounded {l : Link} (h : l.Bounded) (q : QueuedReport) : (l.place q).Bounded := by
  obtain ⟨h1, h2, h3, h4⟩ := h
  unfold Link.place
  split
  · split
    · rename_i h5
      exact ⟨h1, h2, by simp [queueRoom] at h5 ⊢; omega, h4⟩
    · exact ⟨h1, h2, h3, by dsimp only; split <;> omega⟩
  · exact ⟨h1, h2, h3, h4⟩

end Sys2Proof.Machine
end

