-- ==== Sys2Proof/Laws/Frames.lean ====
section
/-! SUPPORT. For each shared operation, once, which parts of the controller it may touch; everything else it leaves as it was. -/

namespace Sys2Proof.Machine

namespace Controller.Frame

variable {bs : List Block} {a b c : Controller}

theorem refl (bs : List Block) (a : Controller) : Controller.Frame bs a a := fun x _ => by cases x <;> rfl

theorem trans (h : Controller.Frame bs a b) (k : Controller.Frame bs b c) : Controller.Frame bs a c := fun x hx => by
  have h1 := h x hx
  have h2 := k x hx
  cases x <;> exact Eq.trans h2 h1

/-- A change that touches fewer parts touches no more than these. -/
theorem widen {ds : List Block} (h : Controller.Frame ds a b) (sub : ∀ x ∈ ds, x ∈ bs) : Controller.Frame bs a b :=
  fun x hx => h x fun m => hx (sub x m)

/-- A frame from the parts that the change leaves. -/
theorem of_same (h : ∀ x : Block, x ∈ bs ∨ x.same a b) : Controller.Frame bs a b := fun x hx =>
  (h x).resolve_left hx

theorem clock (h : Controller.Frame bs a b) (m : Block.clock ∉ bs) : b.clock = a.clock := h .clock m
theorem thresholds (h : Controller.Frame bs a b) (m : Block.thresholds ∉ bs) : b.thresholds = a.thresholds := h .thresholds m
theorem keys (h : Controller.Frame bs a b) (m : Block.keys ∉ bs) : b.keys = a.keys := h .keys m
theorem curves (h : Controller.Frame bs a b) (m : Block.curves ∉ bs) : b.curves = a.curves := h .curves m
theorem trim (h : Controller.Frame bs a b) (m : Block.trim ∉ bs) : b.trim = a.trim := h .trim m
theorem pedals (h : Controller.Frame bs a b) (m : Block.pedals ∉ bs) : b.pedals = a.pedals := h .pedals m
theorem rail (h : Controller.Frame bs a b) (m : Block.rail ∉ bs) : b.rail = a.rail := h .rail m
theorem pool (h : Controller.Frame bs a b) (m : Block.pool ∉ bs) : b.pool = a.pool := h .pool m
theorem phones (h : Controller.Frame bs a b) (m : Block.phones ∉ bs) : b.phones = a.phones := h .phones m
theorem takes (h : Controller.Frame bs a b) (m : Block.takes ∉ bs) : b.takes = a.takes := h .takes m
theorem recorder (h : Controller.Frame bs a b) (m : Block.recorder ∉ bs) : b.recorder = a.recorder := h .recorder m
theorem player (h : Controller.Frame bs a b) (m : Block.player ∉ bs) : b.player = a.player := h .player m
theorem link (h : Controller.Frame bs a b) (m : Block.link ∉ bs) : b.link = a.link := h .link m
theorem inReset (h : Controller.Frame bs a b) (m : Block.held ∉ bs) : b.inReset = a.inReset := h .held m

end Controller.Frame

namespace Controller

variable (c : Controller)

/-! ### Updates of one part -/

theorem reportAt_frame (t : Time) (r : Report) : Frame [.link] c (c.reportAt t r) := .of_same fun x => by
  cases x <;> simp [Block.same]

theorem report_frame (r : Report) : Frame [.link] c (c.report r) := c.reportAt_frame c.now r

theorem setKey_frame (k : Nat) (r : KeyRec) : Frame [.keys] c (c.setKey k r) := .of_same fun x => by
  cases x <;> simp [Block.same]

theorem modKey_frame (k : Nat) (f : KeyRec → KeyRec) : Frame [.keys] c (c.modKey k f) := c.setKey_frame k _

theorem setUnit_frame (g : Nat) (u : TrimUnit) : Frame [.trim] c (c.setUnit g u) := .of_same fun x => by
  cases x <;> simp [Block.same]

theorem setPedal_frame (p : Nat) (r : PedalRec) : Frame [.pedals] c (c.setPedal p r) := .of_same fun x => by
  cases x <;> simp [Block.same]

theorem setVoice_frame (i : Nat) (v : Option Note) : Frame [.pool] c (c.setVoice i v) := .of_same fun x => by
  cases x <;> simp [Block.same]

theorem setRail_frame (r : Rail) : Frame [.rail] c (c.setRail r) := .of_same fun x => by
  cases x <;> simp [Block.same]

theorem setSession_frame (s : Option Session) : Frame [.player] c (c.setSession s) := .of_same fun x => by
  cases x <;> simp [Block.same]

theorem setTake_frame (s : Slot) (t : Option Take) : Frame [.takes] c (c.setTake s t) := .of_same fun x => by
  cases x <;> simp [Block.same]

theorem closeWindow_frame : Frame [.takes] c c.closeWindow := .of_same fun x => by
  cases x <;> simp [Block.same]

theorem pushReply_frame (kind tag : Byte) (a : Answer) : Frame [.link] c (c.pushReply kind tag a) := .of_same fun x => by
  cases x <;> simp [Block.same]

theorem modPhones_frame (f : HeadphonePath → HeadphonePath) : Frame [.phones] c (c.modPhones f) := .of_same fun x => by
  cases x <;> simp [Block.same]

theorem wakeBegin_frame (src : WakeSource) : Frame [.link] c (c.wakeBegin src) := .of_same fun x => by
  cases x <;> simp [Block.same]

theorem trimSync_frame : Frame [.trim] c c.trimSync := .of_same fun x => by
  cases x <;> simp [Block.same]

theorem startRounds_frame : Frame [.trim] c c.startRounds := .of_same fun x => by
  cases x <;> simp [Block.same]

theorem setPlayPedals_frame (d n f : Nat) : Frame [.player] c (c.setPlayPedals d n f) := .of_same fun x => by
  cases x <;> simp [Block.same]

/-- A change of the Player alone. -/
theorem player_frame (p : Player) : Frame [.player] c { c with player := p } := .of_same fun x => by
  cases x <;> simp [Block.same]

/-- A change of the Voice Pool alone. -/
theorem pool_frame (p : VoicePool) : Frame [.pool] c { c with pool := p } := .of_same fun x => by
  cases x <;> simp [Block.same]

/-- A change of the Trim Engine alone. -/
theorem trim_frame (t : TrimEngine) : Frame [.trim] c { c with trim := t } := .of_same fun x => by
  cases x <;> simp [Block.same]

/-- A change of the Recorder alone. -/
theorem recorder_frame (r : Recorder) : Frame [.recorder] c { c with recorder := r } := .of_same fun x => by
  cases x <;> simp [Block.same]

/-- A change of the Pedal Unit alone. -/
theorem pedals_frame (u : PedalUnit) : Frame [.pedals] c { c with pedals := u } := .of_same fun x => by
  cases x <;> simp [Block.same]

/-- A change of the Link alone. -/
theorem link_frame (l : Link) : Frame [.link] c { c with link := l } := .of_same fun x => by
  cases x <;> simp [Block.same]

/-! ### The Voice Pool -/

theorem toneCheck_frame : Frame [.pool, .link] c c.toneCheck := by
  unfold toneCheck
  split
  · split
    · exact ((c.pool_frame _).widen (by simp)).trans ((report_frame _ _).widen (by simp))
    · exact .refl _ _
  · exact .refl _ _

theorem mapVoices_frame (f : Note → Option Note) : Frame [.pool, .link] c (c.mapVoices f) :=
  ((c.pool_frame _).widen (by simp)).trans (toneCheck_frame _)

theorem reevaluate_frame (p : Note → Bool) : Frame [.pool, .link] c (c.reevaluate p) := c.mapVoices_frame _

theorem reevaluateKeys_frame (src : Source) (ks : List Nat) : Frame [.pool, .link] c (c.reevaluateKeys src ks) :=
  c.reevaluate_frame _

theorem reevaluateSource_frame (src : Source) : Frame [.pool, .link] c (c.reevaluateSource src) := c.reevaluate_frame _

theorem fadeVoices_frame (p : Note → Bool) : Frame [.pool, .link] c (c.fadeVoices p) := c.mapVoices_frame _

theorem fadePlayback_frame : Frame [.pool, .link] c c.fadePlayback := c.fadeVoices_frame _

theorem begin_frame (i : Nat) (src owner : Source) (k l : Nat) : Frame [.pool] c (c.begin i src owner k l) :=
  c.setVoice_frame i _

theorem steal_frame (i : Nat) (src : Source) (k l : Nat) : Frame [.pool, .link] c (c.steal i src k l) := by
  unfold steal
  split
  · exact ((c.report_frame _).widen (by simp)).trans ((begin_frame _ _ _ _ _ _).widen (by simp))
  · exact .refl _ _

theorem allocate_frame (src : Source) (k l : Nat) : Frame [.pool, .link] c (c.allocate src k l) := by
  unfold allocate
  dsimp only
  split <;> [skip; split] <;> split
  all_goals first
    | exact .refl _ _
    | exact (c.begin_frame _ _ _ _ _).widen (by simp)
    | exact c.steal_frame _ _ _ _

theorem poolStrike_frame (src : Source) (k l : Nat) : Frame [.pool, .link] c (c.poolStrike src k l) := by
  unfold poolStrike
  split
  · split
    · exact (c.begin_frame _ _ _ _ _).widen (by simp)
    · exact .refl _ _
  · exact c.allocate_frame _ _ _

theorem liveStrike_frame (k l : Nat) : Frame [.pool, .link] c (c.liveStrike k l) := by
  unfold liveStrike
  split
  · exact c.poolStrike_frame _ _ _
  · exact .refl _ _

theorem reown_frame (p : Source) (n : Nat) : Frame [.pool] c (Controller.reown p n c) := by
  induction n generalizing c with
  | zero => exact .refl _ _
  | succ n ih =>
    unfold Controller.reown
    split
    · exact .refl _ _
    · split
      · exact .refl _ _
      · exact (c.setVoice_frame _ _).trans (ih _)

theorem voiceEnd_frame (i : Nat) : Frame [.pool, .link] c (c.voiceEnd i) := by
  unfold Controller.voiceEnd
  split
  · split
    · exact ((c.setVoice_frame _ _).widen (by simp)).trans (toneCheck_frame _)
    · exact .refl _ _
  · exact .refl _ _

/-! ### The Recorder -/

theorem recEnd_frame (j : RecJob) (n : Nat) : Frame [.takes, .recorder] c (c.recEnd j n) :=
  ((c.setTake_frame _ _).widen (by simp)).trans ((recorder_frame _ _).widen (by simp))

theorem recStop_frame (j : RecJob) (x : StopCause) (n : Nat) : Frame [.takes, .recorder, .link] c (c.recStop j x n) :=
  ((c.recEnd_frame j n).widen (by simp)).trans ((report_frame _ _).widen (by simp))

theorem syncStop_frame (ms : Nat) : Frame [.takes, .recorder, .link] c (c.syncStop ms) := by
  unfold syncStop
  split
  · split
    · exact c.recStop_frame _ _ _
    · exact .refl _ _
  · exact .refl _ _

theorem recAppend_frame (j : RecJob) (r : TakeRec) : Frame [.takes, .recorder, .link] c (c.recAppend j r) := by
  unfold recAppend
  dsimp only
  split
  · exact ((c.setTake_frame _ _).widen (by simp)).trans (recStop_frame _ _ _ _)
  · exact (c.setTake_frame _ _).widen (by simp)

theorem recWrite_frame (k : RecKind) (s v : Nat) : Frame [.takes, .recorder, .link] c (c.recWrite k s v) := by
  unfold recWrite
  split
  · split
    · exact c.recAppend_frame _ _
    · exact .refl _ _
  · exact .refl _ _

theorem recStart_frame (j : RecJob) (t : Option Time) : Frame [.takes, .recorder, .link] c (c.recStart j t) :=
  (((c.setTake_frame _ _).widen (by simp)).trans ((recorder_frame _ _).widen (by simp))).trans
    ((report_frame _ _).widen (by simp))

theorem recStrike_frame (k l : Nat) : Frame [.takes, .recorder, .link] c (c.recStrike k l) := by
  unfold recStrike
  split
  · split
    · exact c.recWrite_frame _ _ _
    · exact (c.recStart_frame _ _).trans (recWrite_frame _ _ _ _)
  · exact .refl _ _

theorem recPedal_frame (p v : Nat) : Frame [.takes, .recorder, .link] c (c.recPedal p v) := by
  unfold Controller.recPedal
  split
  · split
    · split
      · exact ((c.recorder_frame _).widen (by simp)).trans (recWrite_frame _ _ _ _)
      · exact .refl _ _
    · exact .refl _ _
  · exact .refl _ _

/-! ### The Player -/

/-- The parts that the Player's play may touch. -/
abbrev playParts : List Block := [.pool, .takes, .recorder, .player, .link]

theorem bringUp_frame : Frame [.player] c c.bringUp := by
  unfold bringUp
  split
  · exact c.setSession_frame _
  · exact .refl _ _

theorem setDue_frame : Frame [.player] c c.setDue := by
  unfold setDue
  split
  · split <;> exact c.setSession_frame _
  · exact .refl _ _

theorem raiseDamper_frame (k : Nat) : Frame [.pool, .player, .link] c (c.raiseDamper k) :=
  ((c.player_frame _).widen (by simp)).trans ((reevaluateKeys_frame _ _ _).widen (by simp))

theorem lowerDamper_frame (k : Nat) : Frame [.pool, .player, .link] c (c.lowerDamper k) :=
  ((c.player_frame _).widen (by simp)).trans ((reevaluateKeys_frame _ _ _).widen (by simp))

theorem playSostenuto_frame (v : Nat) : Frame [.pool, .player, .link] c (c.playSostenuto v) := by
  unfold playSostenuto
  dsimp only
  split <;> [skip; split]
  · exact ((c.player_frame _).widen (by simp)).trans ((reevaluateKeys_frame _ _ _).widen (by simp))
  · exact ((c.player_frame _).widen (by simp)).trans ((reevaluateKeys_frame _ _ _).widen (by simp))
  · exact (c.player_frame _).widen (by simp)

theorem playPedal_frame (p v : Nat) : Frame [.pool, .player, .link] c (c.playPedal p v) := by
  unfold playPedal
  split
  · exact ((c.player_frame _).widen (by simp)).trans ((reevaluateSource_frame _ _).widen (by simp))
  · exact c.playSostenuto_frame v
  · exact (c.player_frame _).widen (by simp)

theorem formWait_frame (s : Session) (k t : Nat) : Frame [.player] c (c.formWait s k t) := c.player_frame _

theorem applyRecord_frame (s : Session) (r : TakeRec) : Frame [.pool, .player, .link] c (c.applyRecord s r) := by
  unfold applyRecord
  split
  · split <;> [skip; split]
    · exact .refl _ _
    · exact (c.formWait_frame _ _ _).widen (by simp)
    · exact (c.raiseDamper_frame _).trans ((poolStrike_frame _ _ _ _).widen (by simp))
  · split
    · exact .refl _ _
    · exact c.raiseDamper_frame _
  · split
    · exact .refl _ _
    · exact c.lowerDamper_frame _
  · exact c.playPedal_frame _ _
  · exact (c.report_frame _).widen (by simp)

theorem applyBatch_frame (rs : List TakeRec) : Frame [.pool, .player, .link] c (applyBatch rs c) := by
  induction rs generalizing c with
  | nil => exact .refl _ _
  | cons r rs ih =>
    unfold applyBatch
    split
    · exact .refl _ _
    · split
      · dsimp only
        split
        · exact (((c.setSession_frame _).widen (by simp)).trans ((player_frame _ _).widen (by simp))).trans (ih _)
        · exact (((c.setSession_frame _).widen (by simp)).trans (applyRecord_frame _ _ _)).trans (ih _)
      · exact .refl _ _

theorem reportState_frame (s : Session) (d : PlayerDetail) : Frame [.link] c (c.reportState s d) := c.report_frame _

theorem runBatch_frame : Frame [.pool, .player, .link] c c.runBatch := by
  unfold runBatch
  split
  · exact .refl _ _
  · dsimp only
    split
    · exact c.applyBatch_frame _
    · split
      · exact c.applyBatch_frame _
      · exact ((c.applyBatch_frame _).trans ((setSession_frame _ _).widen (by simp))).trans
          ((reportState_frame _ _ _).widen (by simp))

theorem naturalEnd_frame (s : Session) : Frame playParts c (c.naturalEnd s) :=
  ((((c.setPlayPedals_frame 0 0 0).widen (by simp)).trans ((setSession_frame _ _).widen (by simp))).trans
    ((reevaluateSource_frame _ _).widen (by simp))).trans
      (((report_frame _ _).widen (by simp)).trans ((syncStop_frame _ _).widen (by simp)))

theorem endOrDue_frame : Frame playParts c c.endOrDue := by
  unfold endOrDue
  split
  · split
    · exact c.naturalEnd_frame _
    · exact c.setDue_frame.widen (by simp)
  · exact .refl _ _

theorem loopJump_frame (s : Session) (l : Loop) : Frame [.pool, .player, .link] c (c.loopJump s l) :=
  (((c.fadePlayback_frame.widen (by simp)).trans ((setPlayPedals_frame _ _ _ _).widen (by simp))).trans
    ((setSession_frame _ _).widen (by simp))).trans (((report_frame _ _).widen (by simp)).trans (runBatch_frame _))

theorem takeReached_frame : Frame playParts c c.takeReached := by
  unfold takeReached
  split
  · dsimp only
    split
    · exact c.runBatch_frame.widen (by simp)
    · split
      · exact ((c.runBatch_frame.widen (by simp)).trans ((loopJump_frame _ _ _).widen (by simp))).trans (endOrDue_frame _)
      · exact (c.runBatch_frame.widen (by simp)).trans (endOrDue_frame _)
  · exact .refl _ _

/-- Outside PLAYING nothing is taken. -/
theorem takeReached_of_not_playing (h : c.playerState ≠ .playing) : c.takeReached = c := if_neg h

theorem moveTo_frame (s : Session) (p : Nat) : Frame [.player] c (c.moveTo s p) :=
  (c.setPlayPedals_frame _ _ _).trans (setSession_frame _ _)

theorem endWait_frame (s : Session) : Frame playParts c (c.endWait s) :=
  (((c.setSession_frame _).widen (by simp)).trans ((reportState_frame _ _ _).widen (by simp))).trans (takeReached_frame _)

theorem guideStrike_frame (k : Nat) : Frame playParts c (c.guideStrike k) := by
  unfold guideStrike
  dsimp only
  have h : Frame playParts c c.bringUp := c.bringUp_frame.widen (by simp)
  split
  · exact h
  · split
    · split
      · split
        · exact (h.trans ((player_frame _ _).widen (by simp))).trans (endWait_frame _ _)
        · exact h.trans ((player_frame _ _).widen (by simp))
      · exact h.trans ((report_frame _ _).widen (by simp))
    · exact h.trans (takeReached_frame _)
    · exact h.trans (takeReached_frame _)

/-! ### The Trim Engine and the Rail Drive -/

theorem tryGrant_frame : Frame [.trim, .link] c c.tryGrant := by
  unfold tryGrant
  split
  · split
    · exact ((c.trim_frame _).widen (by simp)).trans ((report_frame _ _).widen (by simp))
    · exact .refl _ _
  · exact .refl _ _

theorem joinFifo_frame (g : Nat) : Frame [.trim, .link] c (c.joinFifo g) := by
  unfold joinFifo
  split
  · exact .refl _ _
  · exact ((c.trim_frame _).widen (by simp)).trans (tryGrant_frame _)

theorem joinOrMark_frame (g : Nat) : Frame [.trim, .link] c (c.joinOrMark g) := by
  unfold joinOrMark
  split
  · split
    · exact (c.trim_frame _).widen (by simp)
    · exact c.joinFifo_frame g
  · exact c.joinFifo_frame g

theorem dropExam_frame (k : Nat) : Frame [.trim] c (c.dropExam k) := by
  unfold dropExam
  split
  · exact c.trim_frame _
  · exact .refl _ _

theorem calReading_frame (k raw : Nat) : Frame [.trim] c (c.calReading k raw) := by
  unfold calReading
  split
  · exact c.trim_frame _
  · exact .refl _ _

theorem judgeTrim_frame (g k : Nat) (r : Readings) : Frame [.keys, .trim, .link] c (c.judgeTrim g k r) := by
  unfold judgeTrim
  dsimp only
  split
  · exact (c.setUnit_frame _ _).widen (by simp)
  · have h : Frame [.keys, .trim, .link] c ((c.setUnit g { c.trimUnit g with phase := .idle }).setKey k
        { c.key k with
          restRaw := some (steppedRest ((c.key k).restRaw.getD (c.key k).nominal) (r.mean 16))
          debt := if (c.key k).debt ≤ -8 then (c.key k).debt else (c.key k).debt - 1
          stale := false }) :=
      ((c.setUnit_frame _ _).widen (by simp)).trans ((setKey_frame _ _ _).widen (by simp))
    split
    · exact h.trans ((report_frame _ _).widen (by simp))
    · exact h

theorem trimReading_frame (k raw : Nat) : Frame [.keys, .trim, .link] c (c.trimReading k raw) := by
  unfold trimReading
  dsimp only
  split <;> [skip; exact .refl _ _; exact .refl _ _]
  split
  · split
    · split
      · exact c.judgeTrim_frame _ _ _
      · exact (c.setUnit_frame _ _).widen (by simp)
    · exact (c.setUnit_frame _ _).widen (by simp)
  · exact .refl _ _

theorem railReport_frame (d : Bool) : Frame [.link] c (c.railReport d) := c.report_frame _

theorem railTest_frame : Frame [.trim, .rail, .link] c c.railTest := by
  unfold railTest
  split
  · split
    · exact (((c.setRail_frame _).widen (by simp)).trans ((railReport_frame _ _).widen (by simp))).trans
        ((trimSync_frame _).widen (by simp))
    · exact .refl _ _
  · exact .refl _ _

theorem railWait_frame (t : Stop) (o : RailOrigin) (r : Bool) : Frame [.trim, .rail, .link] c (c.railWait t o r) :=
  (((c.setRail_frame _).widen (by simp)).trans ((railReport_frame _ _).widen (by simp))).trans (railTest_frame _)

theorem railFault_frame (x : RailCause) (l : LastStop) : Frame [.trim, .rail, .link] c (c.railFault x l) :=
  ((((c.setRail_frame _).widen (by simp)).trans ((railReport_frame _ _).widen (by simp))).trans
    ((tryGrant_frame _).widen (by simp))).trans ((trimSync_frame _).widen (by simp))

theorem keysMoved_frame : Frame [.trim, .rail, .link] c c.keysMoved :=
  c.railTest_frame.trans ((trimSync_frame _).widen (by simp))

/-! ### The Key Scanner -/

/-- The parts that a key event may touch, the Key Table apart (R24). -/
abbrev eventParts : List Block := [.pool, .takes, .recorder, .player, .link]

theorem handDamperUp_frame (k : Nat) : Frame eventParts c (c.handDamperUp k) :=
  ((c.reevaluateKeys_frame _ _).widen (by simp)).trans ((recWrite_frame _ _ _ _).widen (by simp))

theorem handDamperDown_frame (k : Nat) : Frame eventParts c (c.handDamperDown k) :=
  ((c.reevaluateKeys_frame _ _).widen (by simp)).trans ((recWrite_frame _ _ _ _).widen (by simp))

theorem handStrike_frame (k flight : Nat) (again : Bool) (t : Time) :
    Frame eventParts c (c.handStrike k flight again t) :=
  ((((c.liveStrike_frame _ _).widen (by simp)).trans ((recStrike_frame _ _ _).widen (by simp))).trans
    (guideStrike_frame _ _)).trans ((reportAt_frame _ _ _).widen (by simp))

/-- The parts that the passage of a key may touch. -/
abbrev keyParts : List Block := .keys :: eventParts

theorem cross_frame (k : Nat) (x : Crossing) (p : Option Sample) (s : Sample) : Frame keyParts c (c.cross k x p s) := by
  have h : ∀ r : KeyRec, Frame keyParts c (c.setKey k r) := fun r => (c.setKey_frame k r).widen (by simp)
  unfold cross
  cases x
  · exact h _
  · exact h _
  · exact (h _).trans ((handDamperUp_frame _ _).widen (by simp))
  · exact ((h _).trans ((handDamperDown_frame _ _).widen (by simp))).trans ((reportAt_frame _ _ _).widen (by simp))
  · exact h _
  · exact h _
  · exact (h _).trans ((handStrike_frame _ _ _ _ _).widen (by simp))
  · exact h _

theorem compare_frame (k : Nat) (p : Option Sample) (s : Sample) (n : Nat) :
    Frame keyParts c (Controller.compare k p s n c) := by
  induction n generalizing c with
  | zero => exact .refl _ _
  | succ n ih =>
    unfold Controller.compare
    split
    · exact (c.cross_frame _ _ _ _).trans (ih _)
    · exact .refl _ _

theorem clearSpent_frame (k d : Nat) : Frame [.keys] c (c.clearSpent k d) := by
  unfold clearSpent
  dsimp only
  split
  · exact c.setKey_frame _ _
  · exact .refl _ _

theorem withdraw_frame (k : Nat) (into : KeyState) : Frame keyParts c (c.withdraw k into) := by
  unfold withdraw
  dsimp only
  split
  · exact ((c.setKey_frame _ _).widen (by simp)).trans ((handDamperDown_frame _ _).widen (by simp))
  · exact (c.setKey_frame _ _).widen (by simp)

theorem enterCondition_frame (k : Nat) (into : KeyState) : Frame keyParts c (c.enterCondition k into) := by
  unfold enterCondition
  split
  · exact c.withdraw_frame _ _
  · exact (c.modKey_frame _ _).widen (by simp)

theorem reevaluateKey_frame (k : Nat) : Frame [.keys] c (c.reevaluateKey k) := c.modKey_frame _ _

/-! ### The Pedal Unit and the Headphone Path -/

theorem sostenutoOff_frame : Frame [.pool, .pedals, .link] c c.sostenutoOff :=
  (((c.pedals_frame _).widen (by simp)).trans ((report_frame _ _).widen (by simp))).trans
    ((reevaluateKeys_frame _ _ _).widen (by simp))

theorem sostenutoCompare_frame (v : Nat) : Frame [.pool, .pedals, .link] c (c.sostenutoCompare v) := by
  unfold sostenutoCompare
  split <;> split
  · exact c.sostenutoOff_frame
  · exact .refl _ _
  · exact (c.pedals_frame _).widen (by simp)
  · exact (c.pedals_frame _).widen (by simp)

theorem handValue_frame (p v : Nat) : Frame [.pool, .takes, .recorder, .link] c (c.handValue p v) := by
  unfold handValue
  split
  · exact ((c.reevaluateSource_frame _).widen (by simp)).trans ((recPedal_frame _ _ _).widen (by simp))
  · exact (c.recPedal_frame _ _).widen (by simp)

theorem arriveOff_frame : Frame [.pool, .phones, .link] c c.arriveOff := by
  unfold arriveOff
  dsimp only
  split
  · exact (((c.modPhones_frame _).widen (by simp)).trans ((pool_frame _ _).widen (by simp))).trans
      ((toneCheck_frame _).widen (by simp))
  · exact (c.modPhones_frame _).widen (by simp)

theorem outputDecide_frame : Frame [.pool, .phones, .link] c c.outputDecide := by
  unfold outputDecide
  split
  · split
    all_goals first
      | exact (c.modPhones_frame _).widen (by simp)
      | exact .refl _ _
  · split
    · exact (c.modPhones_frame _).widen (by simp)
    · exact (c.modPhones_frame _).widen (by simp)
    · split
      · exact c.arriveOff_frame
      · exact .refl _ _
    · exact .refl _ _

end Controller

end Sys2Proof.Machine
end

