-- ==== Sys2Proof/Laws/Answering.lean ====
section
/-! SUPPORT. Running a command, and answering a request: once, what each can do (R200, R207). -/

namespace Sys2Proof.Machine

/-- A command that is run acts on the controller and keeps the queue. -/
theorem State.run_running {s : State} (h : s.Running) (f : Controller → Controller) :
    s.run f = .next (s.withCtl (f s.ctl)) := by
  have h : s.ctl.inReset = false := h
  simp [State.run, h, State.withCtl]

/-- A command run on a held controller does nothing. -/
theorem State.run_held {s : State} (h : s.ctl.inReset = true) (f : Controller → Controller) : s.run f = .next s := by
  simp [State.run, h]

/-- A command that is run answers a next state with the same queue. -/
theorem State.run_next (s : State) (f : Controller → Controller) : ∃ t, s.run f = .next t ∧ t.pending = s.pending := by
  unfold State.run
  split
  · exact ⟨s, rfl, rfl⟩
  · exact ⟨_, rfl, rfl⟩

namespace Controller

variable (c : Controller)

/-- The controller that the rule of a request finds: any open window closed (R149). -/
theorem handle_serving {c : Controller} (h : c.link.state = .active) {kind : Byte} (k : keepsWindow kind = false)
    (tag : Byte) (shown : Shown) (f : Handler) :
    c.handle kind tag shown f = (f c.closeWindow).1.pushReply (kind + 0x80#8) tag (f c.closeWindow).2 := by
  simp [handle, k, h]

/-- A TAKE_DATA or TAKE_READ finds the window as it stands (R149). -/
theorem handle_serving_kept {c : Controller} (h : c.link.state = .active) {kind : Byte} (k : keepsWindow kind = true)
    (tag : Byte) (shown : Shown) (f : Handler) :
    c.handle kind tag shown f = (f c).1.pushReply (kind + 0x80#8) tag (f c).2 := by
  simp [handle, k, h]

/-- IDENT, STATUS and WAKE are answered by their rules in every state (R200). -/
theorem handle_answered {kind : Byte} (k : keepsWindow kind = false) (a : answeredAsleep kind = true) (tag : Byte)
    (shown : Shown) (f : Handler) :
    c.handle kind tag shown f = (f c.closeWindow).1.pushReply (kind + 0x80#8) tag (f c.closeWindow).2 := by
  simp [handle, k, a]

/-- Any other request is answered STANDBY in standby and while waking, with what its rule shows in such a reply (R200). -/
theorem handle_asleep {c : Controller} (h : c.link.state ≠ .active) {kind : Byte} (a : answeredAsleep kind = false)
    (tag : Byte) (shown : Shown) (f : Handler) :
    c.handle kind tag shown f =
      let c' := if keepsWindow kind then c else c.closeWindow
      c'.pushReply (kind + 0x80#8) tag { code := .standby, fields := shown c' } := by
  unfold handle
  by_cases k : keepsWindow kind <;> simp [k, a, h]

end Controller

/-- A request whose rule is asked leaves what the rule leaves, and replies what it answers (R200). -/
theorem Replies.of_rule {i : Instr} {kind answer tag : Byte} {shown : Shown} {h : Handler} {s : State} {c : Controller}
    {code : ResultCode} {fields : List Byte} (e : exec i s = s.run (Controller.handle kind tag shown h)) (sv : s.Serving)
    (rule : h s.ctl.closeWindow = (c, { code := code, fields := fields }))
    (k : keepsWindow kind = false := by rfl) (a : kind + 0x80#8 = answer := by rfl) :
    Replies i answer tag s c code fields := by
  rw [Replies, e, State.run_running sv.1, Controller.handle_serving sv.2 k, rule, a]

/-- The same for TAKE_DATA and TAKE_READ, which find the window as it stands. -/
theorem Replies.of_kept_rule {i : Instr} {kind answer tag : Byte} {shown : Shown} {h : Handler} {s : State} {c : Controller}
    {code : ResultCode} {fields : List Byte} (e : exec i s = s.run (Controller.handle kind tag shown h)) (sv : s.Serving)
    (rule : h s.ctl = (c, { code := code, fields := fields }))
    (k : keepsWindow kind = true := by rfl) (a : kind + 0x80#8 = answer := by rfl) :
    Replies i answer tag s c code fields := by
  rw [Replies, e, State.run_running sv.1, Controller.handle_serving_kept sv.2 k, rule, a]

/-- A command that is run leaves what it makes of the controller. -/
theorem Leaves.of_run {i : Instr} {s : State} {f : Controller → Controller} {c : Controller} (e : exec i s = s.run f)
    (run : s.Running) (h : f s.ctl = c) : Leaves i s c := by
  rw [Leaves, e, State.run_running run, h]

end Sys2Proof.Machine
end

