-- ==== Sys2Proof/Laws/Scaling.lean ====
section
/-! SUPPORT. The scaling of a sample: once, what the search for the greatest admitted number answers (R139), and the sum of a channel as a sum over the voices (R140). -/

namespace Sys2Proof.Machine

/-- The search answers the greatest number up to its bound that the test admits, and 0 when it admits none above 0. -/
theorem greatestUpTo_spec (test : Nat → Bool) (n : Nat) :
    greatestUpTo test n ≤ n ∧ (greatestUpTo test n ≠ 0 → test (greatestUpTo test n) = true) ∧
      ∀ m, m ≤ n → test m = true → m ≤ greatestUpTo test n := by
  induction n with
  | zero => exact ⟨Nat.le_refl 0, fun h => absurd rfl h, fun m h _ => h⟩
  | succ n ih =>
    unfold greatestUpTo
    split
    · next h => exact ⟨Nat.le_refl _, fun _ => h, fun m hm _ => hm⟩
    · next h =>
      refine ⟨Nat.le_succ_of_le ih.1, ih.2.1, fun m hm t => ih.2.2 m ?_ t⟩
      rcases Nat.lt_or_eq_of_le hm with hm | rfl
      · exact Nat.le_of_lt_succ hm
      · exact absurd t h

/-- R140: the sum of a channel is the sum, over the voices that are not FREE, of their weighted samples. -/
theorem Controller.channelSum_eq_sum (c : Controller) (weight : Nat → Nat) :
    c.channelSum weight =
      ((c.pool.voices.filterMap id).map fun n => (c.voiceSample n * (weight (n.key - 1) : Int)).fdiv 174).sum := by
  have go : ∀ (vs : List (Option Note)) (a : Int),
      vs.foldl (fun acc v => match v with
        | some n => acc + (c.voiceSample n * (weight (n.key - 1) : Int)).fdiv 174
        | none => acc) a
      = a + ((vs.filterMap id).map fun n => (c.voiceSample n * (weight (n.key - 1) : Int)).fdiv 174).sum := by
    intro vs
    induction vs with
    | nil => simp
    | cons v vs ih => intro a; cases v <;> simp [ih]; omega
  exact (go c.pool.voices 0).trans (Int.zero_add _)

end Sys2Proof.Machine
end

