-- ==== Sys2Proof/Tests/Slice0.lean ====
section
/-! SUPPORT. Tests of single steps, their expected values worked out in the manual or by hand from its rules, and the witnesses that the hypotheses of the statements can be met. -/

namespace Sys2Proof.Tests

set_option Elab.async false

open Sys2Proof Sys2Proof.Machine

/-- The reset state with its controller changed. -/
def made (f : Controller → Controller) : State := { State.reset with ctl := f State.reset.ctl }

/-- The controller that a command leaves; the one it found where the command stops. -/
def ran (i : Instr) (s : State) : Controller :=
  match exec i s with
  | .next t => t.ctl
  | .fault _ => s.ctl
  | .refused _ => s.ctl

/-- The state after one step; the state itself where the step stops. -/
def stepped (s : State) : State :=
  match step s with
  | .next t => t
  | .fault _ => s
  | .refused _ => s

/-- The one reply that a command leaves: its kind, code and fields. -/
def replied (i : Instr) (s : State) : List (Byte × ResultCode × List Byte) :=
  (ran i s).link.replies.map fun r => (r.kind, r.code, r.fields)

/-- The reports that a command leaves in the queue of a state with every class enabled and an empty queue. -/
def reported (i : Instr) (s : State) : List QueuedReport :=
  (ran i { s with ctl := { s.ctl with link := { s.ctl.link with mask := 0xFF#8, queue := [] } } }).link.queue

/-- The Stage Clock at a time. -/
def atTime (t : Nat) (c : Controller) : Controller := { c with clock := { c.clock with time := BitVec.ofNat 32 t } }

/-- No FULL calibration in progress and none waiting. -/
def uncalibrated (c : Controller) : Controller := { c with trim := { c.trim with cal := none, fifo := [] } }

/-- A key of the default readings with its rest calibrated at 612, in a state. -/
def keyIn (state : KeyState) : KeyRec := { KeyRec.powerOn with state := state, restRaw := some 612 }

/-- A sample. -/
def sample (t raw depth : Nat) : Option Sample := some { time := BitVec.ofNat 32 t, raw := raw, depth := depth }

/-- A take record. -/
def record (time : Nat) (kind : RecKind) (subject value : Nat) : TakeRec :=
  { time := time, kind := kind, subject := subject, value := value }

/-- A note that sounds at its natural rate on its own partition. -/
def note (src : Source) (key level start rate : Nat) : Note :=
  { fading := false, source := src, owner := src, key := key, level := level, tone := 0, aRef := (127 - level) * 3
    tRef := BitVec.ofNat 32 start, rateClass := .natural, rate := rate, start := BitVec.ofNat 32 start
    deadline := endDeadline ((127 - level) * 3) (BitVec.ofNat 32 start) rate, startFrame := 0 }

/-! ### Ill-formed commands are refused by the check -/

/-- An operand outside the field or input that carries it, for each check of WellFormed. -/
theorem test_wf_refuses_each_operand :
    ([.reports 0#8 256, .wakeCheck 0 0, .wakeCheck 89 0, .wakeCheck 1 4096, .thresholds 0#8 65536 0 0 0,
      .thresholds 0#8 0 65536 0 0, .thresholds 0#8 0 0 65536 0, .thresholds 0#8 0 0 0 65536, .keyMute 0#8 256 0,
      .keyMute 0#8 1 256, .keyParam 0#8 256 0 0 0 0, .keyParam 0#8 1 65536 0 0 0, .keyParam 0#8 1 0 65536 0 0,
      .keyParam 0#8 1 0 0 65536 0, .keyParam 0#8 1 0 0 0 128, .keyParam 0#8 1 0 0 0 (-129), .keyRead 0#8 256,
      .keySample 89 0, .keySample 1 4096, .silentPress 0, .keyFault 89, .keyClear 0, .curveLoad 0#8 256 defaultCurve,
      .curveLoad 0#8 0 [1], .curveLoad 0#8 0 (256 :: defaultCurve.tail), .curveRead 0#8 256, .trimSet 0#8 256 0,
      .trimSet 0#8 8 256, .roundExpiry 11, .calFull 0#8 256, .pedalSample 3 0, .pedalSample 0 4096, .pedalFault 3,
      .pedalClear 3, .pedalParam 0#8 256 0 0 0, .pedalParam 0#8 0 65536 0 0, .pedalParam 0#8 0 0 65536 0,
      .pedalParam 0#8 0 0 0 256, .railSet 0#8 256, .voiceSplit 0#8 256 0 0, .voiceSplit 0#8 48 256 0,
      .voiceSplit 0#8 48 0 256, .tone 0#8 256 0, .tone 0#8 0 256, .layer 0#8 256, .decayLoad 0#8 [30] 68,
      .decayLoad 0#8 (65536 :: powerOnDecay.tail) 68, .decayLoad 0#8 powerOnDecay 256, .voiceRead 0#8 256, .voiceEnd 64,
      .phones 0#8 256 0 0 0, .phones 0#8 1 256 0 0, .phones 0#8 1 0 256 0, .phones 0#8 1 0 0 256,
      .takeWindow 0#8 256 0 0 0, .takeWindow 0#8 0 256 0 0, .takeWindow 0#8 0 0 65536 0, .takeWindow 0#8 0 0 0 65536,
      .takeData 0#8 [], .takeData 0#8 (List.replicate 41 ⟨0, 1, 40, 79⟩), .takeData 0#8 [⟨16777216, 1, 40, 79⟩],
      .takeData 0#8 [⟨0, 256, 40, 79⟩], .takeData 0#8 [⟨0, 1, 256, 79⟩], .takeData 0#8 [⟨0, 1, 40, 256⟩],
      .takeInfo 0#8 256, .takeClear 0#8 256, .recArm 0#8 256 0, .recArm 0#8 0 256, .recMark 0#8 256,
      .playStart 0#8 256 0, .playStart 0#8 0 16777216, .playSeek 0#8 16777216, .playLoop 0#8 16777216 0 0,
      .playLoop 0#8 0 16777216 0, .playLoop 0#8 0 1 256, .playTempo 0#8 256, .playHands 0#8 256 0 0 0,
      .playHands 0#8 1 256 0 0, .playHands 0#8 1 0 256 0, .playHands 0#8 1 0 0 256] : List Instr).all (fun i => !i.wf)
      = true := by decide

/-- The greatest operands that the fields and inputs carry are well formed. -/
theorem test_wf_accepts_the_greatest :
    ([.reports 0#8 255, .keySample 88 4095, .thresholds 0#8 65535 65535 65535 65535, .keyParam 0#8 255 65535 65535 65535 127,
      .keyParam 0#8 0 0 0 0 (-128), .curveLoad 0#8 255 defaultCurve, .roundExpiry 10, .pedalSample 2 4095,
      .decayLoad 0#8 powerOnDecay 255, .voiceEnd 63, .takeWindow 0#8 255 255 65535 65535,
      .takeData 0#8 (List.replicate 40 ⟨16777215, 255, 255, 255⟩), .playStart 0#8 255 16777215,
      .playLoop 0#8 16777215 16777215 255] : List Instr).all Instr.wf = true := by decide

/-- A command that names what does not exist faults by name. -/
theorem test_faults_are_named :
    exec (.keySample 89 0) State.reset = .fault .noSuchKey ∧ exec (.keySample 1 4096) State.reset = .fault .noSuchReading ∧
    exec (.roundExpiry 11) State.reset = .fault .noSuchGroup ∧ exec (.pedalSample 3 0) State.reset = .fault .noSuchPedal ∧
    exec (.voiceEnd 64) State.reset = .fault .noSuchVoice := ⟨rfl, rfl, rfl, rfl, rfl⟩

/-- No row of the table has bits: no word spells a command. -/
theorem test_no_word_is_a_command : decodeTableWord 32 0x17020 = none ∧ State.reset.withFetchWord 32 5 = State.reset :=
  ⟨rfl, rfl⟩

/-! ### The machine, the resets and the Link -/

/-- An empty queue passes 1 µs when no event is due, and queues the events that are due: the STARTED report waits for the line. -/
theorem test_idle :
    (stepped State.reset).pending = [.lineGrant] ∧
    (stepped (made fun c => { c with link := { c.link with queue := [] } })).ctl.clock.time = 1#32 := by decide +kernel

/-- R105, R207: both switches closed at the release of the reset leave FAULT with SWITCH_CONFLICT. -/
theorem test_power_on_conflict :
    (ran (.powerOnReset true true) State.reset).rail.state = .fault ∧
    (ran (.powerOnReset true true) State.reset).rail.cause = some .switchConflict := by decide

/-- R207: held in reset, a request has no effect. -/
theorem test_held_in_reset : ran (.status 1#8) (made fun c => { c with inReset := true }) = (made fun c => { c with inReset := true }).ctl := rfl

/-- R106, R206: the soft reset finds the engaged switch closed, and a STARTED report with reason SOFT heads the queue. -/
theorem test_soft_reset :
    (ran (.softReset false true) (made fun c => { c with link := { c.link with resetDue := true } })).rail.state = .engaged ∧
    (ran (.softReset false true) (made fun c => { c with link := { c.link with resetDue := true } })).link.queue
      = [{ time := 0#32, report := .started true }] := by decide

/-- R211: the manual's STATUS request with tag 0x17 is the bytes C3 02 02 17 E5, and they are received as that frame. -/
theorem test_status_frame :
    frameBytes 0x02#8 0x17#8 [] = [0xC3#8, 0x02#8, 0x02#8, 0x17#8, 0xE5#8] ∧
    (match receiveAll [0xC3#8, 0x02#8, 0x02#8, 0x17#8, 0xE5#8] State.reset with
      | .next t => t.ctl.link.input
      | .fault _ => []
      | .refused _ => []) = [{ length := 2#8, bytes := [0x02#8, 0x17#8, 0xE5#8] }] := by decide

/-- R198: a byte without its stop bit ends the frame in progress. -/
theorem test_broken_byte :
    (ran (.rxByte 0x02#8 true) (made fun c => { c with link := { c.link with receiver := .awaitLength } })).link.receiver
      = .hunting := by decide

/-- R198: the reception timer at its 240th frame ends the frame in progress. -/
theorem test_rx_timeout :
    (ran .rxTimeout (made fun c => { c with
      phones := { c.phones with frame := 240 }, link := { c.link with receiver := .awaitLength, rxTimer := some 240 } })).link.receiver
      = .hunting := by decide

/-- R200, R211: a STATUS frame is answered with kind 0x82 and its tag; with a wrong check it is answered BAD_CHECK with kind 0xFE and the received kind. -/
theorem test_dispatch :
    ((ran .dispatchFrame (made fun c => { c with link := { c.link with
      input := [{ length := 2#8, bytes := [0x02#8, 0x17#8, 0xE5#8] }] } })).link.replies.map fun r => (r.kind, r.tag, r.code))
      = [(0x82#8, 0x17#8, .ok)] ∧
    (ran .dispatchFrame (made fun c => { c with link := { c.link with
      input := [{ length := 2#8, bytes := [0x02#8, 0x17#8, 0xE6#8] }] } })).link.replies
      = [{ kind := 0xFE#8, tag := 0x17#8, code := .badCheck, fields := [0x02#8] }] := by decide

/-- R201, R207: after a power-on reset the line takes the STARTED report, kind 0x77, code 1, stage time 0, reason POWER. -/
theorem test_line_grant :
    ((ran .lineGrant State.reset).link.line.map Sending.bytes)
      = some (frameBytes 0x77#8 0#8 [1#8, 0#8, 0#8, 0#8, 0#8, 0#8]) := by decide

/-- R206: the end of the OK reply to RESET makes the reset due. -/
theorem test_tx_end :
    (ran .txEnd (made fun c => { c with link := { c.link with
      line := some (.reply { kind := 0x84#8, tag := 9#8, code := .ok, fields := [] }) } })).link.resetDue = true := by decide

/-- R204: the constants of IDENT. -/
theorem test_ident :
    replied (.ident 9#8) State.reset
      = [(0x81#8, .ok, [0x31#8, 0x6D#8, 0x20#8, 0x88#8, 1#8, 0#8, 88#8, 64#8, 2#8, 0#8, 0x40#8])] := by decide

/-- R205 and the example of section 11.2: the body of a STATUS reply is 18 bytes; after a power-on reset 88 keys are in UNCAL and ten groups wait. -/
theorem test_status :
    (ran (.status 9#8) State.reset).link.replies.map Reply.body
      = [[0#8, 0#8, 0#8, 0#8, 0#8, 0#8, 0#8, 0#8, 0xFF#8, 1#8, 0#8, 88#8, 0#8, 10#8, 0#8, 0#8, 1#8, 0#8]] := by
  decide +kernel

/-- R203: REPORTS gives the mask; the mask in force is ALREADY. -/
theorem test_reports :
    (ran (.reports 9#8 0xFF) State.reset).link.mask = 0xFF#8 ∧
    (replied (.reports 9#8 0x88) State.reset).map (fun r => r.2.1) = [.already] := by decide

/-- R206: RESET is answered OK. -/
theorem test_reset_request : replied (.reset 9#8) State.reset = [(0x84#8, .ok, [])] := by decide

/-- R208: STANDBY is refused with the busy reason CALIBRATION during the start-up calibration, and taken once none is in progress. -/
theorem test_standby :
    replied (.standby 9#8) State.reset = [(0x85#8, .badState, [3#8])] ∧
    (ran (.standby 9#8) (made uncalibrated)).clock.suspended = true ∧
    (ran (.standby 9#8) (made uncalibrated)).link.state = .standby := by decide +kernel

/-- R209: WAKE in standby is ACCEPTED, and its timer runs 960 frames. -/
theorem test_wake :
    (ran (.wake 9#8) (made fun c => { c with link := { c.link with state := .standby } })).link.wakeTimer = some 960 := by decide

/-- R51, R77, R124: a BAD_LENGTH reply carries the trim settings to a TRIM_SET, the readings of the pedal it names and the cut to a PEDAL_PARAM, and the tones to a TONE. -/
theorem test_bad_length_fields :
    let answered := fun (kind : Byte) (body : List Byte) =>
      (ran .dispatchFrame (made fun c => { c with link := { c.link with input := [checkedFrame kind 9#8 body] } })).link.replies.map
        fun r => (r.kind, r.code, r.fields)
    answered 0x18#8 [9#8] = [(0x98#8, .badLength, [8#8, 0#8, 1#8])] ∧
    answered 0x1A#8 [2#8] = [(0x9A#8, .badLength, [0x90#8, 1#8, 0x10#8, 0xE#8, 12#8, 0#8])] ∧
    answered 0x21#8 [1#8] = [(0xA1#8, .badLength, [0#8, 0xFF#8])] := by decide +kernel

/-- The state 960 frames after a WAKE request. -/
def waking : State := made fun c =>
  { uncalibrated c with
    clock := { c.clock with suspended := true }, phones := { c.phones with frame := 960 }
    link := { c.link with state := .waking, wakeSource := some .request, wakeTimer := some 960 } }

/-- R210: the wake completes, the clock runs and AWAKE is reported. -/
theorem test_wake_complete :
    (ran .wakeComplete waking).link.state = .active ∧ (ran .wakeComplete waking).clock.suspended = false ∧
    (reported .wakeComplete waking).getLast?.map QueuedReport.report = some (.awake .request) := by decide +kernel

/-- A controller in standby, key 40 resting at depth 0. -/
def asleep : State := made fun c =>
  { (uncalibrated c).setKey 40 { keyIn .rest with latest := sample 0 612 0 } with
    clock := { c.clock with suspended := true }, link := { c.link with state := .standby } }

/-- R5, R39, R85: a STANDBY reply carries the set in force to THRESHOLDS, the curve's name to CURVE_LOAD, and the rail's state and targets to RAIL_SET. -/
theorem test_standby_fields :
    replied (.thresholds 9#8 16 32 48 112) asleep
      = [(0x90#8, .standby, [32#8, 0#8, 160#8, 0#8, 0x30#8, 2#8, 0x98#8, 3#8])] ∧
    replied (.curveLoad 9#8 1 defaultCurve) asleep = [(0x94#8, .standby, [0xFF#8, 0xFF#8, 1#8])] ∧
    replied (.railSet 9#8 1) asleep = [(0x9C#8, .standby, [0#8, 0xFF#8, 0xFF#8])] ∧
    replied (.keyMute 9#8 1 1) asleep = [(0x91#8, .standby, [])] := by decide

/-- R26: a wake check that finds the key past T_lift, depth floor(1588 × 1023 / 2788) = 582, begins a wake with the key in HELD and its hold-off set. -/
theorem test_wake_check :
    (ran (.wakeCheck 40 2200) asleep).link.wakeSource = some (.key 40) ∧
    ((ran (.wakeCheck 40 2200) asleep).key 40).state = .held ∧ ((ran (.wakeCheck 40 2200) asleep).key 40).holdOff = true ∧
    (ran (.wakeCheck 40 2000) asleep).link.state = .standby := by decide

/-! ### Keys and touch -/

/-- R4, the five examples of depth in section 1.2. -/
theorem test_depths :
    (keyIn .rest).depth 2000 = 509 ∧ (keyIn .rest).depth 3450 = 1023 ∧ (keyIn .rest).depth 590 = 0 ∧
    KeyRec.powerOn.depth 2000 = 511 ∧ { keyIn .rest with restRaw := some 3360 : KeyRec }.depth 3368 = 511 := by decide

/-- R7, the examples of crossing times in section 1.3, and the case of a previous sample past the threshold. -/
theorem test_crossing_times :
    risingTime (sample 1000000 0 548) { time := 1000020#32, raw := 0, depth := 572 } 560 = 1000010#32 ∧
    risingTime (sample 1003140 0 905) { time := 1003160#32, raw := 0, depth := 931 } 920 = 1003151#32 ∧
    fallingTime (sample 2400000 0 158) { time := 2400020#32, raw := 0, depth := 149 } 160 = 2400013#32 ∧
    risingTime (sample 40 0 690) { time := 60#32, raw := 0, depth := 700 } 560 = 60#32 := by decide

/-- R30 to R34, the six examples of section 2.6, with the neighbouring values that examples 3 and 5 name. -/
theorem test_levels :
    strikeLevel defaultCurve 9000 3141 3 128 12 = 79 ∧ strikeLevel defaultCurve 9000 100 0 0 12 = 127 ∧
    strikeLevel defaultCurve 2000 119000 0 0 12 = 2 ∧ strikeLevel defaultCurve 16000 120000 0 0 12 = 7 ∧
    strikeLevel defaultCurve 9000 100000 (-16) 0 12 = 1 ∧ strikeLevel defaultCurve 8100 4000 0 0 12 = 66 ∧
    strikeLevel defaultCurve 8100 4050 0 0 12 = 65 ∧ curveLevel defaultCurve 2024 = 65 ∧
    strikeLevel defaultCurve 9000 1200 15 255 24 = 118 ∧ strikeLevel defaultCurve 9000 1200 15 0 24 = 127 := by decide

/-- R5: T_strike at its greatest value 1000 is taken, and one above it is refused with the set in force. -/
theorem test_thresholds :
    (replied (.thresholds 9#8 16 32 48 112) State.reset).map (fun r => r.2.1) = [.ok] ∧
    (ran (.thresholds 9#8 32 160 560 1000) State.reset).thresholds.strike = 1000 ∧
    (replied (.thresholds 9#8 32 160 560 1001) State.reset).map (fun r => r.2)
      = [(.badValue, [32#8, 0#8, 160#8, 0#8, 0x30#8, 2#8, 0x98#8, 3#8])] := by decide

/-- Example 1 of section 2.6: key 40, level trim +3, the soft pedal at 128, the rail's last stop ENGAGED, one sample before its strike. -/
def striking : State := made fun c =>
  { ((atTime 1003160 (uncalibrated c)).setKey 40
      { keyIn .armed with
        levelTrim := 3, latest := sample 1003140 3080 905, tLift := some 1000010#32, flight := some 1120010#32 }).setPedal 2
      { PedalRec.powerOn with value := 128 } with
    rail := Rail.placed false true false }

/-- R12: the sample of depth 931 strikes with flight 3141 and level 79 on the SILENT curve, and a LIVE voice sounds at a_ref 144 and rate 195 (section 6.4, example 1). -/
theorem test_key_sample_strikes :
    reported (.keySample 40 3150) striking
      = [{ time := 1003151#32, report := .strike 40 79 3141 false false false true }] ∧
    ((ran (.keySample 40 3150) striking).voice 0).map (fun n => (n.key, n.aRef, n.rate, n.deadline))
      = some (40, 144, 195, some 5187776#32) := by decide +kernel

/-- R6, R14: a key in STRUCK that falls below T_damp − 8 passes HELD and SHALLOW within one sample, with a RELEASE at the falling T_damp crossing time. -/
theorem test_key_sample_releases :
    reported (.keySample 40 900) (made fun c => (atTime 20 (uncalibrated c)).setKey 40
        { keyIn .struck with sounded := true, latest := sample 0 3000 876 })
      = [{ time := 18#32, report := .release 40 true }] ∧
    ((ran (.keySample 40 900) (made fun c => (atTime 20 (uncalibrated c)).setKey 40
        { keyIn .struck with sounded := true, latest := sample 0 3000 876 })).key 40).state = .shallow := by decide +kernel

/-- R11: the lift crossing of section 1.3, from depth 548 to 572 within the sample ending at 1,000,020, stores t_lift 1,000,010 and starts the flight timer 120,000 µs after it. -/
theorem test_key_sample_arms :
    (fun r : KeyRec => (r.state, r.tLift, r.flight)) ((ran (.keySample 40 2171) (made fun c =>
        (atTime 1000020 (uncalibrated c)).setKey 40 { keyIn .held with latest := sample 1000000 2106 548 })).key 40)
      = (.armed, some 1000010#32, some 1120010#32) := by decide +kernel

/-- R15: the flight timer of an ARMED key ends in HELD with lift_spent set. -/
theorem test_silent_press :
    reported (.silentPress 40) (made fun c => (atTime 120000 (uncalibrated c)).setKey 40
        { keyIn .armed with tLift := some 0#32, flight := some 120000#32 })
      = [{ time := 120000#32, report := .silentPress 40 }] ∧
    ((ran (.silentPress 40) (made fun c => (atTime 120000 (uncalibrated c)).setKey 40
        { keyIn .armed with tLift := some 0#32, flight := some 120000#32 })).key 40).liftSpent = true := by decide +kernel

/-- R18: the fault timer at its deadline puts the key in FAULT, its report carrying the state it left and its latest reading. -/
theorem test_key_fault :
    reported (.keyFault 40) (made fun c => (atTime 50000 (uncalibrated c)).setKey 40
        { keyIn .rest with faultTimer := some 50000#32, latest := sample 50000 4095 1023 })
      = [{ time := 50000#32, report := .keyFault 40 .rest 4095 }] := by decide +kernel

/-- R19: the recovery timer at its deadline puts the key in UNCAL, and its group 4 joins the reference FIFO behind group 7. -/
theorem test_key_clear :
    (ran (.keyClear 40) (made fun c => (atTime 500000 { uncalibrated c with trim :=
        { (uncalibrated c).trim with fifo := [7], cal := c.trim.cal } }).setKey 40
        { keyIn .fault with recovery := some 500000#32 })).trim.fifo = [7, 4] := by decide +kernel

/-- R20, R17: an unmuted key at depth 509 is re-evaluated into SHALLOW with its hold-off set; the setting in force is ALREADY. -/
theorem test_key_mute :
    ((ran (.keyMute 9#8 40 0) (made fun c => (uncalibrated c).setKey 40
        { keyIn .muted with muted := true, latest := sample 0 2000 509 })).key 40).state = .shallow ∧
    replied (.keyMute 9#8 40 0) State.reset = [(0x91#8, .already, [])] := by decide +kernel

/-- R21: a bottom reading 256 above the nominal one is taken and 255 above it is refused; a new bottom reading takes the calibration of the key away. -/
theorem test_key_param :
    replied (.keyParam 9#8 40 600 855 9000 0) State.reset = [(0x92#8, .badValue, [])] ∧
    ((ran (.keyParam 9#8 40 600 856 9000 0) (made fun c => (uncalibrated c).setKey 40 (keyIn .rest))).key 40).state = .uncal := by
  decide +kernel

/-- R22: KEY_READ of key 40 after a power-on reset: UNCAL, no depth and no rest_raw, the factory readings, and the thresholds. -/
theorem test_key_read :
    replied (.keyRead 9#8 40) State.reset
      = [(0x93#8, .ok, [5#8, 0xFF#8, 0xFF#8, 0xFF#8, 0xFF#8, 0x58#8, 2#8, 0x48#8, 0xD#8, 0x28#8, 0x23#8, 0#8, 0#8, 0#8, 0#8,
          0#8, 0#8, 0#8, 32#8, 0#8, 160#8, 0#8, 0x30#8, 2#8, 0x98#8, 3#8])] ∧
    replied (.keyRead 9#8 89) State.reset = [(0x93#8, .badValue, [])] := by decide

/-- R39: a table that falls at index 3 is refused with that index, and an equal one is ALREADY. -/
theorem test_curve_load :
    replied (.curveLoad 9#8 1 ([1, 12, 22, 21] ++ List.replicate 21 127)) State.reset = [(0x94#8, .badValue, [3#8, 0#8, 1#8])] ∧
    (replied (.curveLoad 9#8 0 defaultCurve) State.reset).map (fun r => r.2.1) = [.already] ∧
    (ran (.curveLoad 9#8 1 (List.replicate 25 0)) State.reset).curves.silent = List.replicate 25 0 := by decide

/-- R41: CURVE_READ carries 25 levels and the curve in use, ACOUSTIC at a clear rail. -/
theorem test_curve_read :
    (replied (.curveRead 9#8 1) State.reset).map (fun r => (r.2.1, r.2.2.length, r.2.2.getLast?)) = [(.ok, 51, some 0#8)] ∧
    replied (.curveRead 9#8 2) State.reset = [(0x95#8, .badValue, [])] := by decide

/-! ### Trim -/

/-- R51: an interval of 60 s is taken, one of 61 refused with the settings in force. -/
theorem test_trim_set :
    (ran (.trimSet 9#8 60 1) State.reset).roundTimer 1 = some 65454545#32 ∧
    replied (.trimSet 9#8 61 1) State.reset = [(0x98#8, .badValue, [8#8, 0#8, 1#8])] := by decide

/-- Section 3.8: the round of group 2 at 9,454,545 takes the debt of key 20 from −8 to −7, and its next round falls 8,000,000 µs later. -/
theorem test_round_expiry :
    ((ran (.roundExpiry 2) (made fun c => (atTime 9454545 c).setKey 20 { keyIn .held with debt := -8 })).key 20).debt = -7 ∧
    (ran (.roundExpiry 2) (made fun c => (atTime 9454545 c).setKey 20 { keyIn .held with debt := -8 })).roundTimer 2
      = some 17454545#32 := by decide +kernel

/-- R44: a key at debt +8 is marked stale, with a report. -/
theorem test_round_stale :
    reported (.roundExpiry 2) (made fun c => (atTime 9454545 c).setKey 20 { keyIn .held with debt := 8 })
      = [{ time := 9454545#32, report := .stale 20 }] := by decide +kernel

/-- Key 20 of group 2 at rest under a short trim, fifteen readings taken, the least `low`, the greatest `high`. -/
def trimming (restRaw sum low high : Nat) (debt : Int) : State := made fun c =>
  ((uncalibrated c).setKey 20 { keyIn .rest with restRaw := some restRaw, debt := debt, latest := sample 0 (sum / 15) 0 }).setUnit 2
    { phase := .trimming 20 { count := 15, sum := sum, least := low, greatest := high, outSeen := false } 0, passedOver := [] }

/-- Section 3.2, examples 1 to 3: a mean of 652 moves rest_raw from 612 to 652, and from 580 by no more than 64; a spread of 15 rejects. -/
theorem test_short_trims :
    ((ran (.keySample 20 652) (trimming 612 9780 648 657 3)).key 20).restRaw = some 652 ∧
    ((ran (.keySample 20 652) (trimming 612 9780 648 657 3)).key 20).debt = 2 ∧
    ((ran (.keySample 20 652) (trimming 580 9780 649 655 1)).key 20).restRaw = some 644 ∧
    ((ran (.keySample 20 650) (trimming 612 9750 640 655 2)).key 20).debt = 2 ∧
    ((ran (.keySample 20 650) (trimming 612 9750 640 655 2)).trimUnit 2).passedOver = [20] := by decide +kernel

/-- Section 3.9: group 4 under a FULL calibration with groups 7 and 9 waiting, key 35 marked for UNCAL and accepted. -/
def completing : State := made fun c =>
  { (atTime 200300000 c).setKey 35 { keyIn .rest with calLost := true, nominal := 640 } with
    trim := { c.trim with
      fifo := [7, 9]
      cal := some
        { group := 4, start := 200000000#32, rejoin := true
          exams := [{ key := 35, positional := true, allRest := true
                      readings := { count := 256, sum := 164000, least := 636, greatest := 646, outSeen := false } }] } } }

/-- R56: at the completion key 35 takes the mean floor((164,000 + 128) / 256) = 641 and enters UNCAL; group 4 joins behind 9, and group 7 is granted. -/
theorem test_cal_complete :
    ((ran .calComplete completing).key 35).restRaw = some 641 ∧ ((ran .calComplete completing).key 35).state = .uncal ∧
    (ran .calComplete completing).trim.fifo = [9, 4] ∧ (ran .calComplete completing).calibrating 7 = true ∧
    (reported .calComplete completing).map QueuedReport.report = [.calDone 4 [], .calStart 7 8 2] := by decide +kernel

/-- R57: CAL_FULL of a group that waits already is ALREADY; group 10 alone is granted at once; group 11 is refused. -/
theorem test_cal_full :
    (replied (.calFull 9#8 10) State.reset).map (fun r => r.2.1) = [.already] ∧
    replied (.calFull 9#8 10) (made uncalibrated) = [(0x99#8, .accepted, [1#8, 10#8, 0#8, 0#8])] ∧
    (ran (.calFull 9#8 10) (made uncalibrated)).calibrating 10 = true ∧
    (replied (.calFull 9#8 11) State.reset).map (fun r => r.2.1) = [.badValue] := by decide +kernel

/-! ### Pedals -/

/-- R64, the examples of pedal values in section 4.1. -/
theorem test_pedal_values :
    [2000, 2010, 1620, 1600, 380, 3700, 4085].map (fun raw => ((ran (.pedalSample 0 raw) State.reset).pedal 0).value)
      = [127, 128, 97, 95, 0, 255, 0] ∧
    ((ran (.pedalSample 0 4085) State.reset).pedal 0).faultTimer = some 50000#32 := by decide +kernel

/-- Section 4.9: a sostenuto value of 159 at 10,000,000 starts the hold timer toward 10,015,000; in the rows of section 4.6 a value 3 above the last reported one is not reported. -/
theorem test_pedal_hold_and_report :
    (ran (.pedalSample 1 2400) (made (atTime 10000000))).pedals.hold = some 10015000#32 ∧
    reported (.pedalSample 0 438) State.reset = [] ∧
    reported (.pedalSample 0 451) State.reset = [{ time := 0#32, report := .pedalValue 0 4 }] := by decide +kernel

/-- Section 4.9: the hold timer at its deadline captures keys 28 and 52, held and struck, and not key 35. -/
theorem test_sostenuto_on :
    (ran .sostenutoOn (made fun c =>
      let c := ((c.setKey 28 (keyIn .held)).setKey 52 (keyIn .struck)).setKey 35 (keyIn .shallow)
      { atTime 10015000 c with pedals := { c.pedals with hold := some 10015000#32 } })).pedals.sostenuto = [28, 52] := by
  decide +kernel

/-- Section 4.6, the soft pedal's sensor fault: its value becomes 0 and PEDAL_FAULT carries the reading 4095. -/
theorem test_pedal_fault :
    reported (.pedalFault 2) (made fun c => (atTime 20050000 c).setPedal 2
        { PedalRec.powerOn with value := 180, faultTimer := some 20050000#32, latest := some (20050000#32, 4095) })
      = [{ time := 20050000#32, report := .pedalFault 2 4095 }] := by decide

/-- R67: the recovery timer at its deadline clears the fault. -/
theorem test_pedal_clear :
    ((ran (.pedalClear 2) (made fun c => (atTime 21500000 c).setPedal 2
        { PedalRec.powerOn with fault := true, recovery := some 21500000#32 })).pedal 2).fault = false := by decide

/-- R77: readings 64 apart and a cut of 24 are taken; readings 63 apart are refused, and a pedal 3 with the cut alone. -/
theorem test_pedal_param :
    (ran (.pedalParam 9#8 1 400 464 24) State.reset).pedals.softCut = 24 ∧
    (replied (.pedalParam 9#8 1 400 463 12) State.reset).map (fun r => r.2.1) = [.badValue] ∧
    replied (.pedalParam 9#8 3 400 464 24) State.reset
      = [(0x9A#8, .badValue, [0xFF#8, 0xFF#8, 0xFF#8, 0xFF#8, 12#8, 0#8])] := by decide

/-- R78: PEDAL_READ ends with the soft maximum cut, and changes nothing but its reply. -/
theorem test_pedal_read :
    (replied (.pedalRead 9#8) State.reset).map (fun r => (r.2.1, r.2.2.drop (r.2.2.length - 2))) = [(.ok, [12#8, 0#8])] ∧
    (ran (.pedalRead 9#8) State.reset).pedals = State.reset.ctl.pedals := by decide

/-! ### The rail -/

/-- Section 5.7: with key 45 HELD, RAIL_SET ENGAGED at 50,000,000 waits until 55,000,000 with origin CLEAR. -/
theorem test_rail_set_waits :
    (ran (.railSet 9#8 1) (made fun c => (atTime 50000000 (uncalibrated c)).setKey 45 (keyIn .held))).rail.quietTimer
      = some 55000000#32 ∧
    replied (.railSet 9#8 1) (made fun c => (atTime 50000000 (uncalibrated c)).setKey 45 (keyIn .held))
      = [(0x9C#8, .accepted, [2#8, 1#8, 0xFF#8])] := by decide +kernel

/-- Section 5.7: the sample that brings key 45 to REST at 50,700,000 starts the motor, with its deadline at 52,200,000. -/
theorem test_quiet_starts_motor :
    (ran (.keySample 45 612) (made fun c =>
      { (atTime 50700000 (uncalibrated c)).setKey 45 { keyIn .shallow with latest := sample 50699980 700 32 } with
        rail := { c.rail with
          state := .waitQuiet, target := some .engaged, origin := some { state := .clear, cause := none }
          quietTimer := some 55000000#32 } })).rail.travelTimer = some 52200000#32 := by decide +kernel

/-- The rail on its way to the engaged stop since 50,700,000. -/
def engaging (c : Controller) : Controller :=
  { uncalibrated c with rail := { c.rail with
      state := .engaging, target := some .engaged, motor := .towardEngaged, travelTimer := some 52200000#32 } }

/-- Section 5.7: the engaged switch at its 96th frame begins the settle, 100,000 µs long. -/
theorem test_switch_change :
    (ran (.switchChange .engaged) (made fun c => atTime 51400000 (engaging { c with rail :=
        { c.rail with clearSwitch := Switch.atReset false, engagedSwitch := { level := true, closed := false, run := 96 } } }))).rail.settleTimer
      = some 51500000#32 := by decide +kernel

/-- R94: the same closing while the clear switch is still closed is a SWITCH_CONFLICT. -/
theorem test_switch_conflict :
    (ran (.switchChange .engaged) (made fun c => atTime 51400000 (engaging { c with rail :=
        { c.rail with engagedSwitch := { level := true, closed := false, run := 96 } } }))).rail.cause
      = some .switchConflict := by decide +kernel

/-- Section 5.7: the settle ends at 51,500,000 in ENGAGED, the last stop ENGAGED. -/
theorem test_settle_expiry :
    ((fun r => (r.state, r.lastStop)) (ran .settleExpiry (made fun c =>
      { atTime 51500000 (uncalibrated c) with rail := { Rail.placed false true false with
          state := .settling, lastStop := .clear, target := some .engaged, settleTimer := some 51500000#32 } })).rail)
      = (.engaged, .engaged) := by decide +kernel

/-- Section 5.7, the stall: the over-limit indication at 70,300,000 sets the stall deadline 70,500,000. -/
theorem test_over_limit :
    (ran (.overLimitChange true) (made fun c => atTime 70300000 (engaging c))).rail.stallTimer = some 70500000#32 := by decide

/-- Section 5.7, the stall: at its deadline FAULT with cause STALL, the last stop as it was. -/
theorem test_stall :
    ((fun r => (r.state, r.cause, r.lastStop, r.motor)) (ran .stall (made fun c =>
      let c := atTime 51000000 (engaging c)
      { c with rail := { c.rail with stallTimer := some 51000000#32 } })).rail) = (.fault, some .stall, .clear, .off) := by decide +kernel

/-- R91: the travel deadline leaves FAULT with cause TRAVEL_TIMEOUT. -/
theorem test_travel_timeout :
    ((fun r => (r.state, r.cause)) (ran .travelTimeout (made fun c => atTime 52200000 (engaging c))).rail)
      = (.fault, some .travelTimeout) := by decide +kernel

/-- Section 5.7: a wait not ended by 55,000,000 returns to CLEAR with RAIL_ABANDONED, target ENGAGED. -/
theorem test_rail_abandoned :
    reported .railAbandoned (made fun c => { atTime 55000000 (uncalibrated c) with rail := { c.rail with
        state := .waitQuiet, target := some .engaged, origin := some { state := .clear, cause := none }
        quietTimer := some 55000000#32 } })
      = [{ time := 55000000#32, report := .railAbandoned (some .engaged) .clear none }] := by decide +kernel

/-- R97: RAIL_RECOVER from FAULT with no switch closed drives toward the clear stop; at a clear rail it is refused with the state. -/
theorem test_rail_recover :
    (ran (.railRecover 9#8) (made fun c => { uncalibrated c with rail :=
        { Rail.placed false false false with state := .fault, cause := some .stall } })).rail.state = .disengaging ∧
    replied (.railRecover 9#8) State.reset = [(0x9D#8, .badState, [0#8])] := by decide +kernel

/-- R103: RAIL_READ of a clear rail: CLEAR, no cause, no target, no recovery field, last stop CLEAR, the clear switch closed. -/
theorem test_rail_read :
    (replied (.railRead 9#8) State.reset).map (fun r => (r.2.1, r.2.2.take 10))
      = [(.ok, [0#8, 0xFF#8, 0xFF#8, 0xFF#8, 0xFF#8, 0xFF#8, 0xFF#8, 0#8, 1#8, 0#8])] := by decide

/-! ### Voices -/

/-- R111, R112 and event 3 of section 6.8: nine LIVE voices with the reserve lowered to 8: the most attenuated, begun first, is re-owned and keeps sounding as a LIVE note. -/
theorem test_voice_split :
    (ran (.voiceSplit 9#8 8 1 0) (made fun c => { atTime 200100000 (uncalibrated c) with pool := { c.pool with
        voices := ((List.range 9).map fun i => some (note .live (40 + i) 90 (199000000 + 1000 * i) 195)) ++ List.replicate 55 none } })).used .live = 8 ∧
    ((ran (.voiceSplit 9#8 8 1 0) (made fun c => { atTime 200100000 (uncalibrated c) with pool := { c.pool with
        voices := ((List.range 9).map fun i => some (note .live (40 + i) 90 (199000000 + 1000 * i) 195)) ++ List.replicate 55 none } })).voice 0).map
      (fun n => (n.source, n.owner)) = some (.live, .playback) := by decide +kernel

/-- Section 6.8 in small: PLAYBACK owns 8 voices, six of its own, one of them the most attenuated, and LIVE notes on keys 70 and 72, borrowed. -/
def lent : State := made fun c =>
  { atTime 200000000 c with
    rail := Rail.placed false true false
    pool := { c.pool with
      liveReserve := 56
      voices :=
        [some { note .live 70 100 199700000 323 with owner := .playback }, some { note .live 72 95 199750000 331 with owner := .playback }]
          ++ ((List.range 5).map fun i => some (note .playback (36 + i) 90 199000000 178))
          ++ [some { note .playback 31 40 198000000 157 with
                aRef := 571, rateClass := .damped, rate := 8000, tRef := 199980000#32 }]
          ++ List.replicate 56 (some (note .live 20 100 199900000 122)) } }

/-- Section 6.8, event 1: a PLAYBACK strike steals the borrowed LIVE note at attenuation 178 before its own note at 731. -/
theorem test_steal :
    ((lent.ctl.poolStrike .playback 52 88).voice 1).map (fun n => (n.source, n.owner, n.key, n.aRef))
      = some (.playback, .playback, 52, 117) ∧
    (lent.ctl.voice 1).map (fun n => n.attenuation lent.ctl.now) = some 178 ∧
    (lent.ctl.voice 7).map (fun n => n.attenuation lent.ctl.now) = some 731 := by decide +kernel

/-- R124: TONE in mode AT_REST waits while a voice sounds; in an empty pool it takes effect. -/
theorem test_tone :
    replied (.tone 9#8 2 1) (made fun c => c.setVoice 0 (some (note .live 40 79 0 195))) = [(0xA1#8, .accepted, [0#8, 2#8])] ∧
    replied (.tone 9#8 2 1) State.reset = [(0xA1#8, .ok, [2#8, 0xFF#8])] := by decide

/-- R126: LAYER opens the live path of a clear rail. -/
theorem test_layer : replied (.layer 9#8 1) State.reset = [(0xA2#8, .ok, [1#8, 1#8])] := by decide

/-- R127: an entry 2001 for key 88 is refused with that key, a damper limit of 89 with 0. -/
theorem test_decay_load :
    replied (.decayLoad 9#8 (List.replicate 87 2000 ++ [2001]) 68) State.reset = [(0xA3#8, .badValue, [88#8])] ∧
    replied (.decayLoad 9#8 (List.replicate 88 2000) 89) State.reset = [(0xA3#8, .badValue, [0#8])] ∧
    (ran (.decayLoad 9#8 (List.replicate 88 2000) 88) State.reset).pool.damperLimit = 88 := by decide

/-- R128: part 7 of VOICE_READ ends with the decay entries of keys 78 to 88; part 8 is refused. -/
theorem test_voice_read :
    (replied (.voiceRead 9#8 8) State.reset).map (fun r => r.2.1) = [.badValue] ∧
    (replied (.voiceRead 9#8 7) State.reset).map (fun r => r.2.2.drop (r.2.2.length - 2)) = [[0x90#8, 1#8]] := by decide +kernel

/-- R109, R125: the end of the last voice at its deadline applies the pending tone. -/
theorem test_voice_end :
    reported (.voiceEnd 0) (made fun c =>
      let c := (atTime 5187776 c).setVoice 0 (some (note .live 40 79 1003160 195))
      { c with pool := { c.pool with pendingTone := some 3 } })
      = [{ time := 5187776#32, report := .toneApplied 3 }] := by decide

/-- Section 6.4, examples 1 to 4: the re-references of the note on key 40 and their deadlines. -/
theorem test_retunes :
    let a := note .live 40 79 1003160 195
    let b := (a.retune 1503160#32 .damped 8000).getD a
    let c := (b.retune 1523160#32 .part (partRate 195 128)).getD b
    let d := (c.retune 1543160#32 .natural 195).getD c
    (a.aRef, a.deadline) = (144, some 5187776#32) ∧ (b.aRef, b.deadline) = (241, some 1593035#32) ∧
    (c.aRef, c.rate, c.deadline) = (401, 4098, some 1659569#32) ∧ (d.aRef, d.deadline) = (482, some 3994443#32) := by decide

/-! ### Headphones -/

/-- Section 7.6: a new volume of 30 during a glide that stands at 255 starts a new one toward 495; a live mix of 40 is taken as 31. -/
theorem test_phones :
    (ran (.phones 9#8 1 30 40 0) (made fun c => { c with phones :=
        { c.phones with master := { setting := 52, applied := 255, glide := some { start := 345, target := 165, count := 240 } } } })).phones.master
      = { setting := 30, applied := 255, glide := some { start := 255, target := 495, count := 0 } } ∧
    (ran (.phones 9#8 1 40 40 0) State.reset).phones.liveMix.setting = 31 := by decide +kernel

/-- Section 7.6: at the 4800th frame of the jack run the jack is PRESENT and the output begins RISING. -/
theorem test_jack_change :
    (ran .jackChange (made fun c => { c with phones := { c.phones with jackRun := 4800 } })).phones.output = .rising ∧
    reported .jackChange (made fun c => { c with phones := { c.phones with jackRun := 4800 } })
      = [{ time := 0#32, report := .jackIn }] := by decide +kernel

/-- R137: an arrival at OFF with the standby freeing owed frees the voices. -/
theorem test_ramp_end :
    (ran .rampEnd (made fun c => { c.setVoice 0 (some (note .live 40 79 0 195)) with
        phones := { c.phones with output := .falling, freeingOwed := true } })).poolEmpty = true := by decide

/-- R138: a glide at its 480th frame ends at its target. -/
theorem test_glide_end :
    (ran (.glideEnd .master) (made fun c => { c with phones := { c.phones with
        master := { setting := 52, applied := 165, glide := some { start := 345, target := 165, count := 480 } } } })).phones.master
      = { setting := 52, applied := 165, glide := none } := by decide

/-- R81, R134, R136, R138: one frame of a rising output; the glide of section 7.6 stands at 285 at its frame 160. -/
theorem test_output_frame :
    let c := ran (.outputFrame true true true) (made fun c => { c with phones := { c.phones with
      output := .rising, master := { setting := 52, applied := 285, glide := some { start := 345, target := 165, count := 159 } } } })
    (c.phones.frame, c.phones.jackRun, c.phones.ramp, c.phones.master.applied) = (1, 1, 1, 285) ∧
    (c.rail.clearSwitch.run, c.rail.engagedSwitch.run) = (0, 1) := by decide +kernel

/-- R139: 20 dB take a sample to a tenth, 6 dB to floor(100 × 0.5012), the sign kept. -/
theorem test_scaled_samples :
    (scaledSample 200 100, scaledSample 200 (-100), scaledSample 60 100, scaledSample 0 (-7)) = (10, -10, 50, -7) := by
  decide +kernel

/-! ### Takes -/

/-- A take of `n` marks in slot A. -/
def marks (n : Nat) (c : Controller) : Controller :=
  c.setTake .a (some { origin := .recorded, records := List.replicate n (record 0 .mark 0 0), length := 9000 })

/-- Section 8.3: TAKE_WINDOW A, WRITE, 100 to 149 truncates 300 records to 100. -/
theorem test_take_window :
    (ran (.takeWindow 9#8 0 1 100 149) (made (marks 300))).count .a = 100 ∧
    replied (.takeWindow 9#8 0 1 100 149) (made (marks 300))
      = [(0xA8#8, .ok, [0#8, 1#8, 100#8, 0#8, 149#8, 0#8, 100#8, 0#8, 100#8, 0#8, 0xFF#8, 0xFF#8])] := by decide +kernel

/-- Section 8.3: a window up to index 149 that holds 140 records stores 10 of 40 and ignores 30. -/
theorem test_take_data_limited :
    (replied (.takeData 9#8 (List.replicate 40 ⟨0, 5, 0, 0⟩)) (made fun c =>
      let c := marks 140 c
      { c with takes := { c.takes with window := some { slot := .a, mode := .write, first := 100, last := 149, cursor := 140 } } })).map
        (fun r => (r.2.1, r.2.2)) = [(.ok, [10#8, 30#8, 150#8, 0#8, 150#8, 0#8])] := by decide +kernel

/-- Section 8.3: the 18th of 40 records lies before the record before it: ORDER, 17 stored, 23 dropped, position 18, and the slot settled at 14,200 ms. -/
theorem test_take_data_order :
    let s := made fun c =>
      { c.setTake .b (some { origin := .uploaded, records := List.replicate 40 (record 9900 .mark 0 0), length := 0 }) with
        takes := { slotA := none, slotB := some { origin := .uploaded, records := List.replicate 40 (record 9900 .mark 0 0), length := 0 }
                   window := some { slot := .b, mode := .write, first := 0, last := 65535, cursor := 40 } } }
    let i := Instr.takeData 9#8 (List.replicate 17 ⟨14200, 5, 0, 0⟩ ++ [⟨14020, 5, 0, 0⟩] ++ List.replicate 22 ⟨14300, 5, 0, 0⟩)
    ((ran i s).count .b, (ran i s).length .b, (ran i s).takes.window) = (57, 14200, none) ∧
    (replied i s).map (fun r => (r.2.1, r.2.2.take 7)) = [(.order, [17#8, 0#8, 23#8, 18#8, 0#8, 57#8, 0#8])] := by decide +kernel

/-- Section 8.3: the third TAKE_READ of 95 records carries 15 and leaves none. -/
theorem test_take_read :
    (replied (.takeRead 9#8) (made fun c =>
      let c := marks 95 c
      { c with takes := { c.takes with window := some { slot := .a, mode := .read, first := 0, last := 65535, cursor := 80 } } })).map
        (fun r => (r.2.1, r.2.2.take 6, r.2.2.length)) = [(.ok, [80#8, 0#8, 15#8, 0#8, 0#8, 0#8], 96)] := by decide +kernel

/-- R213: a STRIKE of key 40 at level 79, at 14,200 ms, is the bytes 78 37 00 01 28 4F. -/
theorem test_record_bytes :
    (record 14200 .strike 40 79).bytes = [0x78#8, 0x37#8, 0x00#8, 0x01#8, 0x28#8, 0x4F#8] ∧
    rawRecordOf [0x78#8, 0x37#8, 0x00#8, 0x01#8, 0x28#8, 0x4F#8] = ⟨14200, 1, 40, 79⟩ := by decide

/-- R155: TAKE_INFO of a slot that does not exist is refused; of a slot that does, it is answered and changes nothing. -/
theorem test_take_info :
    replied (.takeInfo 9#8 2) State.reset = [(0xAB#8, .badValue, [])] ∧
    (replied (.takeInfo 9#8 0) (made (marks 3))).map (fun r => (r.2.1, (r.2.2.drop 2).take 7))
      = [(.ok, [3#8, 0#8, 0x28#8, 0x23#8, 0#8, 0xFD#8, 0x3F#8])] := by decide +kernel

/-- R156: TAKE_CLEAR empties the slot. -/
theorem test_take_clear : (ran (.takeClear 9#8 0) (made (marks 3))).take .a = none := by decide

/-! ### The Recorder -/

/-- Section 9.7: REC_ARM A, FREE empties slot A and waits, ARMED. -/
theorem test_rec_arm :
    (ran (.recArm 9#8 0 0) (made (marks 3))).recState = .armed ∧
    (ran (.recArm 9#8 0 0) (made (marks 3))).take .a = some { origin := .recorded, records := [], length := 0 } := by decide

/-- Section 9.7 at 30,000,000: slot A emptied, key 28 HELD, key 40 STRUCK, the damper pedal at 200. -/
def armed (c : Controller) : Controller :=
  ((((atTime 30000000 c).setKey 28 (keyIn .held)).setKey 40 (keyIn .struck)).setPedal 0
    { PedalRec.powerOn with value := 200 }).setTake .a (some { origin := .recorded, records := [], length := 0 })

/-- Section 9.7: the strike of key 40 at 30,000,000 starts the recording with five opening records. -/
theorem test_rec_start :
    (({ armed State.reset.ctl with recorder := { job := some { target := .a, mode := .free, run := none } } }).recStrike 40 79).records .a
      = [record 0 .pedal 0 200, record 0 .pedal 1 0, record 0 .pedal 2 0, record 0 .damperUp 28 0, record 0 .damperUp 40 0,
          record 0 .strike 40 79] := by decide +kernel

/-- A recording since 30,000,000, the damper pedal last recorded at 196. -/
def recRun : RecRun :=
  { start := some 30000000#32, startTime := 0, lastDamper := 196, lastSostenuto := 0, lastSoft := 0
    limit := some 4230000000#32 }

/-- A FREE recording of three marks in slot A. -/
def recording (c : Controller) : Controller :=
  { marks 3 c with recorder := { job := some { target := .a, mode := .free, run := some recRun } } }

/-- Section 9.7: REC_MARK 3 at 31,002,300 is written at 1002 ms. -/
theorem test_rec_mark :
    replied (.recMark 9#8 3) (made fun c => atTime 31002300 (recording c))
      = [(0xB1#8, .ok, [3#8, 0#8, 0xEA#8, 3#8, 0#8, 4#8, 0#8])] ∧
    ((ran (.recMark 9#8 3) (made fun c => atTime 31002300 (recording c))).records .a).getLast? = some (record 1002 .mark 3 0) := by
  decide +kernel

/-- Section 9.7: the damper pedal 194 from its last recorded value is written; REC_STOP at 33,250,700 gives the length 3250 ms. -/
theorem test_rec_pedal_and_stop :
    ((ran (.pedalSample 0 430) (made fun c => atTime 31499500 ((recording c).setPedal 0 { PedalRec.powerOn with value := 196 }))).records .a).getLast?
      = some (record 1499 .pedal 0 2) ∧
    (ran (.recStop 9#8) (made fun c => atTime 33250700 (recording c))).length .a = 3250 := by decide +kernel

/-- R168: 4,200,000,000 µs after its start the recording ends with length 4,200,000 ms. -/
theorem test_rec_time_limit :
    (ran .recTimeLimit (made fun c => atTime 4230000000 (recording c))).length .a = 4200000 ∧
    (ran .recTimeLimit (made fun c => atTime 4229999999 (recording c))).recState = .recording := by decide

/-! ### The Player -/

/-- Section 10.11: the take of the loop example. -/
def loopTake : Take :=
  { origin := .recorded, length := 8000
    records :=
      [record 0 .pedal 0 0, record 0 .pedal 1 0, record 0 .pedal 2 0, record 1500 .pedal 0 200, record 2000 .damperUp 45 0,
        record 2000 .strike 45 70, record 3000 .damperUp 52 0, record 3010 .strike 52 88, record 4000 .pedal 0 0,
        record 4500 .damperDown 52 0, record 5000 .pedal 1 140, record 5800 .damperDown 45 0, record 6000 .damperUp 57 0,
        record 6000 .strike 57 60, record 7000 .damperDown 57 0, record 7500 .pedal 0 0, record 7500 .pedal 1 0] }

/-- The Player in a phase at a cursor and a take time in the loop example, at tempo 80, its take time brought up at a stage time. -/
def playing (phase : PlayPhase) (cursor time since : Nat) (loop : Option Loop) (due : Option Time) (c : Controller) : Controller :=
  let c := (uncalibrated c).setTake .a (some loopTake)
  { c with player := { c.player with
      tempo := 80
      session := some { phase := phase, slot := .a, cursor := cursor, time := time, remainder := 0, since := BitVec.ofNat 32 since
                        due := due, loop := loop } } }

/-- Section 10.11: PLAY_START A from 0 applies the three PEDAL records at 0 and aims at 1500 ms, 1,875,000 µs ahead at tempo 80. -/
theorem test_play_start :
    ((ran (.playStart 9#8 0 0) (made fun c => atTime 100000000 (playing .playing 0 0 0 none none c |>.setSession none))).player.session).map
      (fun x => (x.cursor, x.time, x.due)) = some (3, 0, some 101875000#32) := by decide +kernel

/-- Section 10.11: PLAY_LOOP 2000 to 6000 at 100,500,000, take time 400,000, arms the loop with the snapshot 200, 0, 0. -/
theorem test_play_loop :
    ((ran (.playLoop 9#8 2000 6000 2) (made fun c => atTime 100500000 (playing .playing 3 0 100000000 none (some 101875000#32) c))).player.session).map
      (fun x => (x.time, x.loop)) = some (400000, some
        { start := 2000, stop := 6000, count := 2, passes := 0, damper := 200, sostenuto := 0, soft := 0, armed := true }) := by
  decide +kernel

/-- Section 10.11: at 106,250,000 the sostenuto engages and captures key 45. -/
theorem test_due_pedal :
    (ran .dueTimerExpiry (made fun c =>
      let c := atTime 106250000 (playing .playing 10 4500000 105625000 none (some 106250000#32) c)
      { c with player := { c.player with keyDown := [45] } })).player.held = [45] := by decide +kernel

/-- Section 10.11: at 107,500,000 the loop jumps to index 4, whose records at 2000 ms are due at once: key 45 is down and sounds at level 70. -/
theorem test_loop_jump :
    let c := ran .dueTimerExpiry (made fun c => atTime 107500000 (playing .playing 12 5800000 107250000
      (some { start := 2000, stop := 6000, count := 2, passes := 0, damper := 200, sostenuto := 0, soft := 0, armed := true })
      (some 107500000#32) c))
    (c.player.keyDown, c.player.damper, c.player.session.map fun x => (x.cursor, x.time)) = ([45], 200, some (6, 2000000)) ∧
    (c.voice 0).map (fun n => (n.key, n.level)) = some (45, 70) := by decide +kernel

/-- Section 10.11: at 120,000,000 the take time reaches the length, the Player stops and END carries 8000 ms. -/
theorem test_natural_end :
    reported .dueTimerExpiry (made fun c => atTime 120000000 (playing .playing 17 7500000 119375000 none (some 120000000#32) c))
      = [{ time := 120000000#32, report := .playEnd .a 8000 }] := by decide +kernel

/-- R183: PLAY_STOP empties the Player; in STOPPED it is ALREADY. -/
theorem test_play_stop :
    (ran (.playStop 9#8) (made (playing .playing 3 400000 0 none none))).playerState = .stopped ∧
    replied (.playStop 9#8) State.reset = [(0xB9#8, .already, [])] := by decide +kernel

/-- Section 9.8: a pause after 300,000 µs of take time stands there, and the mark of a SYNC recording is written at it. -/
theorem test_play_pause :
    ((ran (.playPause 9#8) (made fun c =>
      let c := atTime 61000000 (playing .playing 3 12600000 60400000 none none c)
      { c with player := { c.player with tempo := 50 } })).player.session).map (fun x => (x.phase, x.time))
      = some (.paused false, 12900000) := by decide +kernel

/-- R186: PLAY_RESUME of a pause at 400,000 µs of take time is due at the next record, 1,375,000 µs of stage time ahead at tempo 80. -/
theorem test_play_resume :
    ((ran (.playResume 9#8) (made fun c => atTime 200000000 (playing (.paused false) 3 400000 0 none none c))).player.session).bind
      (fun x => x.due) = some 201375000#32 := by decide +kernel

/-- R187: PLAY_SEEK to 2500 ms in a pause stands at index 6 with the damper at 200; beyond the length it is refused. -/
theorem test_play_seek :
    ((ran (.playSeek 9#8 2500) (made (playing (.paused true) 3 400000 0 none none))).player.session).map (fun x => (x.phase, x.cursor))
      = some (.paused false, 6) ∧
    (ran (.playSeek 9#8 2500) (made (playing (.paused true) 3 400000 0 none none))).player.damper = 200 ∧
    (replied (.playSeek 9#8 8001) (made (playing (.paused true) 3 400000 0 none none))).map (fun r => r.2.1) = [.badValue] := by
  decide +kernel

/-- R174, R175: a refused PLAY_SEEK brings the take time to 1,500,000 µs and takes the PEDAL record at 1500 ms. -/
theorem test_refused_seek_takes_what_is_reached :
    let c := ran (.playSeek 9#8 8001) (made fun c => atTime 101875000 (playing .playing 3 0 100000000 none none c))
    (c.player.damper, c.player.session.map fun x => (x.cursor, x.time)) = (200, some (4, 1500000)) := by decide +kernel

/-- R178: a tempo of 24 is taken as 25, one of 201 as 200. -/
theorem test_play_tempo :
    (ran (.playTempo 9#8 24) State.reset).player.tempo = 25 ∧ (ran (.playTempo 9#8 201) State.reset).player.tempo = 200 := by decide

/-- R178: 500,000 µs at tempo 80 are 400,000 µs of take time, the new tempo 25 notwithstanding; the 1,100,000 µs to the record at 1500 ms then take 4,400,000 µs. -/
theorem test_play_tempo_counts_at_the_old :
    ((ran (.playTempo 9#8 25) (made fun c => atTime 100500000 (playing .playing 3 0 100000000 none (some 101875000#32) c))).player.session).map
      (fun x => (x.time, x.remainder, x.due)) = some (400000, 0, some 104900000#32) := by decide +kernel

/-- The wait of section 10.12 for keys 60 and 67, in the take of section 10.11 at 1,600,000. -/
def guided (c : Controller) : Controller :=
  let c := playing .waiting 4 1600000 50000000 none none c
  { atTime 50350000 c with player := { c.player with tempo := 100, guide := .right, expected := [60, 67], consumed := [24, 26] } }

/-- Section 10.12: a strike of key 62 is a GUIDE_MISS with 2 keys expected; one of key 60 leaves key 67. -/
theorem test_guided_strikes :
    ((guided { State.reset.ctl with link := { State.reset.ctl.link with mask := 0xFF#8, queue := [] } }).guideStrike 62).link.queue
      = [{ time := 50350000#32, report := .guideMiss 62 2 }] ∧
    ((guided State.reset.ctl).guideStrike 60).player.expected = [67] := by decide +kernel

/-- Section 10.12: PLAY_HANDS with guide hand NONE ends the wait and keeps the consumed list; a split key of 90 is refused. -/
theorem test_play_hands :
    (ran (.playHands 9#8 40 0 0 60) (made guided)).playerState = .playing ∧
    (ran (.playHands 9#8 40 0 0 60) (made guided)).player.consumed = [24, 26] ∧
    (replied (.playHands 9#8 90 0 0 60) State.reset).map (fun r => r.2.1) = [.badValue] := by decide +kernel

/-- R174, the first example of section 10.2: PLAY_READ after 40,000 µs at tempo 75 brings the take time up by 30,000 µs. -/
theorem test_play_read :
    ((ran (.playRead 9#8) (made fun c =>
      let c := atTime 40000 (playing .playing 3 0 0 none none c)
      { c with player := { c.player with tempo := 75 } })).player.session).map (fun x => (x.time, x.remainder))
      = some (30000, 0) := by decide +kernel

/-- R207: RESETN_LOW holds the controller in reset. -/
theorem test_resetn_low : (ran .resetnLow State.reset).inReset = true := by decide

/-! ### The hypotheses of the statements can be met

One theorem for each statement that has hypotheses: for each of its clauses, a state and operands that meet the clause's hypotheses together, at the ends of their ranges where they have ends. -/

/-- Sizes that make a controller `Sized`. -/
theorem sized_of {c : Controller}
    (h : (c.keys.length, c.curves.acoustic.length, c.curves.silent.length, c.trim.rounds.length, c.trim.units.length)
      = (88, 25, 25, 11, 11) ∧ (c.pedals.recs.length, c.pool.voices.length, c.pool.decay.length) = (3, 64, 88)) : c.Sized := by
  simp only [Prod.mk.injEq] at h
  obtain ⟨⟨h1, h2, h3, h4, h5⟩, h6, h7, h8⟩ := h
  exact ⟨h1, h2, h3, h4, h5, h6, h7, h8⟩

/-- A check over the 64 voices that makes a pool `PoolOk`. -/
def poolCheck (c : Controller) : Bool :=
  decide (8 ≤ c.pool.liveReserve ∧ c.pool.liveReserve ≤ 56 ∧ c.used .live ≤ c.reserve .live ∧
    c.used .playback ≤ c.reserve .playback ∧ c.pool.voices.length = 64) &&
  (List.range 64).all fun i => (List.range 64).all fun j =>
    match c.voice i, c.voice j with
    | some a, some b => decide (a.source = b.source → a.key = b.key → i = j)
    | _, _ => true

theorem poolOk_of {c : Controller} (h : poolCheck c = true) : c.PoolOk := by
  simp only [poolCheck, Bool.and_eq_true, decide_eq_true_eq, List.all_eq_true, List.mem_range] at h
  obtain ⟨⟨h1, h2, h3, h4, h5⟩, h6⟩ := h
  have inside : ∀ i n, c.voice i = some n → i < 64 := by
    intro i n hi
    by_contra hlt
    have : c.pool.voices[i]? = none := by simp [h5]; omega
    simp [Controller.voice, this] at hi
  refine ⟨h1, h2, ?_, ?_⟩
  · rintro (_ | _) <;> assumption
  · intro i j a b ha hb hs hk
    have := h6 i (inside i a ha) j (inside j b hb)
    rw [ha, hb] at this
    simp only [decide_eq_true_eq] at this
    exact this hs hk

/-- Held in power-on reset. -/
def held : State := made fun c => { c with inReset := true }

/-- No report waits: nothing is due. -/
def silent : State := made fun c => { c with link := { c.link with queue := [] } }

/-- Silent, in standby. -/
def silentAsleep : State := made fun c =>
  { uncalibrated c with
    clock := { c.clock with suspended := true }
    trim := { (uncalibrated c).trim with rounds := List.replicate 11 none }
    link := { c.link with queue := [], state := .standby } }

theorem witness_StepTakesFrontOrIdles :
    (held.pending = [] ∧ held.ctl.inReset = true) ∧
    (State.reset.pending = [] ∧ State.reset.Running ∧ State.reset.ctl.dueEvents ≠ []) ∧
    (silentAsleep.pending = [] ∧ silentAsleep.Running ∧ silentAsleep.ctl.dueEvents = [] ∧ silentAsleep.ctl.clock.suspended = true) ∧
    (silent.pending = [] ∧ silent.Running ∧ silent.ctl.dueEvents = [] ∧ silent.ctl.clock.suspended = false) := by decide +kernel

theorem witness_HeldResetIgnoresCommands :
    State.reset.Running ∧ held.ctl.inReset = true ∧ (Instr.keySample 88 4095).wf = true ∧
    ∀ a b, Instr.keySample 88 4095 ≠ .powerOnReset a b := ⟨rfl, rfl, by decide, by simp⟩

theorem witness_WellFormedCommandsAnswer :
    (Instr.keySample 88 4095).wf = true ∧ exec (.keySample 0 0) State.reset = .fault .noSuchKey ∧
    exec (.keyClear 89) State.reset = .fault .noSuchKey ∧ exec (.roundExpiry 11) State.reset = .fault .noSuchGroup ∧
    exec (.pedalClear 3) State.reset = .fault .noSuchPedal ∧ exec (.voiceEnd 64) State.reset = .fault .noSuchVoice ∧
    exec (.pedalSample 2 4096) State.reset = .fault .noSuchReading := ⟨by decide, rfl, rfl, rfl, rfl, rfl, rfl⟩

/-- The events that may find nothing due. -/
def someEvents : List Instr :=
  [.silentPress 1, .keyFault 88, .keyClear 1, .roundExpiry 10, .calComplete, .sostenutoOn, .pedalFault 2, .pedalClear 0,
    .switchChange .clear, .railAbandoned, .travelTimeout, .stall, .settleExpiry, .voiceEnd 63, .recTimeLimit, .dueTimerExpiry,
    .rampEnd, .glideEnd .master, .jackChange, .rxTimeout, .wakeComplete, .dispatchFrame, .lineGrant]

theorem witness_EventsNotDueChangeNothing :
    silent.Running ∧ silent.ctl.link.line = none ∧ silent.ctl.link.resetDue = false ∧
    ∀ i ∈ someEvents, i.wf = true ∧ i ∉ silent.ctl.dueEvents := by decide +kernel

/-- The OK reply to RESET has been transmitted. -/
def resetting : State := made fun c => { c with link := { c.link with resetDue := true } }

theorem witness_SoftResetVoicePool : resetting.Running ∧ resetting.ctl.link.resetDue = true := ⟨rfl, rfl⟩

theorem witness_SoftResetEveryBlock :
    resetting.Running ∧ resetting.ctl.link.resetDue = true ∧ resetting.ctl.Sized ∧
    (let r := ((made fun c => c.setKey 40 { keyIn .held with latest := sample 0 700 32 }).ctl.key 40)
     r.state ≠ .fault ∧ r.state ≠ .uncal ∧ r.calLost = false ∧ r.latestDepth = State.reset.ctl.thresholds.rest) :=
  ⟨rfl, rfl, sized_of (by decide +kernel), by decide⟩

/-- The Link with a receiver, a number of frames waiting and a number of entries in its busy list. -/
def receiving (r : Receiver) (frames busy : Nat) : State := made fun c => { c with link :=
  { c.link with
    receiver := r, rxTimer := some 240
    input := List.replicate frames { length := 2#8, bytes := [0x02#8, 0x17#8, 0xE5#8] }
    busy := List.replicate busy { tag := 0#8, kind := 0x02#8 } } }

theorem witness_ReceiverFollowsBytes :
    (receiving .hunting 0 0).ctl.link.receiver = .hunting ∧ (0xC3#8 : Byte) ≠ 0xC2#8 ∧
    (receiving .awaitLength 0 0).ctl.link.receiver = .awaitLength ∧
    (2 ≤ (2#8 : Byte).toNat ∧ (2#8 : Byte).toNat ≤ 250) ∧ (2 ≤ (250#8 : Byte).toNat ∧ (250#8 : Byte).toNat ≤ 250) ∧
    ((1#8 : Byte).toNat < 2 ∨ 250 < (1#8 : Byte).toNat) ∧ ((251#8 : Byte).toNat < 2 ∨ 250 < (251#8 : Byte).toNat) ∧
    ((receiving (.inBody 2#8 [1#8]) 0 0).ctl.link.receiver = .inBody 2#8 [1#8] ∧ [1#8].length < (2#8 : Byte).toNat) ∧
    ([(3, 0), (4, 3), (4, 4)].all fun p => decide ((receiving (.inBody 2#8 [1#8, 2#8]) p.1 p.2).Running ∧
      (receiving (.inBody 2#8 [1#8, 2#8]) p.1 p.2).ctl.link.receiver = .inBody 2#8 [1#8, 2#8] ∧
      [1#8, 2#8].length = (2#8 : Byte).toNat ∧ (receiving (.inBody 2#8 [1#8, 2#8]) p.1 p.2).ctl.link.input.length = p.1 ∧
      (receiving (.inBody 2#8 [1#8, 2#8]) p.1 p.2).ctl.link.busy.length = p.2)) = true ∧
    ∃ s : State, s.Running ∧ s.ctl.link.rxTimer = some 240 ∧ 240 ≤ s.ctl.phones.frame :=
  ⟨rfl, by decide, rfl, by decide, by decide, by decide, by decide, by decide, by decide +kernel,
    made fun c => { c with phones := { c.phones with frame := 240 }, link := { c.link with rxTimer := some 240 } }, rfl, rfl, by decide⟩

theorem witness_FrameBytesAreReceived :
    (receiving .hunting 3 0).Running ∧ (List.replicate 248 0xC3#8 : List Byte).length ≤ 248 ∧
    (receiving .hunting 3 0).ctl.link.receiver = .hunting ∧ (receiving .hunting 3 0).ctl.link.input.length < 4 :=
  ⟨rfl, by rw [List.length_replicate], rfl, by decide⟩

/-- Frames that wait, no reply in the way. -/
def waiting (frames : List RxFrame) : State := made fun c => { c with link := { c.link with input := frames } }

theorem witness_RequestFrameRunsItsRequest :
    (Instr.keyParam 9#8 255 65535 0 0 (-128)).wf = true ∧
    requestFrame (.keyParam 9#8 255 65535 0 0 (-128)) = some (0x12#8, 9#8, [255#8, 255#8, 255#8, 0#8, 0#8, 0#8, 0#8, 128#8]) ∧
    (waiting [checkedFrame 0x12#8 9#8 [255#8, 255#8, 255#8, 0#8, 0#8, 0#8, 0#8, 128#8]]).ctl.link.input
      = checkedFrame 0x12#8 9#8 [255#8, 255#8, 255#8, 0#8, 0#8, 0#8, 0#8, 128#8] :: [] ∧
    (waiting []).Running ∧ (waiting []).ctl.replyPending = false ∧ (waiting []).ctl.link.resetDue = false := by decide +kernel

theorem witness_BadFramesAreRefused :
    (waiting [⟨2#8, [2#8, 0x17#8, 0xE6#8]⟩]).ctl.replyPending = false ∧ State.reset.ctl.link.resetDue = false ∧
    sumBytes [2#8, 2#8, 0x17#8, 0xE6#8] ≠ 0#8 ∧
    (sumBytes ((checkedFrame 0x07#8 1#8 []).length :: (checkedFrame 0x07#8 1#8 []).bytes) = 0#8 ∧
      ∀ n, ((checkedFrame 0x07#8 1#8 []).kind.toNat, n) ∉ bodySizes) ∧
    (sumBytes ((checkedFrame 0x02#8 1#8 [0#8]).length :: (checkedFrame 0x02#8 1#8 [0#8]).bytes) = 0#8 ∧
      (0x02, 0) ∈ bodySizes ∧ (checkedFrame 0x02#8 1#8 [0#8]).body.length ≠ 0) ∧
    ((checkedFrame 0x29#8 1#8 [0#8]).kind = 0x29#8 ∧
      ¬ ∃ n, byteAt (checkedFrame 0x29#8 1#8 [0#8]).body 0 = n ∧ 1 ≤ n ∧ n ≤ 40 ∧
        (checkedFrame 0x29#8 1#8 [0#8]).body.length = 1 + 6 * n) := by
  refine ⟨by decide, rfl, by decide, ⟨by decide, ?_⟩, by decide, by decide, ?_⟩
  · intro n h
    have k : (checkedFrame 0x07#8 1#8 []).kind.toNat = 7 := by decide
    rw [k] at h
    simp [bodySizes] at h
  · rintro ⟨n, hn, h1, -⟩
    have b : byteAt (checkedFrame 0x29#8 1#8 [0#8]).body 0 = 0 := by decide
    omega

theorem witness_EachFrameIsAnsweredOnce :
    (waiting [⟨2#8, []⟩, ⟨2#8, []⟩]).Running ∧ (waiting [⟨2#8, []⟩, ⟨2#8, []⟩]).ctl.link.input = ⟨2#8, []⟩ :: [⟨2#8, []⟩] ∧
    (waiting [⟨2#8, []⟩, ⟨2#8, []⟩]).ctl.replyPending = false ∧ (waiting [⟨2#8, []⟩, ⟨2#8, []⟩]).ctl.link.resetDue = false := by
  decide

/-- A Link with replies, a busy list, reports and an overrun mark. -/
def sending (replies busy : Nat) (mark : Bool) (line : Option Sending) : State := made fun c => { c with link :=
  { c.link with
    replies := List.replicate replies { kind := 0x84#8, tag := 1#8, code := .ok, fields := [] }
    busy := List.replicate busy { tag := 0#8, kind := 0x02#8 }, overrun := mark, line := line } }

theorem witness_LineGrantOrder :
    (let l := (sending 1 1 true none).ctl.link
     l.line = none ∧ l.resetDue = false ∧ l.replies = { kind := 0x84#8, tag := 1#8, code := .ok, fields := [] } :: []) ∧
    (let l := (sending 0 1 true none).ctl.link
     l.line = none ∧ l.resetDue = false ∧ l.replies = [] ∧ l.input = [] ∧ l.busy = { tag := 0#8, kind := 0x02#8 } :: []) ∧
    (let l := (sending 0 0 true none).ctl.link
     l.line = none ∧ l.resetDue = false ∧ l.replies = [] ∧ l.input = [] ∧ l.busy = [] ∧ l.overrun = true ∧
      l.queue = { time := 0#32, report := .started false } :: []) ∧
    (sending 0 0 false none).ctl.link.overrun = false ∧
    (sending 0 0 false (some (.reply { kind := 0x84#8, tag := 1#8, code := .ok, fields := [] }))).ctl.link.line
      = some (.reply { kind := 0x84#8, tag := 1#8, code := .ok, fields := [] }) ∧
    ((sending 0 0 false (some (.report { time := 0#32, report := .jackIn }))).ctl.link.line
      = some (.report { time := 0#32, report := .jackIn }) ∧
      ∀ r, Sending.report { time := 0#32, report := .jackIn } ≠ .reply r) := by
  refine ⟨by decide, by decide, by decide, by decide, by decide, by decide, by simp⟩

/-- A report queue of a length. -/
def queued (n : Nat) : Controller :=
  { State.reset.ctl with link := { State.reset.ctl.link with queue := List.replicate n { time := 0#32, report := .jackIn } } }

theorem witness_ReportPlacement :
    (queued 0).link.mask.getLsbD (Report.keyClear 1).class.code = false ∧
    ((queued 63).link.mask.getLsbD Report.jackIn.class.code = true ∧ (queued 63).link.queue.length < 64) ∧
    ((queued 64).link.mask.getLsbD Report.jackIn.class.code = true ∧ 64 ≤ (queued 64).link.queue.length) := by decide +kernel

theorem witness_IdentStatusAndReset : waking.Running ∧ State.reset.Serving := ⟨rfl, rfl, rfl⟩

theorem witness_SleepingControllerAnswersStandby :
    asleep.Running ∧ asleep.ctl.link.state ≠ .active ∧ waking.ctl.link.state ≠ .active ∧ (Instr.takeRead 1#8).wf = true ∧
    requestFrame (.takeRead 1#8) = some (0x2A#8, 1#8, []) ∧ requestFrame (.reset 1#8) = some (0x04#8, 1#8, []) := by decide

/-- Each condition that refuses or takes STANDBY. -/
theorem witness_StandbyChecksAndEntry :
    (made (playing .playing 3 0 0 none none)).ctl.closeWindow.playerState ≠ .stopped ∧
    ((made recording).ctl.closeWindow.playerState = .stopped ∧ (made recording).ctl.closeWindow.recState ≠ .idle) ∧
    ((made engaging).ctl.closeWindow.recState = .idle ∧ (made engaging).ctl.closeWindow.rail.state = .engaging) ∧
    (State.reset.Serving ∧ State.reset.ctl.closeWindow.rail.state = .clear ∧ State.reset.ctl.closeWindow.trim.cal ≠ none) ∧
    (let c := (made uncalibrated).ctl.closeWindow
     c.playerState = .stopped ∧ c.recState = .idle ∧ c.rail.state = .clear ∧ c.trim.cal = none ∧ c.phones.output = .off) ∧
    ([OutputState.on, .falling, .rising].all fun o =>
      decide ((made fun c => { uncalibrated c with phones := { c.phones with output := o } }).ctl.closeWindow.phones.output = o))
      = true := by decide +kernel

theorem witness_WakeBegins :
    (asleep.Running ∧ asleep.ctl.closeWindow.link.state = .standby) ∧ State.reset.ctl.closeWindow.link.state ≠ .standby ∧
    (asleep.ctl.link.state = .standby ∧ (asleep.ctl.key 40).state = .rest ∧ (asleep.ctl.key 40).latestDepth < 560 ∧
      asleep.ctl.thresholds.lift = 560 ∧ (asleep.ctl.key 40).depth 2139 = 560 ∧ (asleep.ctl.key 40).depth 2138 = 559) := by
  decide +kernel

theorem witness_WakeCompletes :
    waking.Running ∧ waking.ctl.Sized ∧ waking.ctl.link.state = .waking ∧ waking.ctl.link.wakeSource = some .request ∧
    waking.ctl.link.wakeTimer = some 960 ∧ 960 ≤ waking.ctl.phones.frame :=
  ⟨rfl, sized_of (by decide +kernel), rfl, rfl, rfl, by decide⟩

theorem witness_SettingsRequests :
    State.reset.Serving ∧ State.reset.ctl.Sized ∧
    (¬ (16 ≤ 15 ∧ 15 + 16 ≤ 160 ∧ 160 + 16 ≤ 560 ∧ 560 + 64 ≤ 920 ∧ 920 ≤ 1000)) ∧
    ((16 ≤ 16 ∧ 16 + 16 ≤ 32 ∧ 32 + 16 ≤ 48 ∧ 48 + 64 ≤ 112 ∧ 112 ≤ 1000) ∧
      ({ rest := 16, damp := 32, lift := 48, strike := 112 } : Thresholds) ≠ State.reset.ctl.closeWindow.thresholds) ∧
    ({ rest := 32, damp := 160, lift := 560, strike := 920 } : Thresholds) = State.reset.ctl.closeWindow.thresholds ∧
    3 ≤ 3 ∧ (¬ (400 ≤ 4095 ∧ 463 ≤ 4095 ∧ 400 + 64 ≤ 463 ∧ 24 ≤ 24) ∧ (4031 ≤ 4095 ∧ 4095 ≤ 4095 ∧ 4031 + 64 ≤ 4095 ∧ 24 ≤ 24) ∧
      (400, 3600, 12) = ((State.reset.ctl.closeWindow.pedal 2).restRaw, (State.reset.ctl.closeWindow.pedal 2).fullRaw,
        State.reset.ctl.closeWindow.pedals.softCut)) ∧
    (0 != 0) = State.reset.ctl.closeWindow.pool.layer ∧ (255 != 0) ≠ State.reset.ctl.closeWindow.pool.layer ∧
    BitVec.ofNat 8 0x88 = State.reset.ctl.closeWindow.link.mask ∧ BitVec.ofNat 8 255 ≠ State.reset.ctl.closeWindow.link.mask :=
  ⟨⟨rfl, rfl⟩, sized_of (by decide +kernel), by decide, by decide, by decide, by decide, by decide, by decide, by decide,
    by decide, by decide⟩

theorem witness_SnapshotReplies :
    State.reset.Serving ∧ (0 = 0 ∨ 88 < 0) ∧ (89 = 0 ∨ 88 < 89) ∧ (1 ≤ 1 ∧ 1 ≤ 88) ∧ (1 ≤ 88 ∧ 88 ≤ 88) ∧ 1 < 2 ∧
    Curve.acoustic.code = 0 ∧ Curve.silent.code = 1 ∧ 7 < 8 ∧ 7 ≤ 7 ∧ Slot.a.code = 0 ∧ Slot.b.code = 1 ∧
    (∃ x, (made (playing .playing 3 400000 0 none none)).ctl.closeWindow.bringUp.player.session = some x ∧ x.phase = .playing ∧
      (made (playing .playing 3 400000 0 none none)).ctl.closeWindow.bringUp.NothingDue x) :=
  ⟨⟨rfl, rfl⟩, by decide, by decide, by decide, by decide, by decide, rfl, rfl, by decide, by decide, rfl, rfl,
    ⟨_, rfl, rfl, rfl, rfl, _, rfl, by decide⟩⟩

/-- A recording in progress while key 40 stands in a state, its latest sample of a depth 20 µs ago and its fault timer just reached, a LIVE voice sounding on it, every report class enabled. -/
def takenDown (state : KeyState) (raw depth : Nat) : State := made fun c =>
  { (atTime 30000020 (recording (uncalibrated c))).setKey 40
      { keyIn state with latest := sample 30000000 raw depth, tLift := some 29997000#32, flight := some 30117000#32, faultTimer := some 30000020#32 } with
    pool := { c.pool with voices := c.pool.voices.set 0 (some (note .live 40 100 30000000 195)) }
    link := { c.link with mask := 0xFF#8 } }

/-- The source and key of voice 0 where it sounds. -/
def sounding (c : Controller) : Option (Source × Nat) :=
  match c.voice 0 with
  | some n => if n.fading then none else some (n.source, n.key)
  | none => none

theorem witness_KeyMuteAndParam :
    State.reset.Serving ∧ State.reset.ctl.Sized ∧ (0 = 0 ∨ 88 < 0) ∧ (89 = 0 ∨ 88 < 89) ∧
    (0 != 0) = (State.reset.ctl.closeWindow.key 88).muted ∧ (1 != 0) ≠ (State.reset.ctl.closeWindow.key 1).muted ∧
    ¬ (600 ≤ 4095 ∧ 855 ≤ 4095 ∧ 2000 ≤ 2000 ∧ 600 + 256 ≤ 855) ∧
    ((3839 ≤ 4095 ∧ 4095 ≤ 4095 ∧ 2000 ≤ 16000 ∧ 16000 ≤ 16000 ∧ (-16 : Int) ≤ 15 ∧ (15 : Int) ≤ 15 ∧ 3839 + 256 ≤ 4095) ∧
      3839 ≠ (State.reset.ctl.closeWindow.key 1).nominal ∧ (State.reset.ctl.closeWindow.key 1).state ≠ .fault ∧
      State.reset.ctl.closeWindow.calibrating ((1 - 1) / 8) = true ∧
      State.reset.ctl.closeWindow.calibrating ((88 - 1) / 8) = false) ∧
    ((600, 3400, 9000, (0 : Int)) = ((State.reset.ctl.closeWindow.key 1).nominal, (State.reset.ctl.closeWindow.key 1).bottom,
      (State.reset.ctl.closeWindow.key 1).travel, (State.reset.ctl.closeWindow.key 1).levelTrim)) ∧
    ([KeyState.held, .armed, .struck].all fun st =>
      let s := takenDown st 1049 160
      decide (s.Serving ∧ (1 != 0) ≠ (s.ctl.closeWindow.key 40).muted ∧ (s.ctl.closeWindow.key 40).state = st ∧
        s.ctl.closeWindow.calibrating ((40 - 1) / 8) = false ∧ 3839 ≠ (s.ctl.closeWindow.key 40).nominal ∧
        s.ctl.closeWindow.recorder.job = some { target := .a, mode := .free, run := some recRun } ∧
        sounding (ran (.keyMute 0#8 40 1) s) = some (.live, 40) ∧
        sounding (ran (.keyParam 0#8 40 3839 4095 2000 0) s) = some (.live, 40))) = true ∧
    (let s := takenDown .shallow 1000 142
     (1 != 0) ≠ (s.ctl.closeWindow.key 40).muted ∧ (s.ctl.closeWindow.key 40).state = .shallow) :=
  ⟨⟨rfl, rfl⟩, sized_of (by decide +kernel), by decide, by decide, by decide, by decide, by decide, by decide +kernel, by decide,
    by decide +kernel, by decide⟩

/-- A rail that waits for a stop, key 40 in SHALLOW at depth 142. -/
def waitsFor (t : Stop) : State := made fun _ =>
  let c := (takenDown .shallow 1000 142).ctl
  { c with rail := { c.rail with
      state := .waitQuiet, target := some t, origin := some { state := .clear, cause := none }, quietTimer := some 0#32 } }

theorem witness_KeySampleKept :
    State.reset.Serving ∧ State.reset.ctl.Sized ∧ (1 ≤ 1 ∧ 1 ≤ 88 ∧ 0 < 4096) ∧ (1 ≤ 88 ∧ 88 ≤ 88 ∧ 4095 < 4096) ∧
    (∀ x n, (State.reset.ctl.trimUnit ((88 - 1) / 8)).phase ≠ .trimming 88 x n) ∧
    (let s := waitsFor .engaged
     s.Serving ∧ s.ctl.rail.state = .waitQuiet ∧ s.ctl.rail.target = some .engaged ∧ s.ctl.trim.cal = none ∧
      (∀ x ∈ (ran (.keySample 40 600) s).keys, x.state ∉ [KeyState.shallow, .held, .armed, .struck]) ∧
      ¬ (∀ x ∈ (ran (.keySample 40 1000) s).keys, x.state ∉ [KeyState.shallow, .held, .armed, .struck]) ∧
      s.ctl.link.mask.getLsbD 3 = true ∧ s.ctl.link.queue.length < 60) :=
  ⟨⟨rfl, rfl⟩, sized_of (by decide +kernel), by decide, by decide,
    by simp [State.reset, Controller.powerOn, TrimEngine.powerOn, Controller.trimUnit], by decide +kernel⟩

/-- Key 40 in a state, its hold-off and lift_spent marks given, with no calibration. -/
def keyed (state : KeyState) (holdOff liftSpent : Bool) : State := made fun c =>
  (uncalibrated c).setKey 40 { keyIn state with holdOff := holdOff, liftSpent := liftSpent, latest := sample 0 612 0 }

/-- Key 40 in each state with each mark; the readings of each pair stand at the two sides of a falling level (24, 152, 552) or of a threshold (32, 160, 560, 920). -/
theorem witness_KeySampleFollowsDepth :
    ([KeyState.rest, .shallow, .held, .armed, .struck, .uncal, .fault, .muted].all fun st =>
      decide ((keyed st false false).Serving ∧ (keyed st false false).ctl.thresholds.ok = true ∧
        ((keyed st false false).ctl.key 40).state = st ∧ ((keyed st true false).ctl.key 40).holdOff = true ∧
        ((keyed st false true).ctl.key 40).liftSpent = true)) = true ∧
    (keyed .rest false false).ctl.Sized ∧
    [677, 678, 699, 700, 1026, 1027, 1048, 1049, 2116, 2117, 2138, 2139, 3119, 3120].map
        ((keyed .rest false false).ctl.key 40).depth
      = [23, 24, 31, 32, 151, 152, 159, 160, 551, 552, 559, 560, 919, 920] ∧
    ((takenDown .held 2106 548).Serving ∧ (takenDown .held 2106 548).ctl.Sized ∧
      (takenDown .held 2106 548).ctl.thresholds.ok = true ∧
      ((ran (.keySample 40 2139) (takenDown .held 2106 548)).key 40).state = .armed ∧
      ((ran (.keySample 40 2139) (takenDown .armed 2142 561)).key 40).state = .armed ∧
      ((ran (.keySample 40 2116) (takenDown .armed 2142 561)).key 40).state = .held) ∧
    ((takenDown .shallow 1000 142).ctl.recorder.job = some { target := .a, mode := .free, run := some recRun } ∧
      ((ran (.keySample 40 1049) (takenDown .shallow 1000 142)).key 40).state = .held ∧
      ((ran (.keySample 40 1026) (takenDown .held 1049 160)).key 40).state = .shallow ∧
      (takenDown .held 1049 160).ctl.link.mask.getLsbD 0 = true ∧ (takenDown .held 1049 160).ctl.link.queue.length < 60) :=
  ⟨by decide +kernel, sized_of (by decide +kernel), by decide +kernel,
    ⟨⟨rfl, rfl⟩, sized_of (by decide +kernel), by decide, by decide +kernel, by decide +kernel, by decide +kernel⟩,
    by decide +kernel⟩

/-- Key 40 ARMED at depth 905 while a FREE recording into slot A waits for its first strike, every report class enabled. -/
def awaiting : State := made fun _ =>
  let c := (takenDown .armed 3080 905).ctl.setTake .a (some { origin := .recorded, records := [], length := 0 })
  { c with recorder := { job := some { target := .a, mode := .free, run := none } } }

theorem witness_ArmedKeyStrikes :
    striking.Serving ∧ striking.ctl.Sized ∧ striking.ctl.PoolOk ∧ striking.ctl.thresholds.ok = true ∧
    striking.ctl.recState = .idle ∧ striking.ctl.playerState = .stopped ∧ (striking.ctl.key 40).state = .armed ∧
    (striking.ctl.key 40).tLift = some 1000010#32 ∧
    (striking.ctl.key 40).latest = some { time := 1003140#32, raw := 3080, depth := 905 } ∧
    (striking.ctl.key 40).resumed = false ∧ 905 < striking.ctl.thresholds.strike ∧
    striking.ctl.thresholds.strike ≤ (striking.ctl.key 40).depth 3120 ∧ striking.ctl.livePath = true ∧
    (let s := takenDown .armed 3080 905
     s.Serving ∧ s.ctl.Sized ∧ s.ctl.thresholds.ok = true ∧ s.ctl.playerState = .stopped ∧
      s.ctl.recorder.job = some { target := .a, mode := .free, run := some recRun } ∧ (s.ctl.key 40).state = .armed ∧
      (s.ctl.key 40).tLift = some 29997000#32 ∧
      (s.ctl.key 40).latest = some { time := 30000000#32, raw := 3080, depth := 905 } ∧ (s.ctl.key 40).resumed = false ∧
      905 < s.ctl.thresholds.strike ∧ s.ctl.thresholds.strike ≤ (s.ctl.key 40).depth 3120 ∧
      (s.ctl.records .a).length + 1 < 16384) ∧
    (awaiting.Serving ∧ awaiting.ctl.Sized ∧ awaiting.ctl.thresholds.ok = true ∧ awaiting.ctl.playerState = .stopped ∧
      awaiting.ctl.recorder.job = some { target := .a, mode := .free, run := none } ∧ (awaiting.ctl.key 40).state = .armed ∧
      awaiting.ctl.records .a = [] ∧ awaiting.ctl.link.mask.getLsbD 6 = true ∧ awaiting.ctl.link.queue.length < 60) :=
  ⟨⟨rfl, rfl⟩, sized_of (by decide +kernel), poolOk_of (by decide +kernel), by decide, by decide, by decide, by decide, by decide,
    by decide, by decide, by decide, by decide, by decide,
    ⟨⟨rfl, rfl⟩, sized_of (by decide +kernel), by decide, by decide, by decide, by decide, by decide, by decide, by decide,
      by decide, by decide +kernel, by decide⟩,
    ⟨⟨rfl, rfl⟩, sized_of (by decide +kernel), by decide, by decide, rfl, by decide, by decide, by decide, by decide⟩⟩

theorem witness_CrossingTimesAndSpeed :
    (0 < 1 ∧ 1 ≤ 1023 ∧ 1023 ≤ 1023) ∧ (8 ≤ 8 ∧ 8 - 8 ≤ 0) ∧ (8 ≤ 16 ∧ 16 - 8 ≤ 8 ∧ 7 < 16 - 8) ∧ (560 ≤ 690) ∧ (151 < 160 - 8) ∧
    (2000 ≤ 2000 ∧ 2000 ≤ 16000 ∧ 1 ≤ 120000 ∧ 120000 ≤ 120000) ∧ (2000 ≤ 16000 ∧ 16000 ≤ 16000 ∧ 150 ≤ 2667 ∧ 16000 / 6 < 2667) := by
  decide

/-- Key 40 with its timers, the stage time at their last reached instant. -/
def timed (state : KeyState) (t : Nat) : State := made fun c => (atTime t (uncalibrated c)).setKey 40
  { keyIn state with flight := some 0#32, faultTimer := some 0#32, recovery := some 0#32 }

theorem witness_KeyTimers :
    (timed .armed 0).Running ∧ (timed .armed 0).ctl.Sized ∧ (timed .armed 0).ctl.clock.suspended = false ∧
    ((timed .armed 2147483647).ctl.key 40).state = .armed ∧ ((timed .armed 0).ctl.key 40).flight = some 0#32 ∧
    ((timed .armed 2147483647).ctl.now - 0#32).toNat < 2147483648 ∧ ((timed .armed 0).ctl.now - 0#32).toNat < 2147483648 ∧
    (((timed .uncal 0).ctl.key 40).state ≠ .fault ∧ ((timed .uncal 0).ctl.key 40).faultTimer = some 0#32) ∧
    (((timed .fault 0).ctl.key 40).state = .fault ∧ ((timed .fault 0).ctl.key 40).recovery = some 0#32) ∧
    ([KeyState.held, .armed, .struck].all fun st =>
      let s := takenDown st 1049 160
      decide (s.Running ∧ s.ctl.clock.suspended = false ∧ (s.ctl.key 40).state = st ∧
        (s.ctl.key 40).faultTimer = some 30000020#32 ∧ (s.ctl.now - 30000020#32).toNat < 2147483648 ∧
        s.ctl.recorder.job = some { target := .a, mode := .free, run := some recRun } ∧
        sounding (ran (.keyFault 40) s) = some (.live, 40))) = true :=
  ⟨rfl, sized_of (by decide +kernel), rfl, by decide, by decide, by decide, by decide, by decide, by decide, by decide +kernel⟩

theorem witness_CurveLevelAndClampedLevel :
    defaultCurve.length = 25 ∧ (∀ e ∈ defaultCurve, e ≤ 127) ∧ defaultCurve.Pairwise (· ≤ ·) ∧ 5999 / 250 ≤ 23 ∧ 0 / 250 ≤ 23 ∧
    (2000 ≤ 2000 ∧ 2000 ≤ 16000 ∧ 1 ≤ 120000 ∧ 120000 ≤ 120000 ∧ (-16 : Int) ≤ -16 ∧ (-16 : Int) ≤ 15 ∧ 255 ≤ 255 ∧ 24 ≤ 24) ∧
    (curveLevel defaultCurve (keySpeed 2000 120000) : Int) + -16 - (255 * 24 / 255 : Nat) < 1 ∧
    127 < (curveLevel defaultCurve (keySpeed 16000 1) : Int) + 15 - (0 * 24 / 255 : Nat) := by decide

theorem witness_CurveLoadChecksItsTable :
    State.reset.Serving ∧ [1].length ≠ 25 ∧ (defaultCurve.length = 25 ∧ 1 < 2) ∧
    ((128 :: defaultCurve.tail).length = 25 ∧ 1 ≤ 1 ∧ 0 < 25 ∧ 127 < (128 :: defaultCurve.tail).getD 0 0) ∧
    (let es := List.replicate 24 127 ++ [126]
     es.length = 25 ∧ 24 < 25 ∧ (24 = 23 + 1 ∧ es.getD 24 0 < es.getD 23 0) ∧
      ∀ j, j < 24 → ¬ (127 < es.getD j 0 ∨ (1 ≤ j ∧ es.getD j 0 < es.getD (j - 1) 0))) ∧
    (Curve.silent.code = 1 ∧ defaultCurve = State.reset.ctl.closeWindow.curve .silent ∧
      List.replicate 25 127 ≠ State.reset.ctl.closeWindow.curve .silent) := by decide +kernel

theorem witness_TrimRequests :
    State.reset.Serving ∧ State.reset.ctl.Sized ∧ (0 < 1 ∨ 60 < 0) ∧ (61 < 1 ∨ 60 < 61) ∧
    (1 ≤ 60 ∧ 60 ≤ 60 ∧ 60 ≠ State.reset.ctl.closeWindow.trim.interval) ∧
    (8 = State.reset.ctl.closeWindow.trim.interval ∧ (1 != 0) = State.reset.ctl.closeWindow.trim.pullIn) ∧
    (10 < 11 ∧ 11 ≠ 255) ∧ (10 ≤ 10 ∧ State.reset.ctl.closeWindow.served 10 = true) ∧
    ((made uncalibrated).ctl.closeWindow.served 10 = false ∧ (made uncalibrated).ctl.closeWindow.trim.cal = none ∧
      (made uncalibrated).ctl.closeWindow.trim.fifo = [] ∧ (made uncalibrated).ctl.closeWindow.rail.state = .clear) ∧
    ((made engaging).ctl.closeWindow.served 10 = false ∧ (made engaging).ctl.closeWindow.rail.state = .engaging) :=
  ⟨⟨rfl, rfl⟩, sized_of (by decide +kernel), by decide, by decide, by decide, by decide, by decide, by decide +kernel,
    by decide +kernel, by decide +kernel⟩

/-- Group 0 at its round with an idle unit: its first keys at rest with the debts of a list, the others MUTED. -/
def choosing (debts : List Int) (pullIn : Bool) : State := made fun c =>
  let c := (List.range 8).foldl (fun c i => c.setKey (i + 1) (match debts[i]? with
    | some d => { keyIn .rest with debt := d }
    | none => { keyIn .muted with muted := true })) (atTime 8000000 (uncalibrated c))
  let c := c.setUnit 0 { phase := .idle, passedOver := [] }
  { c with trim := { c.trim with pullIn := pullIn } }

/-- A stale key; a due key; none due but two for a pull-in, of unlike debts; none to choose. -/
theorem witness_RoundExpiryCountsItsGroup :
    let s := made fun c => (atTime (8000000 + 2147483647) c).setKey 8 { keyIn .held with debt := 8 }
    s.Running ∧ s.ctl.Sized ∧ 0 < 11 ∧ s.ctl.clock.suspended = false ∧ s.ctl.roundTimer 0 = some 8000000#32 ∧
    (s.ctl.now - 8000000#32).toNat < 2147483648 ∧ ((8 - 1) / 8 = 0 ∧ 8 ≤ (s.ctl.key 8).debt ∧ (s.ctl.key 8).stale = false ∧
      (s.ctl.key 8).state ∉ [KeyState.uncal, .fault, .muted]) ∧ (s.ctl.key 1).state = .uncal ∧
    (choosing [0, -8] true).Running ∧ (choosing [0, -8] true).ctl.Sized ∧
    (let before := (choosing [0, -8] true).ctl
     (before.trimUnit 0).phase = .idle ∧ before.rail.motor = .off ∧ before.link.state = .active ∧ before.trim.pullIn = true) ∧
    (let c := ran (.roundExpiry 0) (choosing [0, -8] true)
     c.calibrating 0 = false ∧ (c.key 1).state = .rest ∧ (c.key 1).debt = 1 ∧ (c.key 2).debt = -7) ∧
    (let c := ran (.roundExpiry 0) (choosing [-2, -8] true)
     (c.key 1).debt = -1 ∧ (c.key 2).debt = -7 ∧ (c.key 3).state = .muted) ∧
    (choosing [-2] false).ctl.trim.pullIn = false :=
  ⟨rfl, sized_of (by decide +kernel), by decide, rfl, by decide +kernel, by decide +kernel, by decide +kernel, by decide +kernel,
    rfl, sized_of (by decide +kernel), by decide +kernel, by decide +kernel, by decide +kernel, by decide⟩

/-- A spread of exactly 12 is accepted and one of 13 rejected. -/
theorem witness_SixteenthReadingJudgesTheTrim :
    let s := trimming 612 9780 648 660 3
    s.Serving ∧ s.ctl.Sized ∧
    (s.ctl.trimUnit ((20 - 1) / 8)).phase
      = .trimming 20 { count := 15, sum := 9780, least := 648, greatest := 660, outSeen := false } 0 ∧
    (s.ctl.key 20).state = .rest ∧ (s.ctl.key 20).depth 652 < s.ctl.thresholds.rest ∧
    ¬ (12 < max 660 652 - min 648 652 ∨ false = true ∨ 652 < 16 ∨ 4079 < 652) ∧
    ((s.ctl.key 20).depth 661 < s.ctl.thresholds.rest ∧ 12 < max 660 661 - min 648 661) ∧
    (let between := fun (n : Nat) => (made fun _ => s.ctl.setUnit 2
       { phase := .trimming 20 { count := 14, sum := 9128, least := 648, greatest := 660, outSeen := false } n, passedOver := [] })
     (between 0).Serving ∧ (between 5).ctl.Sized ∧ (between 0).ctl.calibrating 2 = false ∧ (between 0).ctl.rail.motor = .off ∧
      (between 0).ctl.rail.state = .clear ∧ (20 - 1) / 8 = 2 ∧ 0 < 1 ∧ 14 ≠ 15 ∧
      s.ctl.thresholds.rest ≤ (s.ctl.key 20).depth 700) ∧
    ((2 < 11 ∧ (made (engaging)).ctl.rail.motor ≠ .off) ∧ State.reset.ctl.calibrating 0 = true ∧
      asleep.ctl.link.state ≠ .active) :=
  ⟨⟨rfl, rfl⟩, sized_of (by decide +kernel), by decide +kernel, by decide +kernel, by decide +kernel, by decide, by decide +kernel,
    ⟨⟨rfl, rfl⟩, sized_of (by decide +kernel), by decide +kernel, by decide, by decide, by decide, by decide, by decide,
      by decide +kernel⟩, by decide +kernel⟩

theorem witness_CalibrationCompletes :
    completing.Running ∧ completing.ctl.Sized ∧ completing.ctl.trim.FifoOk ∧ completing.ctl.clock.suspended = false ∧
    (∃ cal, completing.ctl.trim.cal = some cal ∧ 300000 ≤ (completing.ctl.now - cal.start).toNat ∧ cal.rejoin = true ∧
      (∀ e ∈ cal.exams, 256 ≤ e.readings.count ∧ e.readings.outSeen = false ∧ e.readings.greatest - e.readings.least ≤ 12 ∧
        e.allRest = true)) ∧
    (completing.ctl.key 35).calLost = true ∧
    (let s := made fun _ => (recording completing.ctl).setKey 35 { keyIn .held with calLost := true }
     s.ctl.recorder.job = some { target := .a, mode := .free, run := some recRun } ∧ (s.ctl.key 35).calLost = true ∧
      (s.ctl.key 35).state = .held ∧ (s.ctl.records .a).length + 1 ≤ 16384) ∧
    (let s := made fun _ => { completing.ctl with
       rail := { completing.ctl.rail with state := .waitQuiet, target := some .engaged }
       trim := { completing.ctl.trim with fifo := [], cal := completing.ctl.trim.cal.map fun x => { x with rejoin := false } } }
     s.ctl.rail.state = .waitQuiet ∧ s.ctl.link.state = .active ∧
      (∀ x ∈ (ran .calComplete s).keys, x.state ∉ [KeyState.shallow, .held, .armed, .struck]) ∧
      (ran .calComplete s).trim.cal = none) ∧
    (let s := made (atTime 3000)
     s.Serving ∧ s.ctl.Sized ∧ ∃ cal, s.ctl.trim.cal = some cal ∧ (cal.exams.map Exam.key).head? = some 1 ∧
      (cal.exams.map fun e => e.readings.count).head? = some 0 ∧ 3000 + 1160 * 0 ≤ (s.ctl.now - cal.start).toNat) :=
  ⟨rfl, sized_of (by decide +kernel),
    ⟨by decide +kernel, by decide +kernel, by rintro cal h; cases h; decide, by rintro cal h; cases h; decide⟩, rfl,
    ⟨_, rfl, by decide +kernel, rfl, by decide +kernel⟩, by decide +kernel, by decide +kernel, by decide +kernel,
    ⟨rfl, rfl⟩, sized_of (by decide +kernel), _, rfl, by decide +kernel, by decide +kernel, by decide +kernel⟩

/-- The sostenuto engaged over key 40, on which a LIVE voice sounds; pedal 0 at 100 and pedal 1 at 140, their fault timers just reached; a recording in progress, every report class enabled. -/
def captured : State := made fun _ =>
  let c := (takenDown .shallow 1000 142).ctl
  let c := c.setPedal 0 { PedalRec.powerOn with value := 100, faultTimer := some 30000020#32 }
  let c := c.setPedal 1 { PedalRec.powerOn with value := 140, faultTimer := some 30000020#32 }
  { c with pedals := { c.pedals with engaged := true, sostenuto := [40] } }

theorem witness_PedalSampleTakesItsValue :
    State.reset.Serving ∧ State.reset.ctl.Sized ∧ (0 < 3 ∧ 0 < 4096) ∧ (2 < 3 ∧ 4095 < 4096) ∧
    (made recording).ctl.recorder.job = some { target := .a, mode := .free, run := some recRun } ∧
    ((made recording).ctl.pedal 0).value = 0 ∧ recRun.lastOf 0 = 196 ∧
    (captured.Serving ∧ captured.ctl.Sized ∧ (captured.ctl.pedal 1).fault = false ∧ captured.ctl.pedals.engaged = true ∧
      (captured.ctl.pedal 1).valueAt 1593 = 95 ∧ (captured.ctl.pedal 1).valueAt 1605 = 96 ∧
      captured.ctl.link.mask.getLsbD 1 = true ∧ captured.ctl.link.queue.length < 60 ∧
      sounding (ran (.pedalSample 1 1593) captured) = some (.live, 40)) :=
  ⟨⟨rfl, rfl⟩, sized_of (by decide +kernel), by decide, by decide, rfl, rfl, rfl,
    ⟨⟨rfl, rfl⟩, sized_of (by decide +kernel), by decide, rfl, by decide, by decide, by decide, by decide, by decide +kernel⟩⟩

/-- Pedal 1 with its timers at the last instant they are reached, in fault or not. -/
def pedalTimed (fault : Bool) : State := made fun c =>
  let c := atTime 2147483647 (c.setPedal 1 { PedalRec.powerOn with fault := fault, faultTimer := some 0#32, recovery := some 0#32 })
  { c with pedals := { c.pedals with hold := some 0#32 } }

theorem witness_PedalTimers :
    (pedalTimed false).Running ∧ (pedalTimed false).ctl.Sized ∧ (pedalTimed false).ctl.clock.suspended = false ∧
    (((pedalTimed false).ctl.pedal 1).fault = false ∧ ((pedalTimed false).ctl.pedal 1).faultTimer = some 0#32) ∧
    (((pedalTimed true).ctl.pedal 1).fault = true ∧ ((pedalTimed true).ctl.pedal 1).recovery = some 0#32) ∧
    (pedalTimed false).ctl.pedals.hold = some 0#32 ∧ ((pedalTimed false).ctl.now - 0#32).toNat < 2147483648 ∧
    ([0, 1].all fun p => decide ((captured.ctl.pedal p).fault = false ∧ (captured.ctl.pedal p).value ≠ 0 ∧
      (captured.ctl.pedal p).faultTimer = some 30000020#32 ∧ (captured.ctl.now - 30000020#32).toNat < 2147483648 ∧
      captured.ctl.recorder.job = some { target := .a, mode := .free, run := some recRun } ∧
      sounding (ran (.pedalFault p) captured) = some (.live, 40))) = true ∧
    recRun.lastOf 0 ≠ 0 ∧ captured.ctl.pedals.engaged = true :=
  ⟨rfl, sized_of (by decide +kernel), rfl, by decide, by decide, rfl, by decide, by decide +kernel, by decide, rfl⟩

/-- The rail in a state, with a target, a pending target and its timers at 0. -/
def railed (state : RailState) (target pend : Option Stop) (motor : Motor) (recovery : Bool) : State := made fun c =>
  { uncalibrated c with rail := { c.rail with
      state := state, target := target, pendingTarget := pend, motor := motor, recovery := recovery
      origin := some { state := .clear, cause := none }
      quietTimer := some 0#32, travelTimer := some 0#32, stallTimer := some 0#32, settleTimer := some 0#32 } }

theorem witness_RailRequests :
    State.reset.Serving ∧ 1 < 2 ∧
    ([RailState.fault, .unplaced, .clear, .engaged].all fun st =>
      decide ((railed st none none .off false).Serving ∧ (railed st none none .off false).ctl.closeWindow.rail.state = st)) = true ∧
    (Stop.clear.railState = .clear ∧ Stop.engaged.other.railState = .clear) ∧
    ((railed .waitQuiet (some .engaged) none .off false).ctl.closeWindow.rail.origin = some { state := .clear, cause := none } ∧
      (railed .waitQuiet (some .engaged) none .off true).ctl.closeWindow.rail.recovery = true) ∧
    ((railed .engaging (some .engaged) (some .clear) .towardEngaged false).ctl.closeWindow.rail.pendingTarget = some .clear ∧
      (railed .engaging (some .engaged) none .towardEngaged false).ctl.closeWindow.rail.pendingTarget = none) ∧
    ((∀ r ∈ State.reset.ctl.closeWindow.keys, r.state ∉ [KeyState.shallow, .held, .armed, .struck]) ∧
      (made uncalibrated).ctl.closeWindow.trim.cal = none ∧ State.reset.ctl.closeWindow.trim.cal ≠ none ∧
      (State.reset.ctl.closeWindow.rail.switch .clear).closed = true ∧
      (State.reset.ctl.closeWindow.rail.switch .engaged).closed = false) ∧
    (State.reset.ctl.closeWindow.link.mask.getLsbD 3 = true ∧ State.reset.ctl.closeWindow.link.queue.length < 60) := by
  decide +kernel

theorem witness_RailTimers :
    (let s := railed .waitQuiet (some .engaged) none .off false
     s.Running ∧ s.ctl.clock.suspended = false ∧ s.ctl.rail.state = .waitQuiet ∧
      s.ctl.rail.origin = some { state := .clear, cause := none } ∧ s.ctl.rail.quietTimer = some 0#32 ∧
      (s.ctl.now - 0#32).toNat < 2147483648) ∧
    (let s := railed .engaging (some .engaged) none .towardEngaged false
     s.ctl.rail.motor ≠ .off ∧ s.ctl.rail.travelTimer = some 0#32 ∧ s.ctl.rail.stallTimer = some 0#32) ∧
    (let s := railed .settling (some .engaged) (some .clear) .off false
     s.ctl.rail.state = .settling ∧ s.ctl.rail.target = some .engaged ∧ s.ctl.rail.settleTimer = some 0#32 ∧
      (s.ctl.rail.switch Stop.engaged.other).closed = true) ∧
    (let s := railed .settling (some .clear) (some .engaged) .off false
     s.ctl.rail.state = .settling ∧ s.ctl.rail.target = some .clear ∧ s.ctl.rail.pendingTarget = some .engaged ∧
      (s.ctl.rail.switch Stop.clear.other).closed = false ∧ (ran .settleExpiry s).trim.cal = none ∧
      s.ctl.link.state = .active ∧ (∀ r ∈ s.ctl.keys, r.state ∉ [KeyState.shallow, .held, .armed, .struck]) ∧
      s.ctl.link.mask.getLsbD 3 = true ∧ s.ctl.link.queue.length < 60) := by decide +kernel

/-- A switch at its 96th frame, with the debounced states of both. -/
def switching (state : RailState) (sw : Stop) (clear engaged : Bool) : State := made fun c =>
  let r := { c.rail with
    state := state, target := some .engaged, clearSwitch := Switch.atReset clear, engagedSwitch := Switch.atReset engaged }
  { c with rail := r.setSwitch sw { r.switch sw with run := 96 } }

theorem witness_SwitchesAndOverLimit :
    (let s := switching .engaging .engaged true false
     s.Running ∧ (s.ctl.rail.switch .engaged).run = 96 ∧ (s.ctl.rail.switch .engaged).closed = false ∧
      (s.ctl.rail.switch Stop.engaged.other).closed = true) ∧
    (let s := switching .engaging .engaged false false
     (s.ctl.rail.switch .engaged).closed = false ∧ (s.ctl.rail.switch Stop.engaged.other).closed = false ∧
      s.ctl.rail.state = .engaging) ∧
    (let s := switching .unplaced .clear false false
     (s.ctl.rail.switch .clear).closed = false ∧ (s.ctl.rail.switch Stop.clear.other).closed = false ∧
      s.ctl.rail.state = .unplaced) ∧
    (let s := switching .clear .clear true false
     (s.ctl.rail.switch .clear).closed = true ∧ s.ctl.rail.state = Stop.clear.railState) ∧
    (let s := switching .engaging .clear true false
     (s.ctl.rail.switch .clear).closed = true ∧ s.ctl.rail.state = .engaging) ∧
    (let s := switching .engaging .engaged true false
     s.ctl.link.mask.getLsbD 3 = true ∧ s.ctl.link.queue.length < 64) ∧
    false = State.reset.ctl.rail.overLimit ∧ true ≠ State.reset.ctl.rail.overLimit := by decide +kernel

/-- LIVE owns a note on keys 1 to n, PLAYBACK one on keys 1 to m. -/
def filled (n m : Nat) : State := made fun c =>
  { atTime 1000000 c with pool := { c.pool with
      voices := ((List.range n).map fun i => some (note .live (i + 1) 90 0 195))
        ++ ((List.range m).map fun i => some (note .playback (i + 1) 90 0 195)) ++ List.replicate (64 - n - m) none } }

theorem witness_VoiceSplitReowns :
    (filled 48 16).Serving ∧ (filled 48 16).ctl.Sized ∧ (filled 48 16).ctl.PoolOk ∧ (7 < 8 ∨ 56 < 7) ∧ (57 < 8 ∨ 56 < 57) ∧
    (8 ≤ 8 ∧ 8 ≤ 56) ∧ (48 = (filled 48 16).ctl.closeWindow.pool.liveReserve ∧
      (1 != 0) = (filled 48 16).ctl.closeWindow.pool.playbackLends ∧ (0 != 0) = (filled 48 16).ctl.closeWindow.pool.liveLends) ∧
    (8 ≠ (filled 48 16).ctl.closeWindow.pool.liveReserve ∧ 56 ≠ (filled 48 16).ctl.closeWindow.pool.liveReserve) :=
  ⟨⟨rfl, rfl⟩, sized_of (by decide +kernel), poolOk_of (by decide +kernel), by decide, by decide, by decide, by decide +kernel,
    by decide +kernel⟩

/-- A tone pending in a pool with one voice. -/
def toned (pend : Option Nat) : State := made fun c =>
  let c := (atTime (5187776 + 2147483647) c).setVoice 0 (some (note .live 40 79 1003160 195))
  { c with pool := { c.pool with pendingTone := pend } }

theorem witness_TonesDecayAndVoiceEnds :
    (toned (some 3)).Serving ∧ (3 < 4 ∨ 1 < 0) ∧ (3 < 0 ∨ 1 < 2) ∧ (toned none).ctl.closeWindow.pool.tone = 0 ∧
    (toned none).ctl.closeWindow.pool.pendingTone = none ∧ (toned (some 3)).ctl.closeWindow.pool.pendingTone ≠ none ∧
    (toned (some 3)).ctl.closeWindow.pool.pendingTone = some 3 ∧ (toned (some 2)).ctl.closeWindow.pool.pendingTone ≠ some 3 ∧
    (∀ v ∈ State.reset.ctl.closeWindow.pool.voices, v = none) ∧ (¬ ∀ v ∈ (toned none).ctl.closeWindow.pool.voices, v = none) ∧
    ([1].length ≠ 88) ∧
    (let es := List.replicate 87 2000 ++ [0]
     es.length = 88 ∧ (es.getD (88 - 1) 0 < 1) ∧ ∀ j, j < 88 → 1 ≤ j → ¬ (es.getD (j - 1) 0 < 1 ∨ 2000 < es.getD (j - 1) 0)) ∧
    (let es := List.replicate 88 2000
     es.length = 88 ∧ (∀ j, j < 89 → 1 ≤ j → ¬ (es.getD (j - 1) 0 < 1 ∨ 2000 < es.getD (j - 1) 0)) ∧
      es ≠ State.reset.ctl.closeWindow.pool.decay ∧ (59 < 60 ∨ 88 < 59) ∧ (89 < 60 ∨ 88 < 89) ∧ (60 ≤ 60 ∧ 60 ≤ 88) ∧
      (60 ≤ 88 ∧ 88 ≤ 88)) ∧
    (68 = State.reset.ctl.closeWindow.pool.damperLimit ∧ powerOnDecay = State.reset.ctl.closeWindow.pool.decay) ∧
    ((toned (some 3)).ctl.clock.suspended = false ∧ 0 < 64 ∧
      ((toned (some 3)).ctl.voice 0).map (fun n => n.deadline) = some (some 5187776#32) ∧
      ((toned (some 3)).ctl.now - 5187776#32).toNat < 2147483648) := by decide +kernel

/-- A voice to take again, a free voice within the reserve, a borrowed one, and a stolen one. -/
theorem witness_StrikeTakesOneVoice :
    ((filled 48 16).ctl.Sized ∧ (filled 48 16).ctl.PoolOk ∧ ((filled 48 16).ctl.voice 47).map Note.key = some 48) ∧
    ((filled 47 0).ctl.Sized ∧ (filled 47 0).ctl.PoolOk ∧ (filled 47 0).ctl.used .live < (filled 47 0).ctl.reserve .live) ∧
    ((filled 48 15).ctl.Sized ∧ (filled 48 15).ctl.PoolOk ∧ ¬ (filled 48 15).ctl.used .live < (filled 48 15).ctl.reserve .live ∧
      (filled 48 15).ctl.lends Source.live.other = true ∧
      (filled 48 15).ctl.used Source.live.other < (filled 48 15).ctl.reserve Source.live.other) ∧
    (¬ (filled 48 16).ctl.used .live < (filled 48 16).ctl.reserve .live ∧
      ¬ (filled 48 16).ctl.used Source.live.other < (filled 48 16).ctl.reserve Source.live.other) ∧
    (∀ j, j < 64 → ((filled 48 16).ctl.voice j).map (fun n => (n.source, n.key)) ≠ some (.live, 60)) :=
  ⟨⟨sized_of (by decide +kernel), poolOk_of (by decide +kernel), by decide +kernel⟩,
    ⟨sized_of (by decide +kernel), poolOk_of (by decide +kernel), by decide +kernel⟩,
    ⟨sized_of (by decide +kernel), poolOk_of (by decide +kernel), by decide +kernel⟩, by decide +kernel, by decide +kernel⟩

/-- The output in a state at a ramp position. -/
def output (o : OutputState) (ramp : Nat) (owed : Bool) : State := made fun c =>
  { c with phones := { c.phones with
      output := o, ramp := ramp, freeingOwed := owed, jackRun := 4800
      master := { setting := 40, applied := 345, glide := some { start := 345, target := 165, count := 480 } } } }

theorem witness_PhonesAndOutputState :
    (output .off 0 false).Serving ∧
    ((1 != 0) = (output .off 0 false).ctl.closeWindow.phones.enable ∧ min 40 63 = (output .off 0 false).ctl.closeWindow.phones.master.setting ∧
      min 0 31 = (output .off 0 false).ctl.closeWindow.phones.liveMix.setting) ∧
    (min 64 63 ≠ (output .off 0 false).ctl.closeWindow.phones.master.setting) ∧
    (output .falling 1 false).ctl.phones.jackRun = 4800 ∧
    ((output .rising 2400 false).ctl.phones.output = .rising ∧ 2400 ≤ (output .rising 2400 false).ctl.phones.ramp) ∧
    ((output .falling 0 false).ctl.phones.output = .falling ∧ (output .falling 0 false).ctl.phones.ramp = 0 ∧
      (output .falling 0 false).ctl.phones.freeingOwed = false) ∧
    (output .falling 0 true).ctl.phones.freeingOwed = true ∧
    (((output .off 0 false).ctl.phones.level .master).glide = some { start := 345, target := 165, count := 480 } ∧ 480 ≤ 480) ∧
    (asleep.ctl.link.state = .standby ∧ asleep.ctl.phones.jackPresent = false) := by decide

theorem witness_OutputFrameCounts : (output .rising 0 false).Running ∧
    ((note .live 40 127 0 195).attenuation State.reset.ctl.now + State.reset.ctl.phones.liveMix.applied
      + State.reset.ctl.phones.master.applied = 345 ∧ 345 < 960) ∧
    ({ note .live 40 127 0 195 with aRef := 615 : Note }.attenuation State.reset.ctl.now = 615 ∧ 960 ≤ 615 + 0 + 345) ∧
    ((output .rising 0 false).ctl.phones.master.glide = some { start := 345, target := 165, count := 480 }) ∧
    State.reset.ctl.phones.master.glide = none ∧ (output .rising 2399 false).ctl.phones.ramp ≠ 0 ∧
    (ran (.outputFrame false true false) (output .rising 0 false)).phones.ramp = 1 ∧
    (ran (.outputFrame false true false) (output .falling 1 false)).phones.ramp = 0 := by decide

/-- A window of a mode on slot A, over records of one time. -/
def windowed (mode : WindowMode) (records first last : Nat) : State := made fun c =>
  let c := marks records c
  { c with takes := { c.takes with window := some { slot := .a, mode := mode, first := first, last := last, cursor := first } } }

theorem witness_WindowAndWrittenRecords :
    (made (marks 3)).Serving ∧ 1 < 2 ∧ Slot.a.code = 0 ∧ (1 < 2 ∨ 5 < 0) ∧ (1 < 1 ∨ 4 < 5) ∧
    (0 ≤ 1 ∧ 0 ≤ 0 ∧ (made recording).ctl.closeWindow.recorderUses .a = true) ∧
    ((made (playing .playing 3 0 0 none none)).ctl.closeWindow.recorderUses .a = false ∧
      (made (playing .playing 3 0 0 none none)).ctl.closeWindow.playerUses .a = true) ∧
    ((made (marks 3)).ctl.closeWindow.recorderUses .a = false ∧ (made (marks 3)).ctl.closeWindow.playerUses .a = false ∧
      (made (marks 3)).ctl.closeWindow.count .a < 4 ∧ 3 ≤ (made (marks 3)).ctl.closeWindow.count .a ∧
      2 < (made (marks 3)).ctl.closeWindow.count .a) ∧
    ((windowed .write 3 3 65535).Serving ∧
      (windowed .write 3 3 65535).ctl.takes.window = some { slot := .a, mode := .write, first := 3, last := 65535, cursor := 3 } ∧
      (∀ i, i < 40 → (List.replicate 40 (⟨16777215, 4, 2, 255⟩ : RawRecord))[i]? = some ⟨16777215, 4, 2, 255⟩) ∧
      ((0 ≤ 2 ∧ 255 ≤ 255) ∧ 0 ≤ 16777215 ∧ 3 + 39 < 16384)) ∧
    (let bad : RawRecord := ⟨0, 4, 3, 255⟩
     ¬ ((bad.kind = 1 ∧ 1 ≤ bad.subject ∧ bad.subject ≤ 88 ∧ 1 ≤ bad.value ∧ bad.value ≤ 127) ∨
      ((bad.kind = 2 ∨ bad.kind = 3) ∧ 1 ≤ bad.subject ∧ bad.subject ≤ 88 ∧ bad.value = 0) ∨
      (bad.kind = 4 ∧ bad.subject ≤ 2 ∧ bad.value ≤ 255) ∨ (bad.kind = 5 ∧ bad.subject ≤ 15 ∧ bad.value = 0))) ∧
    (windowed .read 3 0 2).ctl.takes.window ≠ none := by decide +kernel

theorem witness_TakeReadAndClear :
    (windowed .write 3 3 65535).Serving ∧
    ((windowed .read 41 0 65535).ctl.takes.window = some { slot := .a, mode := .read, first := 0, last := 65535, cursor := 0 } ∧
      (windowed .read 41 0 65535).Serving) ∧
    1 < 2 ∧ Slot.b.code = 1 ∧ (made recording).ctl.closeWindow.recorderUses .a = true ∧
    ((made (playing .playing 3 0 0 none none)).ctl.closeWindow.recorderUses .a = false ∧
      (made (playing .playing 3 0 0 none none)).ctl.closeWindow.playerUses .a = true) ∧
    ((made (marks 3)).ctl.closeWindow.recorderUses .b = false ∧ (made (marks 3)).ctl.closeWindow.playerUses .b = false ∧
      (made (marks 3)).ctl.closeWindow.take .b = none ∧ (made (marks 3)).ctl.closeWindow.take .a ≠ none) := by decide +kernel

theorem witness_RecArmEmptiesItsSlot :
    (made (playing .playing 3 400000 0 none none)).Serving ∧ (1 < 2 ∨ 1 < 0) ∧ (1 < 0 ∨ 1 < 2) ∧
    (made recording).ctl.closeWindow.recState ≠ .idle ∧ (made (marks 3)).ctl.closeWindow.recState = .idle ∧
    (made (playing .playing 3 400000 0 none none)).ctl.closeWindow.playerUses .a = true ∧
    (made (playing .playing 3 400000 0 none none)).ctl.closeWindow.playerUses .b = false ∧
    (made (marks 3)).ctl.closeWindow.player.session = none ∧
    (∃ x, (made (playing .playing 3 400000 0 none none)).ctl.closeWindow.player.session = some x ∧ x.loop = none) := by
  refine ⟨by decide, by decide, by decide, by decide, by decide, by decide, by decide, by decide, ⟨_, rfl, rfl⟩⟩

theorem witness_MarksAndRecorderStops :
    (made recording).Serving ∧ 15 < 16 ∧ 15 ≤ 15 ∧ (made (marks 3)).ctl.closeWindow.recState ≠ .recording ∧
    ((made recording).ctl.closeWindow.recorder.job = some { target := .a, mode := .free, run := some recRun } ∧
      recRun.start = some 30000000#32) ∧
    ((made recording).ctl.closeWindow.count .a + 1 < 16384 ∧
      16384 ≤ (made fun c => { marks 16383 c with recorder := (recording c).recorder }).ctl.closeWindow.count .a + 1) ∧
    (made (marks 3)).ctl.closeWindow.recorder.job = none ∧
    ({ target := .b, mode := .sync, run := some { recRun with start := none } } : RecJob).mode = .sync ∧
    (let s := made fun c => atTime 4230000000 (recording c)
     s.Running ∧ s.ctl.clock.suspended = false ∧ s.ctl.recorder.job = some { target := .a, mode := .free, run := some recRun } ∧
      4200000000 ≤ (s.ctl.now - 30000000#32).toNat) := by decide +kernel

/-- The take of section 10.11 in slot A, the Player STOPPED. -/
def stopped : State := made fun c => (playing .playing 0 0 0 none none c).setSession none

theorem witness_PlayStartStandsAtItsPosition :
    stopped.Serving ∧ 1 < 2 ∧ Slot.a.code = 0 ∧ (made (playing .playing 3 0 0 none none)).ctl.closeWindow.player.session ≠ none ∧
    (stopped.ctl.closeWindow.player.session = none ∧ stopped.ctl.closeWindow.recorderUses .a = false ∧
      stopped.ctl.closeWindow.take .a ≠ none ∧ stopped.ctl.closeWindow.take .b = none ∧ stopped.ctl.closeWindow.length .a < 8001 ∧
      8000 ≤ stopped.ctl.closeWindow.length .a) ∧
    ((made recording).ctl.closeWindow.player.session = none ∧ (made recording).ctl.closeWindow.recorderUses .a = true) ∧
    ((∀ r ∈ stopped.ctl.closeWindow.records .a, r.time ≠ 7999) ∧
      (stopped.ctl.closeWindow.records .a).Pairwise (fun a b => a.time ≤ b.time) ∧ 7999 < stopped.ctl.closeWindow.length .a ∧
      stopped.ctl.closeWindow.player.expected = []) := by decide +kernel

theorem witness_StopPauseAndResume :
    stopped.Serving ∧ stopped.ctl.closeWindow.player.session = none ∧
    ([PlayPhase.playing, .waiting, .paused true, .paused false].all fun ph =>
      decide (((made (playing ph 3 400000 0 none none)).ctl.closeWindow.bringUp.player.session.map fun x => x.phase) = some ph))
      = true ∧
    (let c := (made (playing (.paused false) 3 400000 0 none none)).ctl.closeWindow
     (c.records .a)[3]? = some (record 1500 .pedal 0 200) ∧ ¬ 1500 * 1000 ≤ 400000 ∧ 400000 < c.length .a * 1000 ∧
      c.player.expected = [] ∧ c.syncRecording = false) ∧
    (made fun c => { playing .playing 3 0 0 none none c with recorder :=
      { job := some { target := .b, mode := .sync, run := some { recRun with start := none, limit := none } } } }).ctl.closeWindow.syncRecording
      = true := by decide +kernel

/-- A loop of section 10.11. -/
def aLoop : Loop :=
  { start := 2000, stop := 6000, count := 2, passes := 0, damper := 200, sostenuto := 0, soft := 0, armed := true }

theorem witness_SeekAndLoop :
    stopped.Serving ∧ stopped.ctl.closeWindow.bringUp.player.session = none ∧
    (let c := (made (playing .playing 3 400000 0 (some aLoop) none)).ctl.closeWindow
     c.syncRecording = false ∧ (c.bringUp.player.session.map fun x => (x.phase, x.slot)) = some (.playing, .a) ∧ c.length .a < 8001 ∧
      8000 ≤ c.length .a ∧ (∀ r ∈ c.records .a, r.time ≠ 7999) ∧ 7999 < c.length .a) ∧
    ((made (playing (.paused true) 3 400000 0 none none)).ctl.closeWindow.bringUp.player.session.map fun x => x.phase)
      = some (.paused true) ∧
    (6000 ≠ 0 ∧ (6000 ≤ 6000 ∨ 8000 < 6000)) ∧ (8001 ≠ 0 ∧ 8000 < 8001) ∧ (99 < 100) ∧
    (6000 ≠ 0 ∧ 2000 < 6000 ∧ 6000 ≤ 8000 ∧ 2 ≤ 99 ∧ aLoop.start = 2000 ∧ aLoop.stop = 6000 ∧ aLoop.count = 2) ∧
    (8000 ≠ 0 ∧ 7999 < 8000 ∧ 8000 ≤ 8000 ∧ 99 ≤ 99 ∧ ¬ (aLoop.start = 7999 ∧ aLoop.stop = 8000 ∧ aLoop.count = 99)) := by
  decide +kernel

theorem witness_TempoAndHands :
    stopped.Serving ∧ max 25 (min 200 80) = stopped.ctl.closeWindow.player.tempo ∧
    max 25 (min 200 0) ≠ stopped.ctl.closeWindow.player.tempo ∧ (0 < 1 ∨ 89 < 0 ∨ 250 < 60 ∨ 3 < 0) ∧
    (90 < 1 ∨ 89 < 90 ∨ 250 < 60 ∨ 3 < 0) ∧ (40 < 1 ∨ 89 < 40 ∨ 250 < 251 ∨ 3 < 0) ∧ (40 < 1 ∨ 89 < 40 ∨ 250 < 60 ∨ 3 < 4) ∧
    (GuideHand.both.code = 3 ∧ 1 ≤ 1 ∧ 1 ≤ 89 ∧ 250 ≤ 250 ∧ 1 ≤ 89 ∧ 89 ≤ 89) ∧
    (40 = stopped.ctl.closeWindow.player.splitKey ∧ (0).testBit 0 = stopped.ctl.closeWindow.player.muteLeft ∧
      GuideHand.none = stopped.ctl.closeWindow.player.guide ∧ stopped.ctl.closeWindow.player.chordWindow = 60) ∧
    ((guided State.reset.ctl).player.guide = .right ∧ (guided State.reset.ctl).playerState = .waiting) ∧
    (let s := made fun c => { guided c with link := { c.link with mask := 0xFF#8 } }
     s.Serving ∧ s.ctl.link.mask.getLsbD 5 = true ∧ s.ctl.link.queue.length < 60 ∧
      ∃ x, s.ctl.closeWindow.bringUp.player.session = some x ∧ x.phase = .waiting ∧ x.loop = none ∧
        (s.ctl.closeWindow.records x.slot)[x.cursor]? = some (record 2000 .damperUp 45 0) ∧ x.time < 2000 * 1000) ∧
    (∃ x, (made (playing .playing 3 400000 0 none none)).ctl.closeWindow.bringUp.player.session = some x ∧ x.phase = .playing ∧
      (made (playing .playing 3 400000 0 none none)).ctl.closeWindow.bringUp.NothingDue x) :=
  ⟨by decide, by decide, by decide, by decide, by decide, by decide, by decide, by decide, by decide, by decide,
    ⟨⟨rfl, rfl⟩, by decide, by decide, _, rfl, rfl, rfl, rfl, by decide⟩,
    ⟨_, rfl, rfl, rfl, rfl, _, rfl, by decide⟩⟩

theorem witness_GuidedChords :
    ((record 2000 .strike 45 70).kind = .strike ∧ (guided State.reset.ctl).player.guides 45 = true) ∧
    ((∃ x, (guided State.reset.ctl).player.session = some x ∧ x.phase = .waiting ∧ x.loop = none ∧ x.cursor = 4 ∧
        x.time < (record 2000 .damperUp 45 0).time * 1000) ∧ loopTake.records[4]? = some (record 2000 .damperUp 45 0)) ∧
    62 ∉ (guided State.reset.ctl).player.expected ∧ (60 ∈ (guided State.reset.ctl).player.expected ∧
      67 ∈ (guided State.reset.ctl).player.expected ∧ 67 ≠ 60) ∧
    (∀ j ∈ ([60] : List Nat), j = 60) ∧ stopped.ctl.playerState = .stopped ∧
    (∃ x, (playing .playing 3 400000 0 none none State.reset.ctl).player.session = some x ∧ x.phase = .playing ∧
      (playing .playing 3 400000 0 none none State.reset.ctl).NothingDue x) :=
  ⟨⟨rfl, by decide⟩, ⟨⟨_, rfl, rfl, rfl, rfl, by decide⟩, rfl⟩, by decide, by decide, by decide, by decide,
    ⟨_, rfl, rfl, rfl, rfl, _, rfl, by decide⟩⟩

theorem witness_DueTimerTakesWhatIsReached :
    (let s := made fun c => atTime 101875000 (playing .playing 3 0 100000000 none (some 101875000#32) c)
     s.Running ∧ s.ctl.clock.suspended = false ∧ (s.ctl.player.session.map fun x => (x.phase, x.due)) = some (.playing, some 101875000#32) ∧
      (s.ctl.now - 101875000#32).toNat < 2147483648 ∧ s.ctl.player.guide = .none ∧ s.ctl.player.expected = [] ∧
      s.ctl.player.consumed = [] ∧
      (((s.ctl.records .a).drop 3).takeWhile fun r => decide (r.time * 1000 ≤ 1500000)) = [record 1500 .pedal 0 200]) ∧
    (let s := made fun c => atTime 120000000 (playing .playing 17 7500000 119375000 none (some 120000000#32) c)
     (s.ctl.records .a).length ≤ 17 + 0 ∧ s.ctl.length .a * 1000 ≤ 7500000 + 625000 * 80 / 100) ∧
    (let s := made fun c => atTime 107500000 (playing .playing 12 5800000 107250000 (some { aLoop with start := 1999 }) (some 107500000#32) c)
     (s.ctl.player.session.bind fun x => x.loop.map fun l => l.armed) = some true ∧ 6000 * 1000 ≤ 5800000 + 250000 * 80 / 100 ∧
      (s.ctl.records .a).Pairwise (fun a b => a.time ≤ b.time) ∧ (∀ r ∈ s.ctl.records .a, r.time ≠ 1999) ∧ 1999 < s.ctl.length .a) := by
  decide +kernel

/-- A step from a state in which every invariant holds answers a next state, one in which a key is sampled. -/
theorem witness_EveryStepKeeps :
    (∃ t, step { State.reset with pending := [.keySample 1 600] } = .next t) ∧ State.reset.ctl.Sized ∧ State.reset.ctl.PoolOk ∧
    State.reset.ctl.link.Bounded ∧ State.reset.ctl.DebtsOk ∧ State.reset.ctl.trim.FifoOk ∧ State.reset.ctl.rail.Coupled ∧
    State.reset.ctl.Exclusive ∧ State.reset.ctl.SetsOk := by
  refine ⟨⟨_, rfl⟩, sized_of (by decide +kernel), poolOk_of (by decide +kernel), ⟨by decide, by decide, by decide, by decide⟩, ?_, ?_,
    ⟨by decide, by rintro o h; cases h⟩, ?_, ?_⟩
  · intro r h
    rw [List.eq_of_mem_replicate h]
    exact ⟨by decide, by decide, by decide⟩
  · exact ⟨by decide, by decide, by rintro cal h; cases h; decide, by rintro cal h; cases h; decide⟩
  · exact fun _ => ⟨by decide, by decide, by decide⟩
  · exact ⟨fun _ => rfl, fun _ => rfl, by decide, by decide, by decide, fun _ => ⟨rfl, rfl, rfl⟩, fun h => absurd rfl h⟩

end Sys2Proof.Tests
end

section
/-! The Touch Unit's third and fourth stage (R32 to R34): the entries of a curve, the interpolation between two of them, the cut and the clamp of a strike. -/

namespace Sys2Proof.Machine

/-- A place beyond the end reads 0, so the bound needs no index. -/
theorem getD_le_of_forall_le {curve : List Nat} {b : Nat} (hle : ∀ e ∈ curve, e ≤ b) (i : Nat) : curve.getD i 0 ≤ b := by
  by_cases hi : i < curve.length
  · rw [List.getD_eq_getElem _ _ hi]
    exact hle _ (List.getElem_mem hi)
  · rw [List.getD_eq_default _ _ (Nat.le_of_not_lt hi)]
    exact Nat.zero_le b

theorem getD_le_getD_succ {curve : List Nat} (hmono : curve.Pairwise (· ≤ ·)) {i : Nat} (hi : i + 1 < curve.length) :
    curve.getD i 0 ≤ curve.getD (i + 1) 0 := by
  rw [List.getD_eq_getElem _ _ (Nat.lt_of_succ_lt hi), List.getD_eq_getElem _ _ hi]
  exact List.pairwise_iff_getElem.mp hmono i (i + 1) _ hi (Nat.lt_succ_self i)

/-- R32: from the index 24 on the stage ends at the top entry. -/
theorem curveLevel_of_top {curve : List Nat} {v : Nat} (hv : 24 ≤ v / 250) : curveLevel curve v = curve.getD 24 0 :=
  if_pos hv

/-- R33: below the index 24 the level is interpolated. -/
theorem curveLevel_of_interpolated {curve : List Nat} {v : Nat} (hv : v / 250 ≤ 23) :
    curveLevel curve v = curve.getD (v / 250) 0 +
      ((curve.getD (v / 250 + 1) 0 - curve.getD (v / 250) 0) * (v - 250 * (v / 250)) + 125) / 250 :=
  if_neg (by omega)

/-- R33: the rounding never carries the quotient past the step, for the offset stays below 250. -/
theorem interpolation_le_step {step f : Nat} (hf : f ≤ 249) (hstep : step ≤ 127) : (step * f + 125) / 250 ≤ step := by
  have hprod : step * f ≤ step * 249 := Nat.mul_le_mul_left step hf
  omega

/-- R33: the level of an interpolated speed lies between the two entries about it. -/
theorem curveLevel_mem_entries {curve : List Nat} (hlen : curve.length = 25) (hle : ∀ e ∈ curve, e ≤ 127)
    (hmono : curve.Pairwise (· ≤ ·)) {v : Nat} (hv : v / 250 ≤ 23) :
    curve.getD (v / 250) 0 ≤ curveLevel curve v ∧ curveLevel curve v ≤ curve.getD (v / 250 + 1) 0 := by
  have hentries := getD_le_getD_succ hmono (i := v / 250) (by omega)
  have hhi := getD_le_of_forall_le hle (v / 250 + 1)
  have hq := interpolation_le_step (step := curve.getD (v / 250 + 1) 0 - curve.getD (v / 250) 0)
    (f := v - 250 * (v / 250)) (by omega) (by omega)
  rw [curveLevel_of_interpolated hv]
  omega

/-- R33: the curve level of every speed lies within 0..127. -/
theorem curveLevel_le {curve : List Nat} (hlen : curve.length = 25) (hle : ∀ e ∈ curve, e ≤ 127)
    (hmono : curve.Pairwise (· ≤ ·)) (v : Nat) : curveLevel curve v ≤ 127 := by
  by_cases hv : 24 ≤ v / 250
  · rw [curveLevel_of_top hv]
    exact getD_le_of_forall_le hle 24
  · exact (curveLevel_mem_entries hlen hle hmono (by omega)).2.trans (getD_le_of_forall_le hle _)

/-- R34: the cut stays within the maximum. -/
theorem softCut_le {s : Nat} (hs : s ≤ 255) (c : Nat) : softCut s c ≤ c :=
  Nat.div_le_of_le_mul (Nat.mul_le_mul_right c hs)

/-- R34: the pedal fully down. -/
@[simp] theorem softCut_full (c : Nat) : softCut 255 c = c := Nat.mul_div_cancel_left c (by decide)

/-- R34: the pedal up. -/
@[simp] theorem softCut_up (c : Nat) : softCut 0 c = 0 := by simp [softCut]

/-- R34: the clamp as a whole. -/
theorem clampLevel_eq_max_min (x : Int) : (clampLevel x : Int) = max 1 (min 127 x) := by
  unfold clampLevel
  split
  · omega
  · split <;> omega

/-- R34: the level of a strike is its clamped sum. -/
theorem strikeLevel_eq_max_min (curve : List Nat) (travel dt : Nat) (trim : Int) (s c : Nat) :
    (strikeLevel curve travel dt trim s c : Int) =
      max 1 (min 127 ((curveLevel curve (keySpeed travel dt) : Int) + trim - (softCut s c : Int))) :=
  clampLevel_eq_max_min _

/-- Settles O29: R33 by the entries about the speed, its remark on a curve level of 0 by the curve of zeros, and R34 by the bounds of curve level and cut and the clamp. -/
theorem curveLevelAndClampedLevel : Obligations.CurveLevelAndClampedLevel := by
  refine ⟨?interpolated, ⟨List.replicate 25 0, by decide⟩, ?strike⟩
  case interpolated =>
    intro curve v hlen hle hmono hv i f lo hi step q
    have hf : f ≤ 249 := by omega
    have hentries : lo ≤ hi := getD_le_getD_succ hmono (by omega)
    have hstep : step ≤ 127 := (Nat.sub_le hi lo).trans (getD_le_of_forall_le hle (i + 1))
    have hlevel : curveLevel curve v = lo + q := curveLevel_of_interpolated hv
    obtain ⟨hlo, hhi⟩ := curveLevel_mem_entries hlen hle hmono hv
    have hoffset : f = 0 → curveLevel curve v = lo := by
      intro hzero
      have hq : q = 0 := by simp [q, hzero]
      rw [hlevel, hq, Nat.add_zero]
    exact ⟨hf, hentries, hstep, by omega, interpolation_le_step hf hstep, Nat.mul_div_le _ _, Nat.lt_mul_div_succ _ (by decide),
      hlevel, hlo, hhi, curveLevel_le hlen hle hmono v, hoffset⟩
  case strike =>
    intro curve travel dt trim s c hle hlen hmono _ _ _ _ htrimLow htrimHigh hs hc cut sum
    have hcut : cut ≤ c := softCut_le hs c
    have hcurve := curveLevel_le hlen hle hmono (keySpeed travel dt)
    have hlevel : (strikeLevel curve travel dt trim s c : Int) = max 1 (min 127 sum) :=
      strikeLevel_eq_max_min curve travel dt trim s c
    have hfull : s = 255 → cut = c := by
      rintro rfl
      exact softCut_full c
    have hup : s = 0 → cut = 0 := by
      rintro rfl
      exact softCut_up c
    exact ⟨hcut, hfull, hup, by omega, by omega, by omega, by omega, by omega, by omega, by omega⟩

end Sys2Proof.Machine
end

section
/-! The Voice Pool at the two resets (R131, R132): what a pool of FREE voices answers, the decay table after a power-on reset, and what the soft reset leaves of the pool and the Link. -/

namespace Sys2Proof.Machine

/-- R118: entry k lies at index k − 1. -/
theorem powerOnDecay_getElem? {i : Nat} (hi : i < 88) : powerOnDecay[i]? = some (30 + i * 370 / 87) := by
  simp [powerOnDecay, hi]

@[simp] theorem powerOnDecay_length : powerOnDecay.length = 88 := by
  simp [powerOnDecay]

/-- R207: a power-on reset takes place in every state, held or not. -/
theorem exec_powerOnReset (clear engaged : Bool) (s : State) :
    exec (.powerOnReset clear engaged) s = .next (s.withCtl (Controller.powerOn clear engaged)) := rfl

/-- R206: the soft reset takes place once it is due. -/
theorem exec_softReset (clear engaged : Bool) (s : State) :
    exec (.softReset clear engaged) s =
      s.run fun c => if c.link.resetDue then c.softReset clear engaged else c := rfl

namespace Controller

/-! ### A pool of FREE voices -/

/-- R110: a partition uses no voice when every voice is FREE. -/
theorem used_of_poolEmpty {c : Controller} (h : c.poolEmpty = true) (p : Source) : c.used p = 0 := by
  have hfree : ∀ v ∈ c.pool.voices, v = none := by simpa [poolEmpty] using h
  unfold used
  rw [List.length_eq_zero_iff, List.filter_eq_nil_iff]
  intro v hv
  simp [hfree v hv]

/-- R132: freeing every voice empties the pool. -/
theorem poolEmpty_of_voices_freed {c : Controller} {vs : List (Option Note)} (h : c.pool.voices = vs.map fun _ => none) :
    c.poolEmpty = true := by
  simp [poolEmpty, h]

/-! ### The power-on reset -/

/-- R131: every voice is FREE, also where no voice is named. -/
theorem powerOn_voice (clear engaged : Bool) (i : Nat) : (powerOn clear engaged).voice i = none := by
  have hvoices : (powerOn clear engaged).pool.voices = List.replicate 64 none := rfl
  rw [voice, hvoices, List.getElem?_replicate]
  split
  · rfl
  · rfl

/-- R118, R131: the entry of each key. -/
theorem powerOn_decayEntry (clear engaged : Bool) {k : Nat} (hlow : 1 ≤ k) (hhigh : k ≤ 88) :
    (powerOn clear engaged).decayEntry k = 30 + (k - 1) * 370 / 87 := by
  have hentry : powerOnDecay[k - 1]? = some (30 + (k - 1) * 370 / 87) := powerOnDecay_getElem? (by omega)
  simp [decayEntry, powerOn, hentry]

/-! ### The soft reset -/

variable (c : Controller)

/-- R171: the end of a recording at a soft reset makes no report and leaves the voices alone. -/
theorem recSoftReset_frame : Frame [.takes, .recorder] c c.recSoftReset := by
  unfold recSoftReset
  split
  · exact c.recEnd_frame _ _
  · exact .refl _ _

/-- R149, R171: what ends before the blocks take their soft-reset values touches the slots and the Recorder alone. -/
theorem closeWindow_recSoftReset_frame : Frame [.takes, .recorder] c c.closeWindow.recSoftReset :=
  (c.closeWindow_frame.widen (by simp)).trans c.closeWindow.recSoftReset_frame

/-- R132: the voices are freed and a pending tone is discarded; the rest of the pool is kept. -/
theorem softReset_pool (clear engaged : Bool) : (c.softReset clear engaged).pool =
    { c.pool with voices := c.pool.voices.map fun _ => none, pendingTone := none } := by
  have hpool : c.closeWindow.recSoftReset.pool = c.pool := c.closeWindow_recSoftReset_frame.pool (by simp)
  simp [softReset, hpool]

/-- R206: the Link takes its values of a reset, at the stage time that runs on. -/
theorem softReset_link (clear engaged : Bool) : (c.softReset clear engaged).link = Link.atReset true c.now := by
  have hclock : c.closeWindow.recSoftReset.clock = c.clock := c.closeWindow_recSoftReset_frame.clock (by simp)
  simp [softReset, now, hclock]

end Controller

/-- A soft reset that is due leaves what it makes of the controller. -/
theorem leaves_softReset {s : State} (run : s.Running) (due : s.ctl.link.resetDue = true) (clear engaged : Bool) :
    Leaves (.softReset clear engaged) s (s.ctl.softReset clear engaged) :=
  .of_run (exec_softReset clear engaged s) run (if_pos due)

/-- Settles O5: the pool is the one every power-on reset writes, its voices and decay entries read one by one. -/
theorem powerOnVoicePool : Obligations.PowerOnVoicePool := by
  intro clear engaged s
  refine ⟨_, exec_powerOnReset clear engaged s, rfl, List.length_replicate, Controller.powerOn_voice clear engaged,
    rfl, rfl, rfl, rfl, rfl, rfl, rfl, rfl, powerOnDecay_length, ?entries⟩
  case entries =>
    intro k hlow hhigh
    exact Controller.powerOn_decayEntry clear engaged hlow hhigh

/-- Settles O7: the pool after the reset has its voices freed, so it is empty and neither partition uses a voice; the queue is the Link's at a reset. -/
theorem softResetVoicePool : Obligations.SoftResetVoicePool := by
  intro clear engaged s run due
  have hpool := s.ctl.softReset_pool clear engaged
  have hempty : (s.ctl.softReset clear engaged).poolEmpty = true :=
    Controller.poolEmpty_of_voices_freed (congrArg VoicePool.voices hpool)
  have hqueue : (s.ctl.softReset clear engaged).link.queue = [{ time := s.ctl.now, report := .started true }] :=
    congrArg Link.queue (s.ctl.softReset_link clear engaged)
  exact ⟨_, leaves_softReset run due clear engaged, hpool, hempty, Controller.used_of_poolEmpty hempty .live,
    Controller.used_of_poolEmpty hempty .playback, hqueue⟩

end Sys2Proof.Machine
end

section
/-! What every step keeps (O55 to O59), one limit at a time: the limits, the parts of the controller each speaks of, and the changes of one part that keep them all. -/

namespace Sys2Proof.Machine

/-- R71, R72: the sostenuto set of the Pedal Unit is empty while disengaged, and holds no key twice. -/
structure PedalUnit.SetsOk (u : PedalUnit) : Prop where
  empty : u.engaged = false → u.sostenuto = []
  once : u.sostenuto.Nodup

/-- R173, R181: the sets of the Player. -/
structure Player.SetsOk (p : Player) : Prop where
  empty : p.engaged = false → p.held = []
  once : p.held.Nodup
  ascending : p.keyDown.Pairwise (· < ·)
  stopped : p.session = none → p.keyDown = [] ∧ p.held = [] ∧ p.expected = []
  expecting : p.expected ≠ [] → ∃ x, p.session = some x ∧ (x.phase = .waiting ∨ x.phase = .paused true)

/-- The key sets of the controller are those of the Pedal Unit and those of the Player. -/
theorem Controller.setsOk_iff (c : Controller) : c.SetsOk ↔ c.pedals.SetsOk ∧ c.player.SetsOk :=
  ⟨fun ⟨h1, h2, h3, h4, h5, h6, h7⟩ => ⟨⟨h1, h3⟩, ⟨h2, h4, h5, h6, h7⟩⟩,
    fun ⟨⟨h1, h3⟩, ⟨h2, h4, h5, h6, h7⟩⟩ => ⟨h1, h2, h3, h4, h5, h6, h7⟩⟩

/-- The limits and couplings that O55 to O59 state, each apart; and that the queues of the Link other than its reports stand as in another Link, and that a report is queued. -/
inductive Limit where
  | keyTable | acoustic | silent | rounds | units | pedalTable | voices | decay
  | queues | debts | fifo | coupled | exclusive | sostenuto | playSets | pool
  | lines (l : Option Link) | queued (q : Option QueuedReport)
deriving DecidableEq

/-- A limit without what it is compared with. -/
@[simp] def Limit.base : Limit → Limit
  | .lines _ => .lines none
  | .queued _ => .queued none
  | x => x

theorem Limit.eq_of_base {x y : Limit} (h : x.base = y) (lines : y ≠ .lines none)
    (queued : y ≠ .queued none) : x = y := by
  cases x with
  | lines l => exact absurd h.symm lines
  | queued q => exact absurd h.symm queued
  | _ => exact h

/-- R199 to R201: what waits for the line and for the dispatch, and the line. -/
def Link.lines (l : Link) : List Reply × List RxFrame × List BusyEntry × Option Sending := (l.replies, l.input, l.busy, l.line)

/-- What a limit says of a controller. R101 is kept only with R82 and R83, so it carries them. -/
def Limit.holds (c : Controller) : Limit → Prop
  | .keyTable => c.keys.length = 88
  | .acoustic => c.curves.acoustic.length = 25
  | .silent => c.curves.silent.length = 25
  | .rounds => c.trim.rounds.length = 11
  | .units => c.trim.units.length = 11
  | .pedalTable => c.pedals.recs.length = 3
  | .voices => c.pool.voices.length = 64
  | .decay => c.pool.decay.length = 88
  | .queues => c.link.Bounded
  | .debts => c.DebtsOk
  | .fifo => c.trim.FifoOk
  | .coupled => c.rail.Coupled
  | .exclusive => c.rail.Coupled ∧ c.Exclusive
  | .sostenuto => c.pedals.SetsOk
  | .playSets => c.player.SetsOk
  | .pool => c.PoolOk
  | .lines l => ∀ x, l = some x → c.link.lines = x.lines
  | .queued q => ∀ x, q = some x → x ∈ c.link.queue

/-- The parts of the controller a limit speaks of. -/
def Limit.parts : Limit → List Block
  | .keyTable | .debts => [.keys]
  | .acoustic | .silent => [.curves]
  | .rounds | .units | .fifo => [.trim]
  | .pedalTable | .sostenuto => [.pedals]
  | .voices | .decay | .pool => [.pool]
  | .queues | .lines _ | .queued _ => [.link]
  | .coupled => [.rail]
  | .exclusive => [.rail, .trim]
  | .playSets => [.player]

/-- The pool's limits are about the Voice Pool alone. -/
theorem Controller.PoolOk.of_pool_eq {a b : Controller} (h : b.pool = a.pool) (ok : a.PoolOk) : b.PoolOk := by
  obtain ⟨least, greatest, room, distinct⟩ := ok
  refine ⟨h ▸ least, h ▸ greatest, fun p => ?_, fun i j x y => ?_⟩
  · have := room p
    cases p <;> simpa only [used, reserve, h] using this
  · simpa only [voice, h] using distinct i j x y

/-- A change that leaves the parts a limit speaks of keeps the limit. -/
theorem Limit.holds_of_frame {bs : List Block} {a b : Controller} (f : Controller.Frame bs a b) (x : Limit)
    (away : ∀ y ∈ x.parts, y ∉ bs) (h : x.holds a) : x.holds b := by
  have same : ∀ y ∈ x.parts, y.same a b := fun y m => f y (away y m)
  cases x with
  | pool => exact Controller.PoolOk.of_pool_eq (same .pool (by simp [Limit.parts])) h
  | exclusive =>
    have hr : b.rail = a.rail := same .rail (by simp [Limit.parts])
    have ht : b.trim = a.trim := same .trim (by simp [Limit.parts])
    simpa only [Limit.holds, Controller.Exclusive, hr, ht] using h
  | _ =>
    simp only [Limit.parts, List.mem_singleton, forall_eq, Block.same] at same
    simpa only [Limit.holds, Controller.DebtsOk, same] using h

/-- From `a` to `b` every limit is kept but those listed. -/
def Controller.Keeps (skip : List Limit) (a b : Controller) : Prop :=
  ∀ x : Limit, x.base ∉ skip → x.holds a → x.holds b

namespace Controller.Keeps

variable {skip : List Limit} {a b c : Controller}

theorem refl (skip : List Limit) (a : Controller) : Keeps skip a a := fun _ _ h => h

theorem trans (h : Keeps skip a b) (k : Keeps skip b c) : Keeps skip a c := fun x hx ha => k x hx (h x hx ha)

/-- What keeps every limit keeps all but those listed. -/
theorem weaken (h : Keeps [] a b) : Keeps skip a b := fun x _ => h x (by simp)

/-- Whichever way a test falls. -/
theorem ite {p : Prop} [Decidable p] (h : Keeps skip a b) (k : Keeps skip a c) : Keeps skip a (if p then b else c) := by
  split
  · exact h
  · exact k

/-- The Player's sets, left out, are made good. -/
theorem complete (h : Keeps [.playSets] a b) (hx : a.player.SetsOk → b.player.SetsOk) : Keeps [] a b := fun y _ hy => by
  by_cases e : y.base = .playSets
  · obtain rfl := Limit.eq_of_base e (by decide) (by decide)
    exact hx hy
  · exact h y (by simpa using e) hy

/-- A change keeps every limit when it keeps those that speak of a part it touches. -/
theorem of_frame {bs : List Block} (f : Frame bs a b)
    (h : ∀ x : Limit, (x.parts.any fun y => bs.contains y) = true → x.base ∉ skip → x.holds a → x.holds b) :
    Keeps skip a b := fun x hx ha => by
  by_cases t : (x.parts.any fun y => bs.contains y) = true
  · exact h x t hx ha
  · exact x.holds_of_frame f (fun y m n => t (List.any_eq_true.2 ⟨y, m, by simpa using n⟩)) ha

/-- No limit speaks of the clock, the thresholds, the Headphone Path, the Take Store, the Recorder or the held reset. -/
theorem of_free {bs : List Block} (f : Frame bs a b)
    (free : ∀ y ∈ bs, y ∈ [Block.clock, .thresholds, .phones, .takes, .recorder, .held]) : Keeps skip a b :=
  of_frame f fun x t _ => by
    have away : ∀ y ∈ x.parts, y ∉ [Block.clock, .thresholds, .phones, .takes, .recorder, .held] := by
      cases x <;> simp [Limit.parts]
    obtain ⟨y, m, n⟩ := List.any_eq_true.1 t
    exact absurd (free y (by simpa using n)) (away y m)

theorem of_link (f : Frame [.link] a b) (h : a.link.Bounded → b.link.Bounded)
    (lines : Limit.lines none ∉ skip → b.link.lines = a.link.lines)
    (queued : Limit.queued none ∉ skip → ∀ q ∈ a.link.queue, q ∈ b.link.queue) : Keeps skip a b :=
  of_frame f fun x t s => by
    cases x with
    | queues => exact h
    | lines l => exact fun e y hy => (lines s).trans (e y hy)
    | queued q => exact fun e y hy => queued s y (e y hy)
    | _ => simp [Limit.parts] at t

theorem of_keys (f : Frame [.keys] a b) (size : b.keys.length = a.keys.length) (debts : a.DebtsOk → b.DebtsOk) :
    Keeps skip a b :=
  of_frame f fun x t _ => by
    cases x with
    | keyTable => exact fun h => size.trans h
    | debts => exact debts
    | _ => simp [Limit.parts] at t

theorem of_curves (f : Frame [.curves] a b) (acoustic : a.curves.acoustic.length = 25 → b.curves.acoustic.length = 25)
    (silent : a.curves.silent.length = 25 → b.curves.silent.length = 25) : Keeps skip a b :=
  of_frame f fun x t _ => by
    cases x with
    | acoustic => exact acoustic
    | silent => exact silent
    | _ => simp [Limit.parts] at t

theorem of_pool (f : Frame [.pool] a b) (voices : b.pool.voices.length = a.pool.voices.length)
    (decay : a.pool.decay.length = 88 → b.pool.decay.length = 88) (ok : a.PoolOk → b.PoolOk) : Keeps skip a b :=
  of_frame f fun x t _ => by
    cases x with
    | voices => exact fun h => voices.trans h
    | decay => exact decay
    | pool => exact ok
    | _ => simp [Limit.parts] at t

theorem of_pedals (f : Frame [.pedals] a b) (size : b.pedals.recs.length = a.pedals.recs.length)
    (sets : a.pedals.SetsOk → b.pedals.SetsOk) : Keeps skip a b :=
  of_frame f fun x t _ => by
    cases x with
    | pedalTable => exact fun h => size.trans h
    | sostenuto => exact sets
    | _ => simp [Limit.parts] at t

/-- A change of the Player, its sets apart. -/
theorem of_player (f : Frame [.player] a b) : Keeps [.playSets] a b :=
  of_frame f fun x t s => by
    cases x <;> simp [Limit.parts] at t s

/-- A change of the rail, into a motion or a settle only while no calibration is in progress (R101). -/
theorem of_rail (f : Frame [.rail] a b) (coupled : a.rail.Coupled → b.rail.Coupled)
    (exclusive : a.rail.Coupled → a.Exclusive → b.Exclusive) : Keeps skip a b :=
  of_frame f fun x t _ => by
    cases x with
    | coupled => exact coupled
    | exclusive => exact fun h => ⟨coupled h.1, exclusive h.1 h.2⟩
    | _ => simp [Limit.parts] at t

theorem of_trim (f : Frame [.trim] a b) (rounds : a.trim.rounds.length = 11 → b.trim.rounds.length = 11)
    (units : a.trim.units.length = 11 → b.trim.units.length = 11) (fifo : a.trim.FifoOk → b.trim.FifoOk)
    (exclusive : a.Exclusive → b.Exclusive) : Keeps skip a b :=
  of_frame f fun x t _ => by
    cases x with
    | rounds => exact rounds
    | units => exact units
    | fifo => exact fifo
    | exclusive => exact fun h => ⟨(f.rail (by simp)).symm ▸ h.1, exclusive h.2⟩
    | _ => simp [Limit.parts] at t

/-- What waits for the line and for the dispatch, and the line, are kept. -/
theorem lines_eq (h : Keeps skip a b) (m : Limit.lines none ∉ skip) : b.link.lines = a.link.lines :=
  h (.lines (some a.link)) m (fun _ e => Option.some.inj e ▸ rfl) a.link rfl

/-- A queued report stays queued. -/
theorem queued (h : Keeps skip a b) {q : QueuedReport} (hq : q ∈ a.link.queue) (m : Limit.queued none ∉ skip) :
    q ∈ b.link.queue :=
  h (.queued (some q)) m (fun _ e => Option.some.inj e ▸ hq) q rfl

end Controller.Keeps
end Sys2Proof.Machine
end

section
/-! The Voice Pool's limits (R110, R112, R115 to R117): what writing a voice, changing every voice, taking a strike and re-owning voices do to the used counts and to the sources and keys. -/

namespace Sys2Proof.Machine

/-- The partition that owns a voice; none while it is FREE. -/
def ownerOf (v : Option Note) : Option Source := v.map Note.owner

namespace Controller

variable (c : Controller)

/-- R110: the used count counts the voices that the partition owns. -/
theorem used_eq_countP (p : Source) : c.used p = c.pool.voices.countP fun v => ownerOf v == some p := by
  rw [List.countP_eq_length_filter]
  exact congrArg List.length (List.filter_congr fun v _ => by cases v <;> simp [ownerOf])

/-- A voice that is not FREE lies in the pool. -/
theorem lt_of_voice {i : Nat} {n : Note} (h : c.voice i = some n) : i < c.pool.voices.length := by
  by_contra hi
  simp [voice, List.getElem?_eq_none (Nat.le_of_not_lt hi)] at h

/-- A voice of the pool is the entry at its index. -/
theorem voice_eq_getElem {i : Nat} (h : i < c.pool.voices.length) : c.voice i = c.pool.voices[i] := by
  simp [voice, h]

/-- The voices after a write. -/
theorem setVoice_voice_eq {i : Nat} (h : i < c.pool.voices.length) (v : Option Note) (j : Nat) :
    (c.setVoice i v).voice j = if j = i then v else c.voice j := by
  split
  · next e => exact e ▸ c.setVoice_voice h v
  · next e => simp [voice, setVoice, List.getElem?_set_ne (Ne.symm e)]

/-- R110: writing a voice moves the used counts from its owner before to its owner after. -/
theorem setVoice_used {i : Nat} (h : i < c.pool.voices.length) (v : Option Note) (p : Source) :
    (c.setVoice i v).used p + (if ownerOf (c.voice i) = some p then 1 else 0)
      = c.used p + (if ownerOf v = some p then 1 else 0) := by
  simp only [used_eq_countP, c.voice_eq_getElem h, setVoice, List.countP_set h, beq_iff_eq]
  have hpos : ownerOf c.pool.voices[i] = some p → 0 < c.pool.voices.countP fun v => ownerOf v == some p := fun e =>
    List.countP_pos_iff.2 ⟨_, List.getElem_mem h, by simp [e]⟩
  split
  · next e => have := hpos e; omega
  · omega

/-- No other voice than `i` that is not FREE has a source and key. -/
def Alone (i : Nat) (src : Source) (key : Nat) : Prop :=
  ∀ j n, c.voice j = some n → n.source = src → n.key = key → j = i

/-- R110, R115: writing a note keeps the pool's limits when its owner has room and no other voice has its source and key. -/
theorem setVoice_poolOk {i : Nat} {n : Note} (hi : i < c.pool.voices.length)
    (room : ownerOf (c.voice i) = some n.owner ∨ c.used n.owner < c.reserve n.owner)
    (alone : c.Alone i n.source n.key) (ok : c.PoolOk) : (c.setVoice i (some n)).PoolOk := by
  refine ⟨ok.least, ok.greatest, fun p => ?_, fun j k a b ha hb hs hk => ?_⟩
  · have hu := c.setVoice_used hi (some n) p
    have hp := ok.room p
    have hr : (c.setVoice i (some n)).reserve p = c.reserve p := by cases p <;> rfl
    rw [hr]
    by_cases e : n.owner = p
    · subst e
      rcases room with room | room
      · rw [if_pos room, if_pos (show ownerOf (some n) = some n.owner from rfl)] at hu
        omega
      · simp only [ownerOf, Option.map_some, if_true] at hu
        omega
    · simp [ownerOf, e] at hu
      omega
  · rw [c.setVoice_voice_eq hi] at ha hb
    split at ha <;> split at hb
    · next ej ek => exact ej.trans ek.symm
    · next ej _ =>
      obtain rfl := Option.some.inj ha
      exact ej.trans (alone k b hb hs.symm hk.symm).symm
    · next _ ek =>
      obtain rfl := Option.some.inj hb
      exact (alone j a ha hs hk).trans ek.symm
    · exact ok.distinct j k a b ha hb hs hk

/-- R109: freeing a voice keeps the pool's limits. -/
theorem setVoice_none_poolOk {i : Nat} (hi : i < c.pool.voices.length) (ok : c.PoolOk) : (c.setVoice i none).PoolOk := by
  refine ⟨ok.least, ok.greatest, fun p => ?_, fun j k a b ha hb hs hk => ?_⟩
  · have hu := c.setVoice_used hi none p
    have hp := ok.room p
    have hr : (c.setVoice i none).reserve p = c.reserve p := by cases p <;> rfl
    simp only [ownerOf, Option.map_none, reduceCtorEq, if_false] at hu
    omega
  · rw [c.setVoice_voice_eq hi] at ha hb
    split at ha
    · simp at ha
    · split at hb
      · simp at hb
      · exact ok.distinct j k a b ha hb hs hk

/-- A change of notes keeps whose they are and what they sound. -/
def SameNote (f : Note → Option Note) : Prop :=
  ∀ n m, f n = some m → m.owner = n.owner ∧ m.source = n.source ∧ m.key = n.key

/-- Changing every voice, by a change that keeps owner, source and key, keeps the pool's limits. -/
theorem bindVoices_poolOk {b : Controller} {f : Note → Option Note} (same : SameNote f)
    (hv : b.pool.voices = c.pool.voices.map fun v => Option.bind v f)
    (hr : b.pool.liveReserve = c.pool.liveReserve) (ok : c.PoolOk) : b.PoolOk := by
  have hvoice : ∀ j, b.voice j = (c.voice j).bind f := by
    intro j
    simp only [voice, hv, List.getElem?_map]
    cases c.pool.voices[j]? <;> rfl
  refine ⟨hr ▸ ok.least, hr ▸ ok.greatest, fun p => ?_, fun j k a b' ha hb hs hk => ?_⟩
  · have hres : b.reserve p = c.reserve p := by cases p <;> simp [reserve, hr]
    rw [hres]
    refine le_trans ?_ (ok.room p)
    rw [used_eq_countP, used_eq_countP, hv, List.countP_map]
    refine List.countP_mono_left fun v _ h => ?_
    cases v with
    | none => simp [ownerOf] at h
    | some n =>
      cases hf : f n with
      | none => simp [ownerOf, hf] at h
      | some m =>
        have := (same n m hf).1
        simpa [ownerOf, hf, this] using h
  · rw [hvoice] at ha hb
    obtain ⟨x, hx, hxa⟩ := Option.bind_eq_some_iff.1 ha
    obtain ⟨y, hy, hyb⟩ := Option.bind_eq_some_iff.1 hb
    obtain ⟨-, xs, xk⟩ := same x a hxa
    obtain ⟨-, ys, yk⟩ := same y b' hyb
    exact ok.distinct j k x y hx hy (xs ▸ ys ▸ hs) (xk ▸ yk ▸ hk)

end Controller

/-- R108, R109: a retuned voice keeps its owner, its source and its key. -/
theorem Note.retune_same {n m : Note} {t : Time} {cls : RateClass} {rate : Nat} (h : n.retune t cls rate = some m) :
    m.owner = n.owner ∧ m.source = n.source ∧ m.key = n.key := by
  unfold Note.retune at h
  split at h
  · obtain rfl := Option.some.inj h
    exact ⟨rfl, rfl, rfl⟩
  · dsimp only at h
    split at h
    · cases h
    · obtain rfl := Option.some.inj h
      exact ⟨rfl, rfl, rfl⟩

/-- R123: a fading voice keeps its owner, its source and its key. -/
theorem Note.fade_same {n m : Note} {t : Time} (h : n.fade t = some m) :
    m.owner = n.owner ∧ m.source = n.source ∧ m.key = n.key := by
  unfold Note.fade at h
  split at h
  · obtain rfl := Option.some.inj h
    exact ⟨rfl, rfl, rfl⟩
  · split at h
    · next n' e =>
      obtain rfl := Option.some.inj h
      have same := Note.retune_same e
      exact same
    · cases h

/-- Ranking keeps to the list. -/
theorem firstRanked_mem {xs : List (Nat × Rank)} {x : Nat × Rank} (h : firstRanked xs = some x) : x ∈ xs := by
  induction xs generalizing x with
  | nil => cases h
  | cons y ys ih =>
    unfold firstRanked at h
    split at h
    · exact Option.some.inj h ▸ List.mem_cons_self
    · next z hz =>
      split at h
      · exact Option.some.inj h ▸ List.mem_cons_of_mem _ (ih hz)
      · exact Option.some.inj h ▸ List.mem_cons_self

/-- A list that ranks nothing is empty. -/
theorem firstRanked_eq_none {xs : List (Nat × Rank)} : firstRanked xs = none ↔ xs = [] := by
  cases xs with
  | nil => simp [firstRanked]
  | cons x xs =>
    unfold firstRanked
    split
    · simp
    · split <;> simp

namespace Controller

variable (c : Controller)

/-- The ranked voices are those selected, each with its index and rank. -/
theorem mem_ranked {p : Note → Bool} {rank : Note → Rank} {i : Nat} {r : Rank} :
    (i, r) ∈ c.ranked p rank ↔ ∃ n, c.voice i = some n ∧ p n = true ∧ rank n = r := by
  unfold ranked
  rw [List.mem_filterMap]
  constructor
  · rintro ⟨⟨v, j⟩, hm, he⟩
    have hv := List.mem_zipIdx_iff_getElem?.1 hm
    cases v with
    | none => simp at he
    | some n =>
      by_cases hp : p n = true
      · simp only [hp, if_true, Option.some.injEq, Prod.mk.injEq] at he
        obtain ⟨rfl, rfl⟩ := he
        exact ⟨n, by simp_all [voice], hp, rfl⟩
      · simp [hp] at he
  · rintro ⟨n, hv, hp, rfl⟩
    have hlt := c.lt_of_voice hv
    refine ⟨(some n, i), List.mem_zipIdx_iff_getElem?.2 ?_, by simp [hp]⟩
    rw [c.voice_eq_getElem hlt] at hv
    simp [hlt, hv]

/-- R117: the stolen voice is one of the own partition. -/
theorem stealChoice_owned {src : Source} {i : Nat} (h : c.stealChoice src = some i) :
    ∃ n, c.voice i = some n ∧ n.owner = src := by
  obtain ⟨x, hx, rfl⟩ := Option.map_eq_some_iff.1 h
  obtain ⟨n, hn, ho, -⟩ := (c.mem_ranked (i := x.1) (r := x.2)).1 (firstRanked_mem hx)
  exact ⟨n, hn, by simpa using ho⟩

/-- R115: the voice found has the source and key. -/
theorem findVoice_eq_some {src : Source} {key i : Nat} (h : c.findVoice src key = some i) :
    ∃ n, c.voice i = some n ∧ n.source = src ∧ n.key = key := by
  obtain ⟨hlt, hp, -⟩ := List.findIdx?_eq_some_iff_getElem.1 h
  rw [← c.voice_eq_getElem hlt] at hp
  cases hv : c.voice i with
  | none => simp [hv] at hp
  | some n => exact ⟨n, rfl, by simpa [hv] using hp⟩

/-- R115: none is found only when no voice has the source and key. -/
theorem findVoice_eq_none {src : Source} {key : Nat} (h : c.findVoice src key = none) {i : Nat} {n : Note}
    (hv : c.voice i = some n) (hs : n.source = src) (hk : n.key = key) : False := by
  have hlt := c.lt_of_voice hv
  rw [c.voice_eq_getElem hlt] at hv
  have := List.findIdx?_eq_none_iff.1 h _ (List.getElem_mem hlt)
  simp [hv, hs, hk] at this

/-- R116: the voice found FREE lies in the pool. -/
theorem freeVoice_eq_some {i : Nat} (h : c.freeVoice = some i) : i < c.pool.voices.length ∧ c.voice i = none := by
  obtain ⟨hlt, hp, -⟩ := List.findIdx?_eq_some_iff_getElem.1 h
  exact ⟨hlt, by rw [c.voice_eq_getElem hlt]; simpa using hp⟩

/-- R110, R115: a note begun in a voice whose owner has room, its source and key sounding nowhere else. -/
theorem begin_poolOk {i : Nat} {src owner : Source} {key level : Nat} (hi : i < c.pool.voices.length)
    (room : ownerOf (c.voice i) = some owner ∨ c.used owner < c.reserve owner) (alone : c.Alone i src key)
    (ok : c.PoolOk) : (c.begin i src owner key level).PoolOk :=
  c.setVoice_poolOk hi room alone ok

/-- R116, R117: an allocation keeps the pool's limits, where no voice has the source and key yet. -/
theorem allocate_poolOk {src : Source} {key level : Nat} (new : c.findVoice src key = none) (ok : c.PoolOk) :
    (c.allocate src key level).PoolOk := by
  have alone : ∀ i, c.Alone i src key := fun i j n hv hs hk => (c.findVoice_eq_none new hv hs hk).elim
  unfold allocate
  dsimp only
  split
  · next room =>
    split
    · next i hi => exact c.begin_poolOk (c.freeVoice_eq_some hi).1 (.inr room) (alone i) ok
    · exact ok
  · split
    · next lend =>
      split
      · next i hi => exact c.begin_poolOk (c.freeVoice_eq_some hi).1 (.inr lend.2) (alone i) ok
      · exact ok
    · split
      · next i hi =>
        obtain ⟨n, hv, ho⟩ := c.stealChoice_owned hi
        unfold steal
        rw [hv]
        exact begin_poolOk _ (c.lt_of_voice hv) (.inl (by
          show ownerOf (c.voice i) = some src
          simp [hv, ownerOf, ho])) (alone i) (.of_pool_eq (a := c) rfl ok)
      · exact ok

/-- R113, R115: a strike keeps the pool's limits. -/
theorem poolStrike_poolOk (src : Source) (key level : Nat) (ok : c.PoolOk) : (c.poolStrike src key level).PoolOk := by
  unfold poolStrike
  split
  · next i hi =>
    obtain ⟨n, hv, hs, hk⟩ := c.findVoice_eq_some hi
    rw [hv]
    refine c.begin_poolOk (c.lt_of_voice hv) (.inl (by simp [hv, ownerOf])) ?_ ok
    exact fun j m hm ms mk => ok.distinct j i m n hm hv (ms.trans hs.symm) (mk.trans hk.symm)
  · next new => exact c.allocate_poolOk new ok

/-- Writing a voice keeps the size of the pool. -/
@[simp] theorem setVoice_voices_length (i : Nat) (v : Option Note) :
    (c.setVoice i v).pool.voices.length = c.pool.voices.length := by simp [setVoice]

@[simp] theorem begin_voices_length (i : Nat) (src owner : Source) (key level : Nat) :
    (c.begin i src owner key level).pool.voices.length = c.pool.voices.length := c.setVoice_voices_length _ _

@[simp] theorem begin_decay (i : Nat) (src owner : Source) (key level : Nat) :
    (c.begin i src owner key level).pool.decay = c.pool.decay := rfl

/-- R114: a note begins, keeping what `begin_poolOk` asks for. -/
theorem begin_keeps {skip : List Limit} {i : Nat} {src owner : Source} {key level : Nat}
    (ok : c.PoolOk → (c.begin i src owner key level).PoolOk) : Keeps skip c (c.begin i src owner key level) :=
  .of_pool (c.begin_frame _ _ _ _ _) (by simp) (by simp) ok

end Controller
end Sys2Proof.Machine
end

section
/-! What the operations of the Link, the Voice Pool, the Recorder and the Pedal Unit keep. -/

namespace Sys2Proof.Machine.Controller

variable (c : Controller) {skip : List Limit}

/-! ### Reports and replies (R199, R202) -/

theorem reportAt_keeps (t : Time) (r : Report) : Keeps skip c (c.reportAt t r) :=
  .of_link (c.reportAt_frame t r) (fun h => c.link.place_bounded h _) (fun _ => by simp [Link.lines])
    fun _ q hq => by
      show q ∈ (c.link.place _).queue
      unfold Link.place
      split
      · split
        · exact List.mem_append_left _ hq
        · exact hq
      · exact hq

theorem report_keeps (r : Report) : Keeps skip c (c.report r) := c.reportAt_keeps _ r

theorem reportState_keeps (s : Session) (d : PlayerDetail) : Keeps skip c (c.reportState s d) := c.report_keeps _

theorem railReport_keeps (d : Bool) : Keeps skip c (c.railReport d) := c.report_keeps _

/-- A change of the Link that leaves its queues and its drop count. -/
theorem link_keeps {l : Link} (input : l.input = c.link.input) (busy : l.busy = c.link.busy) (queue : l.queue = c.link.queue)
    (drops : l.dropCount = c.link.dropCount)
    (lines : Limit.lines none ∉ skip → l.replies = c.link.replies ∧ l.line = c.link.line) :
    Keeps skip c { c with link := l } :=
  .of_link (c.link_frame l) (fun h => ⟨input ▸ h.input, busy ▸ h.busy, queue ▸ h.queue, drops ▸ h.drops⟩)
    (fun s => by
      obtain ⟨replies, line⟩ := lines s
      simp only [Link.lines, input, busy, replies, line])
    fun _ q hq => queue ▸ hq

theorem pushReply_keeps (kind tag : Byte) (a : Answer) : Keeps [.lines none, .queued none] c (c.pushReply kind tag a) :=
  c.link_keeps rfl rfl rfl rfl (by simp)

theorem wakeBegin_keeps (src : WakeSource) : Keeps skip c (c.wakeBegin src) :=
  c.link_keeps rfl rfl rfl rfl fun _ => ⟨rfl, rfl⟩

/-! ### The Take Store, the Headphone Path and the Recorder, of which no limit speaks -/

theorem closeWindow_keeps : Keeps skip c c.closeWindow := .of_free c.closeWindow_frame (by simp)

theorem setTake_keeps (s : Slot) (t : Option Take) : Keeps skip c (c.setTake s t) := .of_free (c.setTake_frame s t) (by simp)

theorem takes_keeps (t : TakeStore) : Keeps skip c { c with takes := t } :=
  .of_free (bs := [.takes]) (.of_same fun x => by cases x <;> simp [Block.same]) (by simp)

theorem recorder_keeps (r : Recorder) : Keeps skip c { c with recorder := r } := .of_free (c.recorder_frame r) (by simp)

theorem modPhones_keeps (f : HeadphonePath → HeadphonePath) : Keeps skip c (c.modPhones f) := .of_free (c.modPhones_frame f) (by simp)

theorem recEnd_keeps (j : RecJob) (n : Nat) : Keeps skip c (c.recEnd j n) := .of_free (c.recEnd_frame j n) (by simp)

theorem recStop_keeps (j : RecJob) (x : StopCause) (n : Nat) : Keeps skip c (c.recStop j x n) :=
  (c.recEnd_keeps j n).trans (report_keeps _ _)

theorem syncStop_keeps (ms : Nat) : Keeps skip c (c.syncStop ms) := by
  unfold syncStop
  split
  · split
    · exact c.recStop_keeps _ _ _
    · exact .refl _ _
  · exact .refl _ _

theorem recAppend_keeps (j : RecJob) (r : TakeRec) : Keeps skip c (c.recAppend j r) :=
  (c.setTake_keeps _ _).trans (.ite (recStop_keeps _ _ _ _) (.refl _ _))

theorem recWrite_keeps (k : RecKind) (s v : Nat) : Keeps skip c (c.recWrite k s v) := by
  unfold recWrite
  split
  · split
    · exact c.recAppend_keeps _ _
    · exact .refl _ _
  · exact .refl _ _

theorem recStart_keeps (j : RecJob) (t : Option Time) : Keeps skip c (c.recStart j t) :=
  ((c.setTake_keeps _ _).trans (recorder_keeps _ _)).trans (report_keeps _ _)

theorem recStrike_keeps (k l : Nat) : Keeps skip c (c.recStrike k l) := by
  unfold recStrike
  split
  · split
    · exact c.recWrite_keeps _ _ _
    · exact (c.recStart_keeps _ _).trans (recWrite_keeps _ _ _ _)
  · exact .refl _ _

theorem recPedal_keeps (p v : Nat) : Keeps skip c (c.recPedal p v) := by
  unfold Controller.recPedal
  split
  · split
    · split
      · exact (c.recorder_keeps _).trans (recWrite_keeps _ _ _ _)
      · exact .refl _ _
    · exact .refl _ _
  · exact .refl _ _

/-! ### The Voice Pool -/

/-- A change of the pool that leaves its voices, its reserve and the size of its decay table. -/
theorem pool_keeps {p : VoicePool} (voices : p.voices = c.pool.voices) (reserve : p.liveReserve = c.pool.liveReserve)
    (decay : c.pool.decay.length = 88 → p.decay.length = 88) : Keeps skip c { c with pool := p } :=
  .of_pool (c.pool_frame p) (congrArg _ voices) decay
    (c.bindVoices_poolOk (f := some) (fun n m h => Option.some.inj h ▸ ⟨rfl, rfl, rfl⟩) (by simp [voices]) reserve)

/-- R109: changing every voice, by a change that keeps owner, source and key. -/
theorem bindVoices_keeps {f : Note → Option Note} (same : SameNote f) :
    Keeps skip c { c with pool := { c.pool with voices := c.pool.voices.map fun v => Option.bind v f } } :=
  .of_pool (c.pool_frame _) (by simp) (fun h => h) (c.bindVoices_poolOk same rfl rfl)

theorem toneCheck_keeps : Keeps skip c c.toneCheck := by
  unfold toneCheck
  split
  · split
    · refine .trans ?_ (report_keeps _ _)
      exact c.pool_keeps rfl rfl fun h => h
    · exact .refl _ _
  · exact .refl _ _

theorem mapVoices_keeps {f : Note → Option Note} (same : SameNote f) : Keeps skip c (c.mapVoices f) :=
  (c.bindVoices_keeps same).trans (toneCheck_keeps _)

theorem reevaluate_keeps (p : Note → Bool) : Keeps skip c (c.reevaluate p) :=
  c.mapVoices_keeps fun n m h => by
    split at h
    · exact Note.retune_same h
    · exact Option.some.inj h ▸ ⟨rfl, rfl, rfl⟩

theorem reevaluateKeys_keeps (src : Source) (ks : List Nat) : Keeps skip c (c.reevaluateKeys src ks) := c.reevaluate_keeps _

theorem reevaluateSource_keeps (src : Source) : Keeps skip c (c.reevaluateSource src) := c.reevaluate_keeps _

theorem fadeVoices_keeps (p : Note → Bool) : Keeps skip c (c.fadeVoices p) :=
  c.mapVoices_keeps fun n m h => by
    split at h
    · exact Note.fade_same h
    · exact Option.some.inj h ▸ ⟨rfl, rfl, rfl⟩

theorem fadePlayback_keeps : Keeps skip c c.fadePlayback := c.fadeVoices_keeps _

/-- R130, R132: freeing every voice. -/
theorem freed_keeps {p : VoicePool} (voices : p.voices = c.pool.voices.map fun _ => none)
    (reserve : p.liveReserve = c.pool.liveReserve) (decay : p.decay = c.pool.decay) : Keeps skip c { c with pool := p } :=
  .of_pool (c.pool_frame p) (by simp [voices]) (fun h => decay ▸ h)
    (c.bindVoices_poolOk (f := fun _ => none) (fun _ _ h => by cases h) (by simp [voices]) reserve)

theorem freeVoices_keeps : Keeps skip c c.freeVoices := c.freed_keeps rfl rfl rfl

theorem voiceEnd_keeps (i : Nat) : Keeps skip c (c.voiceEnd i) := by
  unfold Controller.voiceEnd
  split
  · next n hv =>
    split
    · exact Keeps.trans (.of_pool (c.setVoice_frame i none) (by simp) (fun h => h)
        (c.setVoice_none_poolOk (c.lt_of_voice hv))) (toneCheck_keeps _)
    · exact .refl _ _
  · exact .refl _ _

/-- R113 to R117: what a strike that reaches the pool can do: a note begins in some voice, after the STEAL report of a theft, or nothing changes where the pool names no voice. -/
theorem poolStrike_cases (src : Source) (k l : Nat) :
    c.poolStrike src k l = c ∨ (∃ i owner, c.poolStrike src k l = c.begin i src owner k l) ∨
      ∃ r i, c.poolStrike src k l = (c.report r).begin i src src k l := by
  unfold poolStrike allocate steal
  dsimp only
  split <;> split <;> [skip; skip; split; (split <;> split)]
  all_goals first
    | exact .inl rfl
    | exact .inr (.inl ⟨_, _, rfl⟩)
    | (split <;> [exact .inr (.inr ⟨_, _, rfl⟩); exact .inl rfl])

theorem poolStrike_keeps (src : Source) (k l : Nat) : Keeps skip c (c.poolStrike src k l) := fun x hx h => by
  by_cases e : x.base = .pool
  · obtain rfl := Limit.eq_of_base e (by decide) (by decide)
    exact c.poolStrike_poolOk src k l h
  · have written : ∀ (a : Controller) (i : Nat) (owner : Source), Keeps [.pool] a (a.begin i src owner k l) := fun a i owner =>
      .of_frame (a.begin_frame _ _ _ _ _) fun y t s => by
        cases y with
        | voices => exact (a.begin_voices_length i src owner k l).trans
        | decay => exact id
        | _ => simp [Limit.parts] at t s
    obtain e' | ⟨i, owner, e'⟩ | ⟨r, i, e'⟩ := c.poolStrike_cases src k l
    · rwa [e']
    · rw [e']
      exact written c i owner x (by simpa using e) h
    · rw [e']
      exact ((c.report_keeps r).trans (written _ i src)) x (by simpa using e) h

theorem liveStrike_keeps (k l : Nat) : Keeps skip c (c.liveStrike k l) :=
  .ite (c.poolStrike_keeps _ _ _) (.refl _ _)

/-! ### The Pedal Unit -/

theorem setPedal_keeps (p : Nat) (r : PedalRec) : Keeps skip c (c.setPedal p r) :=
  .of_pedals (c.setPedal_frame p r) (by simp [setPedal]) fun h => ⟨h.empty, h.once⟩

/-- A change of the Pedal Unit that leaves its table. -/
theorem pedals_keeps {u : PedalUnit} (size : u.recs.length = c.pedals.recs.length) (sets : c.pedals.SetsOk → u.SetsOk) :
    Keeps skip c { c with pedals := u } := .of_pedals (c.pedals_frame u) size sets

theorem sostenutoOff_keeps : Keeps skip c c.sostenutoOff := by
  refine .trans (.trans ?_ (report_keeps _ _)) (reevaluateKeys_keeps _ _ _)
  exact c.pedals_keeps rfl fun _ => ⟨fun _ => rfl, List.nodup_nil⟩

theorem sostenutoCompare_keeps (v : Nat) : Keeps skip c (c.sostenutoCompare v) := by
  unfold sostenutoCompare
  split <;> split
  · exact c.sostenutoOff_keeps
  · exact .refl _ _
  · exact c.pedals_keeps rfl fun h => ⟨h.empty, h.once⟩
  · exact c.pedals_keeps rfl fun h => ⟨h.empty, h.once⟩

/-- R71: the keys whose dampers are up, each once. -/
theorem upKeys_nodup : c.upKeys.Nodup :=
  (List.Nodup.map (fun _ _ h => Nat.succ.inj h) List.nodup_range).filter _

theorem sostenutoOn_keeps : Keeps skip c c.sostenutoOn := by
  unfold sostenutoOn
  split
  · refine .trans (.trans ?_ (report_keeps _ _)) (reevaluateKeys_keeps _ _ _)
    exact c.pedals_keeps rfl fun _ => ⟨fun h => by simp at h, c.upKeys_nodup⟩
  · exact .refl _ _

theorem handValue_keeps (p v : Nat) : Keeps skip c (c.handValue p v) :=
  .trans (.ite (c.reevaluateSource_keeps _) (.refl _ _)) (recPedal_keeps _ _ _)

theorem valueReport_keeps (p v : Nat) : Keeps skip c (c.valueReport p v) :=
  .ite ((c.setPedal_keeps _ _).trans (report_keeps _ _)) (.refl _ _)

theorem takeValue_keeps (p v : Nat) : Keeps skip c (c.takeValue p v) := by
  unfold takeValue
  extract_lets r changed c1 c2
  have written : Keeps skip c c1 := .ite (c.setPedal_keeps _ _) (.refl _ _)
  have compared : Keeps skip c1 c2 := .ite (c1.sostenutoCompare_keeps v) (.refl _ _)
  exact (written.trans compared).trans
    (.ite ((c2.handValue_keeps p v).trans (valueReport_keeps _ _ _)) (.refl _ _))

theorem pedalSample_keeps (p raw : Nat) : Keeps skip c (c.pedalSample p raw) :=
  .ite ((c.setPedal_keeps _ _).trans (.ite (takeValue_keeps _ _ _) (.refl _ _))) (.refl _ _)

theorem pedalFault_keeps (p : Nat) : Keeps skip c (c.pedalFault p) := by
  unfold Controller.pedalFault
  extract_lets r c1 c2 c3
  have compared : Keeps skip c1 c2 := .ite (c1.sostenutoCompare_keeps 0) (.refl _ _)
  have handed : Keeps skip c2 c3 := .ite (.refl _ _) (c2.handValue_keeps p 0)
  exact .ite ((((c.setPedal_keeps _ _).trans compared).trans handed).trans (report_keeps _ _)) (.refl _ _)

theorem pedalClear_keeps (p : Nat) : Keeps skip c (c.pedalClear p) :=
  .ite ((c.setPedal_keeps _ _).trans (report_keeps _ _)) (.refl _ _)

/-! ### The Headphone Path -/

theorem arriveOff_keeps : Keeps skip c c.arriveOff :=
  (c.modPhones_keeps _).trans (.ite ((freeVoices_keeps _).trans (toneCheck_keeps _)) (.refl _ _))

theorem outputDecide_keeps : Keeps skip c c.outputDecide := by
  unfold outputDecide
  split <;> split
  · exact c.modPhones_keeps _
  · exact c.modPhones_keeps _
  · exact .refl _ _
  · exact .refl _ _
  · exact c.modPhones_keeps _
  · exact c.modPhones_keeps _
  · exact .ite c.arriveOff_keeps (.refl _ _)
  · exact .refl _ _

theorem rampEnd_keeps : Keeps skip c c.rampEnd := by
  unfold rampEnd
  split
  · split
    · exact c.modPhones_keeps _
    · exact c.arriveOff_keeps
    · exact .refl _ _
    · exact .refl _ _
  · exact .refl _ _

theorem jackChange_keeps : Keeps skip c c.jackChange := by
  unfold jackChange
  extract_lets present c1 c2 c3
  have decided : Keeps skip c c3 := ((c.modPhones_keeps _).trans (report_keeps _ _)).trans (outputDecide_keeps _)
  exact .ite (decided.trans (.ite (wakeBegin_keeps _ _) (.refl _ _))) (.refl _ _)

end Sys2Proof.Machine.Controller
end

section
/-! What the Player keeps. Within a batch its expectation set may fill before the wait is entered (R191), so the parts of play are followed by a weaker condition, and the batch as a whole by the limit. -/

namespace Sys2Proof.Machine

/-- A Player in play, its sets in order but for the expectation set. -/
structure Player.InPlay (p : Player) : Prop where
  session : p.session ≠ none
  empty : p.engaged = false → p.held = []
  once : p.held.Nodup
  ascending : p.keyDown.Pairwise (· < ·)

/-- A Player whose sets are in order is in play while it has a session. -/
theorem Player.SetsOk.inPlay {p : Player} (h : p.SetsOk) {x : Session} (hx : p.session = some x) : p.InPlay :=
  ⟨by simp [hx], h.empty, h.once, h.ascending⟩

/-- A Player in play that expects no key, or waits, has its sets in order. -/
theorem Player.InPlay.setsOk {p : Player} (h : p.InPlay)
    (wait : p.expected = [] ∨ ∃ x, p.session = some x ∧ (x.phase = .waiting ∨ x.phase = .paused true)) : p.SetsOk :=
  ⟨h.empty, h.once, h.ascending, fun e => absurd e h.session, fun e => wait.resolve_left e⟩

/-- A Player with empty sets has its sets in order. -/
theorem Player.SetsOk.of_emptied {p : Player} (held : p.held = []) (down : p.keyDown = []) (expected : p.expected = []) :
    p.SetsOk :=
  ⟨fun _ => held, held ▸ List.nodup_nil, down ▸ .nil, fun _ => ⟨down, held, expected⟩, fun h => absurd expected h⟩

/-- R180: a key that joins an ascending set is in it, with the keys before. -/
theorem mem_joinKey {k x : Nat} {ks : List Nat} : x ∈ joinKey k ks ↔ x = k ∨ x ∈ ks := by
  induction ks with
  | nil => simp [joinKey]
  | cons y ys ih =>
    unfold joinKey
    split
    · simp
    · split
      · next e => simp [e]
      · simp only [List.mem_cons, ih]
        tauto

/-- A key joins an ascending set in its place. -/
theorem joinKey_ascending {k : Nat} {ks : List Nat} (h : ks.Pairwise (· < ·)) : (joinKey k ks).Pairwise (· < ·) := by
  induction ks with
  | nil => simp [joinKey]
  | cons y ys ih =>
    obtain ⟨hy, hys⟩ := List.pairwise_cons.1 h
    unfold joinKey
    split
    · next hk =>
      refine List.pairwise_cons.2 ⟨fun z hz => ?_, h⟩
      rcases List.mem_cons.1 hz with rfl | hz
      · exact hk
      · exact hk.trans (hy z hz)
    · split
      · exact h
      · refine List.pairwise_cons.2 ⟨fun z hz => ?_, ih hys⟩
        rcases mem_joinKey.1 hz with rfl | hz
        · omega
        · exact hy z hz

namespace Controller

variable (c : Controller) {skip : List Limit}

/-! ### The play without the Player's sets -/

theorem setSession_body (s : Option Session) : Keeps [.playSets] c (c.setSession s) := .of_player (c.setSession_frame s)

theorem player_body (p : Player) : Keeps [.playSets] c { c with player := p } := .of_player (c.player_frame p)

theorem setPlayPedals_body (d n f : Nat) : Keeps [.playSets] c (c.setPlayPedals d n f) := .of_player (c.setPlayPedals_frame d n f)

theorem setDue_body : Keeps [.playSets] c c.setDue := .of_player c.setDue_frame

theorem raiseDamper_body (k : Nat) : Keeps [.playSets] c (c.raiseDamper k) :=
  (c.player_body _).trans (reevaluateKeys_keeps _ _ _)

theorem lowerDamper_body (k : Nat) : Keeps [.playSets] c (c.lowerDamper k) :=
  (c.player_body _).trans (reevaluateKeys_keeps _ _ _)

theorem playSostenuto_body (v : Nat) : Keeps [.playSets] c (c.playSostenuto v) := by
  unfold playSostenuto
  extract_lets _ c1
  exact (c.player_body _).trans (.ite ((c1.player_body _).trans (reevaluateKeys_keeps _ _ _))
    (.ite ((c1.player_body _).trans (reevaluateKeys_keeps _ _ _)) (.refl _ _)))

theorem playPedal_body (p v : Nat) : Keeps [.playSets] c (c.playPedal p v) := by
  unfold playPedal
  split
  · exact (c.player_body _).trans (reevaluateSource_keeps _ _)
  · exact c.playSostenuto_body v
  · exact c.player_body _

theorem applyRecord_body (s : Session) (r : TakeRec) : Keeps [.playSets] c (c.applyRecord s r) := by
  unfold applyRecord
  split
  · exact .ite (.refl _ _) (.ite (c.player_body _) ((c.raiseDamper_body _).trans (poolStrike_keeps _ _ _ _)))
  · exact .ite (.refl _ _) (c.raiseDamper_body _)
  · exact .ite (.refl _ _) (c.lowerDamper_body _)
  · exact c.playPedal_body _ _
  · exact c.report_keeps _

theorem applyBatch_body (rs : List TakeRec) : Keeps [.playSets] c (applyBatch rs c) := by
  induction rs generalizing c with
  | nil => exact .refl _ _
  | cons r rs ih =>
    unfold applyBatch
    split
    · exact .refl _ _
    · exact .ite (.ite (((c.setSession_body _).trans (player_body _ _)).trans (ih _))
        (((c.setSession_body _).trans (applyRecord_body _ _ _)).trans (ih _))) (.refl _ _)

theorem runBatch_body : Keeps [.playSets] c c.runBatch := by
  unfold runBatch
  split
  · exact .refl _ _
  · extract_lets c1
    split
    · exact c.applyBatch_body _
    · exact (c.applyBatch_body _).trans (.ite (.refl _ _) ((c1.setSession_body _).trans (reportState_keeps _ _ _)))

theorem naturalEnd_body (s : Session) : Keeps [.playSets] c (c.naturalEnd s) :=
  ((((c.setPlayPedals_body _ _ _).trans (setSession_body _ _)).trans (reevaluateSource_keeps _ _)).trans
    (report_keeps _ _)).trans (syncStop_keeps _ _)

theorem endOrDue_body : Keeps [.playSets] c c.endOrDue := by
  unfold endOrDue
  split
  · exact .ite (c.naturalEnd_body _) c.setDue_body
  · exact .refl _ _

theorem loopJump_body (s : Session) (l : Loop) : Keeps [.playSets] c (c.loopJump s l) :=
  (((c.fadePlayback_keeps.trans (setPlayPedals_body _ _ _ _)).trans (setSession_body _ _)).trans (report_keeps _ _)).trans
    (runBatch_body _)

theorem takeReached_body : Keeps [.playSets] c c.takeReached := by
  unfold takeReached
  extract_lets c1
  refine .ite (c.runBatch_body.trans ?_) (.refl _ _)
  split
  · exact .refl _ _
  · split
    · exact (c1.loopJump_body _ _).trans (endOrDue_body _)
    · exact c1.endOrDue_body

/-! ### The Player's sets in play -/

theorem raiseDamper_player (k : Nat) :
    (c.raiseDamper k).player = { c.player with keyDown := joinKey k c.player.keyDown } :=
  (reevaluateKeys_frame { c with player := { c.player with keyDown := joinKey k c.player.keyDown } } _ _).player (by simp)

theorem lowerDamper_player (k : Nat) :
    (c.lowerDamper k).player = { c.player with keyDown := leaveKey k c.player.keyDown } :=
  (reevaluateKeys_frame { c with player := { c.player with keyDown := leaveKey k c.player.keyDown } } _ _).player (by simp)

/-- R181: what a PEDAL record of pedal 1 leaves of the Player. -/
theorem playSostenuto_player (v : Nat) : (c.playSostenuto v).player =
    if c.player.engaged = false ∧ 128 ≤ v then
      { c.player with sostenuto := v, engaged := true, held := c.player.keyDown }
    else if c.player.engaged = true ∧ v < 96 then { c.player with sostenuto := v, engaged := false, held := [] }
    else { c.player with sostenuto := v } := by
  unfold playSostenuto
  dsimp only
  split
  · exact (reevaluateKeys_frame _ _ _).player (by simp)
  · split
    · exact (reevaluateKeys_frame _ _ _).player (by simp)
    · rfl

theorem playSostenuto_inPlay (v : Nat) (h : c.player.InPlay) : (c.playSostenuto v).player.InPlay := by
  rw [playSostenuto_player]
  split
  · exact ⟨h.session, fun e => by simp at e, h.ascending.imp fun hlt => Nat.ne_of_lt hlt, h.ascending⟩
  · split
    · exact ⟨h.session, fun _ => rfl, List.nodup_nil, h.ascending⟩
    · exact ⟨h.session, h.empty, h.once, h.ascending⟩

theorem raiseDamper_inPlay (k : Nat) (h : c.player.InPlay) : (c.raiseDamper k).player.InPlay := by
  rw [raiseDamper_player]
  exact ⟨h.session, h.empty, h.once, joinKey_ascending h.ascending⟩

theorem lowerDamper_inPlay (k : Nat) (h : c.player.InPlay) : (c.lowerDamper k).player.InPlay := by
  rw [lowerDamper_player]
  exact ⟨h.session, h.empty, h.once, h.ascending.filter _⟩

theorem playPedal_inPlay (p v : Nat) (h : c.player.InPlay) : (c.playPedal p v).player.InPlay := by
  unfold playPedal
  split
  · rw [(reevaluateSource_frame _ _).player (by simp)]
    exact ⟨h.session, h.empty, h.once, h.ascending⟩
  · exact c.playSostenuto_inPlay v h
  · exact ⟨h.session, h.empty, h.once, h.ascending⟩

theorem applyRecord_inPlay (s : Session) (r : TakeRec) (h : c.player.InPlay) : (c.applyRecord s r).player.InPlay := by
  unfold applyRecord
  split
  · split <;> [skip; split]
    · exact h
    · exact ⟨h.session, h.empty, h.once, h.ascending⟩
    · rw [(poolStrike_frame _ _ _ _).player (by simp)]
      exact c.raiseDamper_inPlay _ h
  · split
    · exact h
    · exact c.raiseDamper_inPlay _ h
  · split
    · exact h
    · exact c.lowerDamper_inPlay _ h
  · exact c.playPedal_inPlay _ _ h
  · exact h

theorem setSession_inPlay (x : Session) (h : c.player.InPlay) : (c.setSession (some x)).player.InPlay :=
  ⟨by simp, h.empty, h.once, h.ascending⟩

theorem applyBatch_inPlay (rs : List TakeRec) (h : c.player.InPlay) : (applyBatch rs c).player.InPlay := by
  induction rs generalizing c with
  | nil => exact h
  | cons r rs ih =>
    unfold applyBatch
    split
    · exact h
    · split
      · dsimp only
        split
        · exact ih _ ⟨(c.setSession_inPlay _ h).session, h.empty, h.once, h.ascending⟩
        · exact ih _ (applyRecord_inPlay _ _ _ (c.setSession_inPlay _ h))
      · exact h

/-- R191: a batch ends with its expectation set empty or in a wait. -/
theorem runBatch_setsOk (h : c.player.InPlay) : c.runBatch.player.SetsOk := by
  unfold runBatch
  split
  · next hn => exact absurd hn h.session
  · extract_lets c1
    have hb : c1.player.InPlay := c.applyBatch_inPlay _ h
    split
    · next hn => exact absurd hn hb.session
    · split
      · next he => exact hb.setsOk (.inl (by simpa using he))
      · exact (c1.setSession_inPlay _ hb).setsOk (.inr ⟨_, rfl, .inl rfl⟩)

theorem setPlayPedals_setsOk (d n f : Nat) : (c.setPlayPedals d n f).player.SetsOk := .of_emptied rfl rfl rfl

/-- The Player's sets are empty where it stands at a place apart from its records, whatever its session. -/
theorem setPlayPedals_setSession_setsOk (d n f : Nat) (s : Option Session) :
    ((c.setPlayPedals d n f).setSession s).player.SetsOk := .of_emptied rfl rfl rfl

theorem naturalEnd_player (s : Session) : (c.naturalEnd s).player = ((c.setPlayPedals 0 0 0).setSession none).player := by
  unfold naturalEnd
  rw [(syncStop_frame _ _).player (by simp), report_player, (reevaluateSource_frame _ _).player (by simp)]

theorem setDue_setsOk (h : c.player.SetsOk) : c.setDue.player.SetsOk := by
  unfold setDue
  split
  · next s hs =>
    have written : ∀ d, (c.setSession (some { s with due := d })).player.SetsOk := fun d =>
      (c.setSession_inPlay _ (h.inPlay hs)).setsOk (by
        by_cases e : c.player.expected = []
        · exact .inl e
        · obtain ⟨x, hx, ph⟩ := h.expecting e
          obtain rfl := Option.some.inj (hs.symm.trans hx)
          exact .inr ⟨_, rfl, ph⟩)
    split <;> exact written _
  · exact h

theorem endOrDue_setsOk (h : c.player.SetsOk) : c.endOrDue.player.SetsOk := by
  unfold endOrDue
  split
  · split
    · exact (c.naturalEnd_player _).symm ▸ c.setPlayPedals_setSession_setsOk 0 0 0 none
    · exact c.setDue_setsOk h
  · exact h

theorem loopJump_setsOk (s : Session) (l : Loop) : (c.loopJump s l).player.SetsOk := by
  refine runBatch_setsOk _ ⟨fun h => ?_, fun _ => rfl, List.nodup_nil, .nil⟩
  simp at h

theorem takeReached_setsOk (h : c.player.SetsOk) : c.takeReached.player.SetsOk := by
  unfold takeReached
  split
  · next hp =>
    have hs : ∃ x, c.player.session = some x := by
      cases e : c.player.session with
      | none => simp [playerState, e] at hp
      | some x => exact ⟨x, rfl⟩
    have hb := c.runBatch_setsOk (h.inPlay hs.choose_spec)
    dsimp only
    split
    · exact hb
    · split
      · exact endOrDue_setsOk _ (loopJump_setsOk _ _ _)
      · exact endOrDue_setsOk _ hb
  · exact h

theorem takeReached_keeps : Keeps [] c c.takeReached := c.takeReached_body.complete c.takeReached_setsOk

/-! ### Changes of the Player that keep its sets -/

theorem player_keeps {p : Player} (sets : c.player.SetsOk → p.SetsOk) : Keeps [] c { c with player := p } :=
  (c.player_body p).complete sets

/-- The Player keeps its sets through a change of its session that keeps it in its wait. -/
theorem setSession_keeps {s x : Session} (hs : c.player.session = some s) (phase : x.phase = s.phase) :
    Keeps [] c (c.setSession (some x)) :=
  c.player_keeps fun h => (c.setSession_inPlay x (h.inPlay hs)).setsOk (by
    by_cases e : c.player.expected = []
    · exact .inl e
    · obtain ⟨y, hy, ph⟩ := h.expecting e
      obtain rfl := Option.some.inj (hs.symm.trans hy)
      exact .inr ⟨_, rfl, by rwa [phase]⟩)

/-- The Player may take any state of play while it expects no key. -/
theorem setSession_keeps_of_nothing_expected {s x : Session} (hs : c.player.session = some s)
    (e : c.player.SetsOk → c.player.expected = []) : Keeps [] c (c.setSession (some x)) :=
  c.player_keeps fun h => (c.setSession_inPlay x (h.inPlay hs)).setsOk (.inl (e h))

/-- The Player enters a wait, or a pause from one. -/
theorem setSession_keeps_of_wait {s x : Session} (hs : c.player.session = some s)
    (ph : x.phase = .waiting ∨ x.phase = .paused true) : Keeps [] c (c.setSession (some x)) :=
  c.player_keeps fun h => (c.setSession_inPlay x (h.inPlay hs)).setsOk (.inr ⟨_, rfl, ph⟩)

/-- A Player that neither waits nor was paused in a wait expects no key. -/
theorem nothing_expected {p : Player} {s : Session} (hs : p.session = some s) (h1 : s.phase ≠ .waiting)
    (h2 : s.phase ≠ .paused true) (h : p.SetsOk) : p.expected = [] := by
  by_contra e
  obtain ⟨x, hx, ph⟩ := h.expecting e
  obtain rfl := Option.some.inj (hs.symm.trans hx)
  exact ph.elim h1 h2

theorem bringUp_keeps : Keeps [] c c.bringUp := by
  unfold bringUp
  split
  · next s hs =>
    refine c.setSession_keeps hs ?_
    unfold Session.upTo
    split
    · rfl
    · rfl
    · rfl
  · exact .refl _ _

theorem moveTo_keeps (s : Session) (p : Nat) : Keeps [] c (c.moveTo s p) :=
  ((c.setPlayPedals_body _ _ _).trans (setSession_body _ _)).complete fun _ => c.setPlayPedals_setSession_setsOk _ _ _ _

theorem endWait_keeps {s : Session} (hs : c.player.session = some s) (e : c.player.expected = []) :
    Keeps [] c (c.endWait s) :=
  ((c.setSession_keeps_of_nothing_expected hs fun _ => e).trans (reportState_keeps _ _ _)).trans (takeReached_keeps _)

/-- Keys leave the expectation set of a Player that waits. -/
theorem expected_keeps {s : Session} (hs : c.player.session = some s) (ph : s.phase = .waiting ∨ s.phase = .paused true)
    (e : List Nat) : Keeps [] c { c with player := { c.player with expected := e } } :=
  c.player_keeps fun h => ⟨h.empty, h.once, h.ascending, fun n => by simp [hs] at n, fun _ => ⟨s, hs, ph⟩⟩

theorem guideStrike_keeps (k : Nat) : Keeps [] c (c.guideStrike k) := by
  unfold guideStrike
  extract_lets c1
  refine c.bringUp_keeps.trans ?_
  split
  · exact .refl _ _
  · next s hs =>
    split
    · next ph =>
      have left := c1.expected_keeps hs (.inl ph) (leaveKey k c1.player.expected)
      split
      · split
        · next he => exact left.trans (endWait_keeps _ hs (by simpa using he))
        · exact left
      · exact c1.report_keeps _
    · exact c1.takeReached_keeps
    · exact c1.takeReached_keeps

theorem stopPlayer_keeps : Keeps [] c c.stopPlayer :=
  ((c.fadePlayback_keeps.trans (setPlayPedals_body _ _ _ _)).trans (setSession_body _ _)).complete fun _ =>
    setPlayPedals_setSession_setsOk _ _ _ _ _

theorem dueTimerExpiry_keeps : Keeps [] c c.dueTimerExpiry := by
  unfold dueTimerExpiry
  split
  · exact .ite (c.bringUp_keeps.trans (takeReached_keeps _)) (.refl _ _)
  · exact .refl _ _

theorem seek_keeps (s : Session) (p : Nat) : Keeps [] c (c.seek s p) := by
  unfold seek
  extract_lets c1 c2 c3
  have faded : Keeps [] c c1 := c.fadePlayback_keeps
  split
  · exact faded.trans (moveTo_keeps _ _ _)
  · exact (faded.trans (moveTo_keeps _ _ _)).trans (takeReached_keeps _)
  · have told : Keeps [] c2 c3 := by
      unfold c3
      split
      · exact c2.reportState_keeps _ _
      · exact .refl _ _
    exact ((faded.trans (moveTo_keeps _ _ _)).trans told).trans (takeReached_keeps _)

theorem dropHands_keeps : Keeps [] c c.dropHands := by
  unfold dropHands
  split
  · exact .refl _ _
  · next s hs =>
    refine .trans ?_ (reevaluateKeys_keeps _ _ _)
    exact c.player_keeps fun h =>
      ⟨h.empty, h.once, h.ascending.filter _, fun n => by simp [hs] at n, h.expecting⟩

theorem handsEndWait_keeps : Keeps [] c c.handsEndWait := by
  unfold handsEndWait
  split
  · exact .refl _ _
  · next s hs =>
    split
    · next ph => exact (c.expected_keeps hs (.inl ph) []).trans (endWait_keeps _ hs rfl)
    · next ph =>
      exact (c.expected_keeps hs (.inr ph) []).trans (setSession_keeps_of_nothing_expected _ hs fun _ => rfl)
    · exact c.takeReached_keeps
    · exact c.takeReached_keeps

end Controller
end Sys2Proof.Machine
end

section
/-! What the Trim Engine, the Rail Drive and the Key Scanner keep. -/

namespace Sys2Proof.Machine

/-- R27: the debt of a key after a power-on reset is in order. -/
theorem KeyRec.powerOn_debtOk : KeyRec.powerOn.DebtOk := ⟨by decide, by decide, by decide⟩

/-- A record with the debt and the stale mark of another. -/
theorem KeyRec.DebtOk.congr {r x : KeyRec} (h : r.DebtOk) (debt : x.debt = r.debt)
    (stale : x.stale = r.stale) : x.DebtOk := by
  unfold KeyRec.DebtOk at *
  rwa [debt, stale]

/-- A record with no stale mark. -/
theorem KeyRec.DebtOk.of_fresh {r : KeyRec} (low : -8 ≤ r.debt) (high : r.debt ≤ 8) (stale : r.stale = false) : r.DebtOk :=
  ⟨low, high, fun h => by simp [stale] at h⟩

namespace Controller

variable (c : Controller) {skip : List Limit}

/-! ### The Key Table (R42) -/

/-- R42: every key read has its debt in order. -/
theorem DebtsOk.key {c : Controller} (h : c.DebtsOk) (k : Nat) : (c.key k).DebtOk := by
  unfold Controller.key
  cases e : c.keys[k - 1]? with
  | none => exact KeyRec.powerOn_debtOk
  | some r => exact h r (List.mem_of_getElem? e)

theorem setKey_keeps (k : Nat) {r : KeyRec} (h : (c.key k).DebtOk → r.DebtOk) : Keeps skip c (c.setKey k r) :=
  .of_keys (c.setKey_frame k r) (by simp) fun ok x hx => by
    rcases List.mem_or_eq_of_mem_set hx with hx | rfl
    · exact ok x hx
    · exact h (ok.key k)

theorem modKey_keeps (k : Nat) {f : KeyRec → KeyRec} (h : ∀ r : KeyRec, r.DebtOk → (f r).DebtOk) :
    Keeps skip c (c.modKey k f) := c.setKey_keeps k (h _)

/-- Every key changed, its debt kept in order. -/
theorem mapKeys_keeps {f : KeyRec → KeyRec} (h : ∀ r : KeyRec, r.DebtOk → (f r).DebtOk) :
    Keeps skip c { c with keys := c.keys.map f } :=
  .of_keys (.of_same fun x => by cases x <;> simp [Block.same]) (by simp) fun ok x hx => by
    obtain ⟨r, hr, rfl⟩ := List.mem_map.1 hx
    exact h r (ok r hr)

/-! ### The Trim Engine (R43, R52 to R54) -/

/-- A change of the Trim Engine that grants no calibration. -/
theorem trim_keeps {t : TrimEngine} (rounds : c.trim.rounds.length = 11 → t.rounds.length = 11)
    (units : c.trim.units.length = 11 → t.units.length = 11) (fifo : c.trim.FifoOk → t.FifoOk)
    (cal : t.cal.isSome = true → c.trim.cal.isSome = true) : Keeps skip c { c with trim := t } :=
  .of_trim (c.trim_frame t) rounds units fifo fun h e => h (cal e)

theorem setUnit_keeps (g : Nat) (u : TrimUnit) : Keeps skip c (c.setUnit g u) :=
  c.trim_keeps id (fun h => by simpa using h) (fun h => ⟨h.groups, h.once, h.calibrated, h.examined⟩) id

theorem trimSync_keeps : Keeps skip c c.trimSync :=
  c.trim_keeps id (fun _ => by simp) (fun h => ⟨h.groups, h.once, h.calibrated, h.examined⟩) id

theorem startRounds_keeps : Keeps skip c c.startRounds :=
  c.trim_keeps (fun _ => by simp) id (fun h => ⟨h.groups, h.once, h.calibrated, h.examined⟩) id

/-- R54: the examined keys of a grant are keys of the group in key order. -/
theorem examsOf_keys (g : Nat) : ((c.examsOf g).map Exam.key).Sublist (groupKeys g) := by
  have : (c.examsOf g).map Exam.key =
      (groupKeys g).filter fun k => (c.key k).state != .fault && (c.key k).state != .muted := by
    simp [examsOf, Function.comp_def]
  exact this ▸ List.filter_sublist

/-- R53: a grant finds the rail neither moving nor settling. -/
theorem grantOpen_rail {c : Controller} (h : c.grantOpen = true) :
    c.rail.state ≠ .engaging ∧ c.rail.state ≠ .disengaging ∧ c.rail.state ≠ .settling := by
  unfold grantOpen at h
  refine ⟨?_, ?_, ?_⟩ <;> intro e <;> simp [e] at h

theorem tryGrant_keeps : Keeps skip c c.tryGrant := by
  unfold tryGrant
  split
  · next g rest hf =>
    split
    · next hopen =>
      refine .trans ?_ (report_keeps _ _)
      refine .of_trim (c.trim_frame _) id id (fun h => ?_) fun _ _ => grantOpen_rail (c := c) hopen
      have hg := h.groups
      have hn := h.once
      rw [hf] at hg hn
      refine ⟨fun x hx => hg x (List.mem_cons_of_mem _ hx), hn.of_cons, ?_, ?_⟩
      · rintro cal hc
        obtain rfl := Option.some.inj hc
        exact hg g List.mem_cons_self
      · rintro cal hc
        obtain rfl := Option.some.inj hc
        exact c.examsOf_keys g
    · exact .refl _ _
  · exact .refl _ _

/-- R52: a group of 0..10 that does not wait joins the FIFO. -/
theorem fifoOk_append {t : TrimEngine} {g : Nat} (hg : g < 11) (new : t.fifo.contains g = false) (h : t.FifoOk) :
    (∀ x ∈ t.fifo ++ [g], x < 11) ∧ (t.fifo ++ [g]).Nodup := by
  refine ⟨fun x hx => ?_, ?_⟩
  · rcases List.mem_append.1 hx with hx | hx
    · exact h.groups x hx
    · rwa [List.mem_singleton.1 hx]
  · refine List.nodup_append.2 ⟨h.once, by simp, fun x hx y hy => ?_⟩
    rintro rfl
    rw [← List.mem_singleton.1 hy, List.contains_iff_mem.2 hx] at new
    cases new

theorem joinFifo_keeps {g : Nat} (hg : g < 11) : Keeps skip c (c.joinFifo g) := by
  unfold joinFifo
  split
  · exact .refl _ _
  · next new =>
    refine .trans ?_ (tryGrant_keeps _)
    refine c.trim_keeps id id (fun h => ?_) id
    obtain ⟨groups, once⟩ := fifoOk_append hg (by simpa using new) h
    exact ⟨groups, once, h.calibrated, h.examined⟩

/-- A change of the calibration in progress that leaves its group and keeps its examined keys in order. -/
theorem cal_keeps {cal cal' : Calibration} (hc : c.trim.cal = some cal) (group : cal'.group = cal.group)
    (exams : (cal'.exams.map Exam.key).Sublist (cal.exams.map Exam.key)) :
    Keeps skip c { c with trim := { c.trim with cal := some cal' } } := by
  refine c.trim_keeps id id (fun h => ⟨h.groups, h.once, ?_, ?_⟩) fun _ => by simp [hc]
  · rintro x hx
    obtain rfl := Option.some.inj hx
    exact group ▸ h.calibrated cal hc
  · rintro x hx
    obtain rfl := Option.some.inj hx
    exact group ▸ exams.trans (h.examined cal hc)

theorem joinOrMark_keeps {g : Nat} (hg : g < 11) : Keeps skip c (c.joinOrMark g) := by
  unfold joinOrMark
  split
  · next cal hc => exact .ite (c.cal_keeps hc rfl (List.Sublist.refl _)) (c.joinFifo_keeps hg)
  · exact c.joinFifo_keeps hg

theorem dropExam_keeps (k : Nat) : Keeps skip c (c.dropExam k) := by
  unfold dropExam
  split
  · next cal hc => exact c.cal_keeps hc rfl (List.filter_sublist.map _)
  · exact .refl _ _

/-- R54: a reading leaves the key of its examination. -/
theorem examReading_key (cal : Calibration) (k raw : Nat) (e : Exam) : (c.examReading cal k raw e).key = e.key := by
  unfold examReading
  split <;> rfl

theorem calReading_keeps (k raw : Nat) : Keeps skip c (c.calReading k raw) := by
  unfold calReading
  split
  · next cal hc =>
    refine c.cal_keeps hc rfl ?_
    rw [List.map_map]
    exact (List.map_congr_left fun e _ => c.examReading_key cal k raw e) ▸ List.Sublist.refl _
  · exact .refl _ _

theorem judgeTrim_keeps (g k : Nat) (r : Readings) : Keeps skip c (c.judgeTrim g k r) := by
  unfold judgeTrim
  extract_lets u rec0 c1 c2
  refine .ite (c.setUnit_keeps _ _) ?_
  have judged : Keeps skip c1 c2 := c1.setKey_keeps k fun h => by
    obtain ⟨low, high, -⟩ : rec0.DebtOk := h
    refine .of_fresh ?_ ?_ rfl
    · show -8 ≤ if rec0.debt ≤ -8 then rec0.debt else rec0.debt - 1
      split <;> omega
    · show (if rec0.debt ≤ -8 then rec0.debt else rec0.debt - 1) ≤ 8
      split <;> omega
  exact ((c.setUnit_keeps g _).trans judged).trans (.ite (report_keeps _ _) (.refl _ _))

theorem trimReading_keeps (k raw : Nat) : Keeps skip c (c.trimReading k raw) := by
  unfold trimReading
  extract_lets g
  split
  · exact .ite (.ite (.ite (c.judgeTrim_keeps _ _ _) (c.setUnit_keeps _ _)) (c.setUnit_keeps _ _)) (.refl _ _)
  · exact .refl _ _
  · exact .refl _ _

theorem countKey_keeps (k : Nat) : Keeps skip c (c.countKey k) := by
  unfold countKey
  extract_lets r
  split
  · split
    · next hlt =>
      refine c.setKey_keeps k fun h => ?_
      obtain ⟨low, high, stale⟩ : r.DebtOk := h
      exact ⟨by show -8 ≤ r.debt + 1; omega, by show r.debt + 1 ≤ 8; omega, fun e => by have := stale e; omega⟩
    · split
      · exact .refl _ _
      · refine .trans (c.setKey_keeps k fun h => ?_) (report_keeps _ _)
        obtain ⟨low, high, stale⟩ : r.DebtOk := h
        exact ⟨low, high, fun _ => by show r.debt = 8; omega⟩
  · exact .refl _ _

/-- A fold of changes that each keep the limits keeps them. -/
theorem foldl_keeps {α : Type} {f : Controller → α → Controller} (h : ∀ c x, Keeps skip c (f c x)) (xs : List α) :
    Keeps skip c (xs.foldl f c) := by
  induction xs generalizing c with
  | nil => exact .refl _ _
  | cons x xs ih => exact (h c x).trans (ih _)

theorem roundExpiry_keeps {g : Nat} (hg : g < 11) : Keeps skip c (c.roundExpiry g) := by
  unfold roundExpiry
  split
  · exact .refl _ _
  · extract_lets _ c1 c2 _ c3 c4
    have timed : Keeps skip c c1 := c.trim_keeps (fun h => by simpa using h) id
      (fun h => ⟨h.groups, h.once, h.calibrated, h.examined⟩) id
    have served : Keeps skip c3 c4 := .ite (c3.joinFifo_keeps hg) (.refl _ _)
    exact .ite ((((timed.trans (foldl_keeps _ (fun c k => c.countKey_keeps k) _)).trans (setUnit_keeps _ _ _)).trans served).trans
      (trimSync_keeps _)) (.refl _ _)

theorem joinGroups_keeps {gs : List Nat} (h : ∀ g ∈ gs, g < 11) : Keeps skip c (joinGroups gs c).1 := by
  induction gs generalizing c with
  | nil => exact .refl _ _
  | cons g gs ih =>
    have tail : ∀ x ∈ gs, x < 11 := fun x hx => h x (List.mem_cons_of_mem _ hx)
    unfold joinGroups
    split
    · exact ih c tail
    · exact (c.joinFifo_keeps (h g List.mem_cons_self)).trans (ih _ tail)

/-! ### The Rail Drive (R82, R83, R101) -/

/-- A change of the rail to a state in which a calibration may be in progress. -/
theorem setRail_keeps {r : Rail} (coupled : c.rail.Coupled → r.Coupled)
    (still : c.rail.Coupled → r.state ≠ .engaging ∧ r.state ≠ .disengaging ∧ r.state ≠ .settling) :
    Keeps skip c (c.setRail r) :=
  .of_rail (c.setRail_frame r) coupled fun h _ _ => still h

/-- A change of the rail while no calibration is in progress. -/
theorem setRail_keeps_of_no_cal {r : Rail} (coupled : c.rail.Coupled → r.Coupled) (no : c.trim.cal.isSome = false) :
    Keeps skip c (c.setRail r) :=
  .of_rail (c.setRail_frame r) coupled fun _ _ h => by
    have : c.trim.cal.isSome = true := h
    simp [no] at this

/-- A change of the rail that leaves its state, its motor and its origin. -/
theorem setRail_keeps_of_same {r : Rail} (state : r.state = c.rail.state)
    (motor : r.motor = c.rail.motor) (origin : r.origin = c.rail.origin) : Keeps skip c (c.setRail r) :=
  .of_rail (c.setRail_frame r) (fun h => ⟨(motor.trans h.motor).trans (congrArg _ state.symm), fun o e =>
    h.origin o (origin ▸ e)⟩) fun _ h e => by
      show r.state ≠ _ ∧ r.state ≠ _ ∧ r.state ≠ _
      rw [state]
      exact h e

/-- R93: a settling rail has its motor off and no origin. -/
theorem settling_coupled (r : Rail) (now : Time) : (r.settling now).Coupled := ⟨rfl, fun _ h => by cases h⟩

/-- R88: the motor of a moving rail runs toward its stop. -/
theorem moving_coupled (r : Rail) (t : Stop) (now : Time) : (r.moving t now).Coupled :=
  ⟨by cases t <;> rfl, fun _ h => by cases h⟩

theorem railTest_keeps : Keeps skip c c.railTest := by
  unfold railTest
  split
  · next t ht =>
    split
    · next h =>
      extract_lets r
      have no : c.trim.cal.isSome = false := by
        have := h.2
        simp only [motionOpen, Bool.and_eq_true] at this
        simpa using this.1.2
      have coupled : r.Coupled := by
        unfold r
        split
        · exact settling_coupled _ _
        · exact moving_coupled _ _ _
      exact ((c.setRail_keeps_of_no_cal (fun _ => coupled) no).trans (railReport_keeps _ _)).trans (trimSync_keeps _)
    · exact .refl _ _
  · exact .refl _ _

theorem railWait_keeps (t : Stop) {o : RailOrigin} (r : Bool)
    (ho : o.state = .clear ∨ o.state = .engaged ∨ o.state = .unplaced ∨ o.state = .fault) :
    Keeps skip c (c.railWait t o r) := by
  refine .trans (.trans (c.setRail_keeps (fun _ => ⟨rfl, ?_⟩) fun _ => ?_) (railReport_keeps _ _)) (railTest_keeps _)
  · rintro x hx
    obtain rfl := Option.some.inj hx
    exact ho
  · simp [Rail.waiting]

theorem railFault_keeps (x : RailCause) (l : LastStop) : Keeps skip c (c.railFault x l) := by
  refine .trans (.trans (.trans (c.setRail_keeps (fun _ => ⟨rfl, ?_⟩) fun _ => ?_) (railReport_keeps _ _))
    (tryGrant_keeps _)) (trimSync_keeps _)
  · rintro o ho
    cases ho
  · simp

/-- R86, R89: the rail returns to the origin of its wait. -/
theorem setRail_origin_keeps {o : RailOrigin} (ho : c.rail.origin = some o) :
    Keeps skip c (c.setRail { c.rail.still with state := o.state, cause := o.cause }) := by
  have motor : c.rail.Coupled → o.state.motor = .off ∧
      (o.state ≠ .engaging ∧ o.state ≠ .disengaging ∧ o.state ≠ .settling) := fun h => by
    rcases h.origin o ho with e | e | e | e <;> simp [e, RailState.motor]
  refine c.setRail_keeps (fun h => ⟨(motor h).1.symm, ?_⟩) fun h => (motor h).2
  rintro x hx
  cases hx

theorem switchCloses_keeps (sw : Stop) : Keeps skip c (c.switchCloses sw) := by
  unfold switchCloses
  refine .ite (c.railFault_keeps _ _) ?_
  split
  · next hb =>
    refine .trans (.trans (.of_rail (c.setRail_frame _) (fun _ => settling_coupled _ _) fun _ ex e => ?_)
      (railReport_keeps _ _)) (trimSync_keeps _)
    obtain ⟨h1, h2, -⟩ := ex e
    unfold Rail.bound at hb
    split at hb <;> simp_all
  · exact .refl _ _

theorem switchOpens_keeps (sw : Stop) : Keeps skip c (c.switchOpens sw) :=
  .ite (c.railFault_keeps _ _) (.refl _ _)

theorem switchChange_keeps (sw : Stop) : Keeps skip c (c.switchChange sw) := by
  unfold switchChange
  extract_lets s c1
  have changed : Keeps skip c c1 := by cases sw <;> exact c.setRail_keeps_of_same (by rfl) (by rfl) (by rfl)
  exact .ite (changed.trans (.ite (c1.switchOpens_keeps sw) (c1.switchCloses_keeps sw))) (.refl _ _)

theorem overLimitChange_keeps (set : Bool) : Keeps skip c (c.overLimitChange set) :=
  .ite (.refl _ _) (c.setRail_keeps_of_same (by rfl) (by rfl) (by rfl))

theorem railAbandoned_keeps : Keeps skip c c.railAbandoned := by
  unfold railAbandoned
  split
  · next o _ ho => exact .ite ((c.setRail_origin_keeps ho).trans (report_keeps _ _)) (.refl _ _)
  · exact .refl _ _

theorem travelTimeout_keeps : Keeps skip c c.travelTimeout := .ite (c.railFault_keeps _ _) (.refl _ _)

theorem stall_keeps : Keeps skip c c.stall := .ite (c.railFault_keeps _ _) (.refl _ _)

theorem railPlaced_keeps (t : Stop) : Keeps skip c (c.railPlaced t) := by
  unfold railPlaced
  extract_lets next _ r c1 c2
  clear_value next
  have placed : Keeps skip c c1 := by
    have coupled : r.Coupled := ⟨by cases t <;> rfl, fun _ h => by cases h⟩
    have still : r.state ≠ .engaging ∧ r.state ≠ .disengaging ∧ r.state ≠ .settling := by
      cases t <;> simp [r, Stop.railState]
    exact ((c.setRail_keeps (fun _ => coupled) fun _ => still).trans (railReport_keeps _ _)).trans (tryGrant_keeps _)
  have waited : Keeps skip c1 c2 := by
    unfold c2
    split
    · exact c1.railWait_keeps _ _ (by cases t <;> simp [Stop.railState])
    · exact .refl _ _
  exact (placed.trans waited).trans (trimSync_keeps _)

theorem settleExpiry_keeps : Keeps skip c c.settleExpiry := by
  unfold settleExpiry
  split
  · exact .ite (.ite (c.railFault_keeps _ _) (c.railPlaced_keeps _)) (.refl _ _)
  · exact .refl _ _

theorem railCancel_keeps : Keeps skip c c.railCancel := by
  unfold railCancel
  split
  · next o ho => exact (c.setRail_origin_keeps ho).trans (report_keeps _ _)
  · exact .refl _ _

theorem railOutcome_keeps (t : Stop) : Keeps skip c (railOutcome c t).2 := by
  have pend : ∀ p : Option Stop, Keeps skip c (c.setRail { c.rail with pendingTarget := p }) := fun p =>
    c.setRail_keeps_of_same (by rfl) (by rfl) (by rfl)
  unfold railOutcome
  split
  · exact .refl _ _
  · exact .refl _ _
  · split
    · exact .refl _ _
    · exact c.railWait_keeps _ _ (.inl rfl)
  · split
    · exact .refl _ _
    · exact c.railWait_keeps _ _ (.inr (.inl rfl))
  · split <;> [skip; split]
    · exact .refl _ _
    · exact .refl _ _
    · exact c.railCancel_keeps
  all_goals
    split <;> split
    · exact .refl _ _
    · exact (pend _).trans (report_keeps _ _)
    · exact pend _
    · exact .refl _ _

/-! ### The Key Scanner -/

theorem keysMoved_keeps : Keeps skip c c.keysMoved := c.railTest_keeps.trans (trimSync_keeps _)

theorem handDamperUp_keeps (k : Nat) : Keeps skip c (c.handDamperUp k) :=
  (c.reevaluateKeys_keeps _ _).trans (recWrite_keeps _ _ _ _)

theorem handDamperDown_keeps (k : Nat) : Keeps skip c (c.handDamperDown k) :=
  (c.reevaluateKeys_keeps _ _).trans (recWrite_keeps _ _ _ _)

theorem handStrike_keeps (k flight : Nat) (again : Bool) (t : Time) : Keeps [] c (c.handStrike k flight again t) :=
  (((c.liveStrike_keeps _ _).trans (recStrike_keeps _ _ _)).trans (guideStrike_keeps _ _)).trans (reportAt_keeps _ _ _)

/-- A key record that keeps its debt and its stale mark. -/
theorem setKey_keeps_of_same (k : Nat) {r : KeyRec} (debt : r.debt = (c.key k).debt)
    (stale : r.stale = (c.key k).stale) :
    Keeps skip c (c.setKey k r) := c.setKey_keeps k fun h => h.congr debt stale

theorem cross_keeps (k : Nat) (x : Crossing) (p : Option Sample) (s : Sample) : Keeps [] c (c.cross k x p s) := by
  unfold cross
  extract_lets r t
  cases x with
  | restRise => exact c.setKey_keeps_of_same k (by rfl) (by rfl)
  | restFall => exact c.setKey_keeps_of_same k (by rfl) (by rfl)
  | dampRise => exact (c.setKey_keeps_of_same k (by rfl) (by rfl)).trans (handDamperUp_keeps _ _)
  | dampFall => exact ((c.setKey_keeps_of_same k (by rfl) (by rfl)).trans (handDamperDown_keeps _ _)).trans (reportAt_keeps _ _ _)
  | liftRise => exact c.setKey_keeps_of_same k (by rfl) (by rfl)
  | retreat => exact c.setKey_keeps_of_same k (by rfl) (by rfl)
  | strike => exact (c.setKey_keeps_of_same k (by rfl) (by rfl)).trans (handStrike_keeps _ _ _ _ _)
  | liftFall => exact c.setKey_keeps_of_same k (by rfl) (by rfl)

theorem compare_keeps (k : Nat) (p : Option Sample) (s : Sample) (n : Nat) : Keeps [] c (Controller.compare k p s n c) := by
  induction n generalizing c with
  | zero => exact .refl _ _
  | succ n ih =>
    unfold Controller.compare
    split
    · exact (c.cross_keeps _ _ _ _).trans (ih _)
    · exact .refl _ _

theorem clearSpent_keeps (k d : Nat) : Keeps skip c (c.clearSpent k d) := .ite (c.setKey_keeps_of_same k (by rfl) (by rfl)) (.refl _ _)

theorem withdraw_keeps (k : Nat) (into : KeyState) : Keeps skip c (c.withdraw k into) :=
  (c.setKey_keeps_of_same k (by rfl) (by rfl)).trans (.ite (handDamperDown_keeps _ _) (.refl _ _))

theorem enterCondition_keeps (k : Nat) (into : KeyState) : Keeps skip c (c.enterCondition k into) :=
  .ite (c.withdraw_keeps _ _) (c.setKey_keeps_of_same k (by rfl) (by rfl))

end Controller

/-- R17: a re-evaluation leaves the debt of a key as it was. -/
theorem KeyRec.reevaluated_debtOk {r : KeyRec} (t : Thresholds) (h : r.DebtOk) : (r.reevaluated t).DebtOk := by
  unfold KeyRec.reevaluated
  extract_lets r1
  split <;> [skip; split] <;> exact h.congr (by rfl) (by rfl)

/-- R18, R19: a sample's timers leave the debt of a key as it was. -/
theorem KeyRec.watch_debtOk {r : KeyRec} (now : Time) (raw : Nat) (h : r.DebtOk) : (r.watch now raw).DebtOk := by
  unfold KeyRec.watch
  split <;> exact h.congr (by rfl) (by rfl)

namespace Controller

variable (c : Controller) {skip : List Limit}

theorem reevaluateKey_keeps (k : Nat) : Keeps skip c (c.reevaluateKey k) :=
  c.modKey_keeps k fun _ h => KeyRec.reevaluated_debtOk _ h

theorem keySample_keeps (k raw : Nat) : Keeps [] c (c.keySample k raw) := by
  unfold Controller.keySample
  extract_lets r current previous _ c1 c2
  have sampled : Keeps [] c c1 := c.setKey_keeps k fun h => (KeyRec.watch_debtOk c.now raw h).congr (by rfl) (by rfl)
  have compared : Keeps [] c1 c2 := (c1.clearSpent_keeps k current.depth).trans (compare_keeps _ _ _ _ _)
  exact .ite ((((sampled.trans compared).trans (trimReading_keeps _ _ _)).trans (calReading_keeps _ _ _)).trans
    (keysMoved_keeps _)) (.refl _ _)

theorem silentPress_keeps (k : Nat) : Keeps skip c (c.silentPress k) := by
  unfold Controller.silentPress
  extract_lets r
  split
  · exact .ite ((c.setKey_keeps_of_same k (by rfl) (by rfl)).trans (reportAt_keeps _ _ _)) (.refl _ _)
  · exact .refl _ _

theorem keyFault_keeps (k : Nat) : Keeps skip c (c.keyFault k) := by
  unfold Controller.keyFault
  extract_lets r c1 c2
  have cleared : Keeps skip c c2 :=
    (c.enterCondition_keeps k .fault).trans (modKey_keeps _ k fun _ h => h.congr (by rfl) (by rfl))
  exact .ite (((cleared.trans (dropExam_keeps _ _)).trans (report_keeps _ _)).trans (keysMoved_keeps _)) (.refl _ _)

/-- R3: the group of a key is one of the eleven. -/
theorem groupOf_lt {k : Nat} (h : k ≤ 88) : groupOf k < 11 := by
  unfold groupOf
  omega

theorem keyClear_keeps {k : Nat} (h : k ≤ 88) : Keeps skip c (c.keyClear k) := by
  unfold Controller.keyClear
  extract_lets r c1
  have cleared : Keeps skip c c1 := c.setKey_keeps_of_same k (by rfl) (by rfl)
  exact .ite (((cleared.trans (report_keeps _ _)).trans (joinOrMark_keeps _ (groupOf_lt h))).trans (trimSync_keeps _))
    (.refl _ _)

theorem wakeCheck_keeps (k raw : Nat) : Keeps skip c (c.wakeCheck k raw) := by
  unfold Controller.wakeCheck
  extract_lets r current wakes r1
  exact .ite (.ite (((c.setKey_keeps_of_same k (by rfl) (by rfl)).trans (report_keeps _ _)).trans (wakeBegin_keeps _ _))
    (c.setKey_keeps_of_same k (by rfl) (by rfl))) (.refl _ _)

theorem loseCalibration_keeps {k : Nat} (h : k ≤ 88) : Keeps skip c (c.loseCalibration k) :=
  .ite (.refl _ _) (.ite ((c.modKey_keeps k fun _ h => h.congr (by rfl) (by rfl)).trans (joinOrMark_keeps _ (groupOf_lt h)))
    (((c.enterCondition_keeps k .uncal).trans (railTest_keeps _)).trans (joinOrMark_keeps _ (groupOf_lt h))))

/-! ### The completion of a FULL calibration -/

theorem acceptKey_keeps (k mean : Nat) : Keeps skip c (c.acceptKey k mean) := by
  unfold acceptKey
  extract_lets r c1 c2
  have written : Keeps skip c c1 := c.setKey_keeps k fun _ => .of_fresh (by simp) (by simp) rfl
  have told : Keeps skip c1 c2 := .ite (c1.report_keeps _) (.refl _ _)
  exact (written.trans told).trans (.ite (reevaluateKey_keeps _ _) (.refl _ _))

theorem judgeExams_keeps (es : List Exam) : Keeps skip c (judgeExams es c).1 := by
  induction es generalizing c with
  | nil => exact .refl _ _
  | cons e es ih =>
    unfold judgeExams
    split
    · exact (c.acceptKey_keeps _ _).trans (ih _)
    · exact ih c

theorem applyLoss_keeps (k : Nat) : Keeps skip c (c.applyLoss k) := by
  unfold applyLoss
  extract_lets r c1
  have cleared : Keeps skip c c1 := c.setKey_keeps_of_same k (by rfl) (by rfl)
  exact .ite (cleared.trans (.ite (.refl _ _) (enterCondition_keeps _ _ _))) (.refl _ _)

end Controller
end Sys2Proof.Machine
end

section
/-! What the requests keep: one lemma per rule that changes more than its reply, and what the resets, the standby and the wake keep. -/

namespace Sys2Proof.Machine

namespace Controller

variable (c : Controller) {skip : List Limit}

/-! ### VOICE_SPLIT (R111, R112) -/

/-- Re-owning voices leaves every voice its source and its key. -/
theorem setOwner_voices {i : Nat} {n : Note} (hv : c.voice i = some n) (p : Source) (j : Nat) :
    ((c.setVoice i (some { n with owner := p })).voice j).map (fun v => (v.source, v.key))
      = (c.voice j).map fun v => (v.source, v.key) := by
  rw [c.setVoice_voice_eq (c.lt_of_voice hv)]
  split
  · next e => simp [e, hv]
  · rfl

/-- R112: a partition that owns a voice has a first-ranked one. -/
theorem exists_ranked_of_used {p : Source} {rank : Note → Rank} (h : 0 < c.used p) :
    ∃ x, firstRanked (c.ranked (fun v => v.owner == p) rank) = some x := by
  rw [used_eq_countP, List.countP_pos_iff] at h
  obtain ⟨v, hv, ho⟩ := h
  obtain ⟨i, hi, rfl⟩ := List.getElem_of_mem hv
  rw [← c.voice_eq_getElem hi] at ho
  obtain ⟨n, hn, ho⟩ := Option.map_eq_some_iff.1 (beq_iff_eq.1 ho)
  have hm := (c.mem_ranked (p := fun v => v.owner == p) (rank := rank) (i := i) (r := rank n)).2 ⟨n, hn, by simp [ho], rfl⟩
  cases e : firstRanked (c.ranked (fun v => v.owner == p) rank) with
  | some x => exact ⟨x, rfl⟩
  | none => simp [firstRanked_eq_none.1 e] at hm

/-- R112: what `n` re-ownings out of a partition that owns `n` voices do: they move `n` of its voices to the other, and leave the reserves and every voice its source and key. -/
theorem reown_spec (p : Source) (n : Nat) (h : n ≤ c.used p) :
    (Controller.reown p n c).used p + n = c.used p ∧
    (Controller.reown p n c).used p.other = c.used p.other + n ∧
    (Controller.reown p n c).pool.liveReserve = c.pool.liveReserve ∧
    ∀ j, ((Controller.reown p n c).voice j).map (fun v => (v.source, v.key)) = (c.voice j).map fun v => (v.source, v.key) := by
  induction n generalizing c with
  | zero => exact ⟨rfl, rfl, rfl, fun _ => rfl⟩
  | succ n ih =>
    unfold Controller.reown
    obtain ⟨x, hx⟩ := c.exists_ranked_of_used (p := p)
      (rank := fun v => { band := 0, attenuation := v.attenuation c.now, age := elapsed c.now v.start }) (by omega)
    obtain ⟨v, hv, ho, -⟩ := (c.mem_ranked (i := x.1) (r := x.2)).1 (firstRanked_mem hx)
    have ho : v.owner = p := by simpa using ho
    rw [hx]
    dsimp only
    rw [hv]
    dsimp only
    have hlt := c.lt_of_voice hv
    have up := c.setVoice_used hlt (some { v with owner := p.other }) p
    have uo := c.setVoice_used hlt (some { v with owner := p.other }) p.other
    have hne : p.other ≠ p := by cases p <;> decide
    simp only [hv, ownerOf, Option.map_some, ho, Option.some.injEq, if_true, hne, hne.symm, if_false] at up uo
    obtain ⟨h1, h2, h3, h4⟩ := ih (c.setVoice x.1 (some { v with owner := p.other })) (by omega)
    exact ⟨by omega, by omega, h3, fun j => (h4 j).trans (c.setOwner_voices hv p.other j)⟩

/-- R115: two controllers whose voices have the same sources and keys. -/
theorem distinct_congr {a b : Controller}
    (same : ∀ j, (b.voice j).map (fun v => (v.source, v.key)) = (a.voice j).map fun v => (v.source, v.key))
    (h : ∀ i j x y, a.voice i = some x → a.voice j = some y → x.source = y.source → x.key = y.key → i = j) :
    ∀ i j x y, b.voice i = some x → b.voice j = some y → x.source = y.source → x.key = y.key → i = j := by
  intro i j x y hx hy hs hk
  have hi := same i
  have hj := same j
  rw [hx] at hi
  rw [hy] at hj
  obtain ⟨x', hx', ex⟩ := Option.map_eq_some_iff.1 hi.symm
  obtain ⟨y', hy', ey⟩ := Option.map_eq_some_iff.1 hj.symm
  simp only [Prod.mk.injEq] at ex ey
  exact h i j x' y' hx' hy' (ex.1.trans (hs.trans ey.1.symm)) (ex.2.trans (hk.trans ey.2.symm))

/-- R112: the reserve falls by what it fell, and the voices beyond it go to the other partition, which gained as much. -/
theorem reown_excess_poolOk {c' : Controller} {fell : Source} (ok : c.PoolOk) (low : 8 ≤ c'.pool.liveReserve)
    (high : c'.pool.liveReserve ≤ 56) (voices : c'.pool.voices = c.pool.voices)
    (gained : c.reserve fell.other ≤ c'.reserve fell.other) : (Controller.reown fell (c'.excess fell) c').PoolOk := by
  have hu : ∀ p, c'.used p = c.used p := fun p => by simp only [used, voices]
  have hv : ∀ j, c'.voice j = c.voice j := fun j => by simp only [voice, voices]
  have rf := ok.room fell
  have ro := ok.room fell.other
  have le := ok.least
  have gr := ok.greatest
  obtain ⟨h1, h2, h3, h4⟩ := c'.reown_spec fell (c'.excess fell) (Nat.sub_le _ _)
  have hres : ∀ p, (Controller.reown fell (c'.excess fell) c').reserve p = c'.reserve p := fun p => by
    cases p <;> simp [reserve, h3]
  have hex : c'.excess fell = c'.used fell - c'.reserve fell := rfl
  have sum : ∀ a : Controller, a.pool.liveReserve ≤ 56 → a.reserve fell + a.reserve fell.other = 64 := fun a h => by
    cases fell <;> simp only [reserve, Source.other] <;> omega
  have sc := sum c gr
  have sc' := sum c' high
  have huf := hu fell
  have huo := hu fell.other
  have roomFell : (Controller.reown fell (c'.excess fell) c').used fell ≤ c'.reserve fell := by omega
  have roomOther : (Controller.reown fell (c'.excess fell) c').used fell.other ≤ c'.reserve fell.other := by omega
  refine ⟨h3 ▸ low, h3 ▸ high, fun p => ?_, ?_⟩
  · rw [hres p]
    rcases (show p = fell ∨ p = fell.other by cases p <;> cases fell <;> simp [Source.other]) with rfl | rfl
    · exact roomFell
    · exact roomOther
  · exact distinct_congr (fun j => (h4 j).trans (by rw [hv j])) ok.distinct

/-- Re-owning keeps the sizes of the pool. -/
theorem reown_sizes (p : Source) (n : Nat) : (Controller.reown p n c).pool.voices.length = c.pool.voices.length ∧
    (Controller.reown p n c).pool.decay = c.pool.decay := by
  induction n generalizing c with
  | zero => exact ⟨rfl, rfl⟩
  | succ n ih =>
    unfold Controller.reown
    split
    · exact ⟨rfl, rfl⟩
    · split
      · exact ⟨rfl, rfl⟩
      · exact ⟨(ih _).1.trans (c.setVoice_voices_length _ _), (ih _).2⟩

theorem voiceSplit_keeps (r pl ll : Nat) : Keeps skip c (voiceSplit r pl ll c).1 := by
  unfold voiceSplit
  extract_lets pl' ll' fell _ c1 e c2 _ c3
  split
  · exact .refl _ _
  · next hr =>
    split
    · exact .refl _ _
    · have sizes := c1.reown_sizes fell e
      have gained : c.reserve fell.other ≤ c1.reserve fell.other := by
        by_cases hlt : r < c.pool.liveReserve
        · simp only [fell, hlt, if_true, Source.other, reserve, c1]
          omega
        · simp only [fell, hlt, if_false, Source.other, reserve, c1]
          omega
      refine .of_pool (((c.pool_frame _).trans (c1.reown_frame fell e)).trans (c2.pool_frame _)) sizes.1
        (fun h => sizes.2.symm ▸ h) fun ok => ?_
      have := c.reown_excess_poolOk (c' := c1) (fell := fell) ok (by show 8 ≤ r; omega) (by show r ≤ 56; omega) rfl gained
      exact ⟨this.least, this.greatest, fun p => by have := this.room p; cases p <;> exact this, this.distinct⟩

/-! ### The other requests -/

theorem tone_keeps (t mode : Nat) : Keeps skip c (toneRequest t mode c).1 := by
  unfold toneRequest
  dsimp only
  have pool : ∀ p : VoicePool, p.voices = c.pool.voices → p.liveReserve = c.pool.liveReserve → p.decay = c.pool.decay →
      Keeps skip c { c with pool := p } := fun p hv hr hd => c.pool_keeps hv hr fun h => hd ▸ h
  split <;> [skip; (split <;> [split; (split <;> [skip; (split <;> [skip; split])])])]
  · exact .refl _ _
  · exact .refl _ _
  · exact pool _ rfl rfl rfl
  · exact .refl _ _
  · refine .trans ?_ (fadeVoices_keeps _ _)
    exact pool _ rfl rfl rfl
  · exact pool _ rfl rfl rfl
  · exact pool _ rfl rfl rfl

theorem layer_keeps (flag : Nat) : Keeps skip c (layerRequest flag c).1 := by
  unfold layerRequest
  extract_lets on
  split
  · exact .refl _ _
  · exact c.pool_keeps rfl rfl id

theorem decayLoad_keeps {es : List Nat} (size : es.length = 88) (limit : Nat) : Keeps skip c (decayLoad es limit c).1 := by
  unfold decayLoad
  split <;> [skip; (split <;> [skip; split])]
  · exact .refl _ _
  · exact .refl _ _
  · exact .refl _ _
  · refine .trans ?_ (reevaluate_keeps _ _)
    exact c.pool_keeps rfl rfl fun _ => size

theorem reports_keeps (mask : Nat) : Keeps skip c (reportsRequest mask c).1 := by
  unfold reportsRequest
  extract_lets m
  split
  · exact .refl _ _
  · exact c.link_keeps rfl rfl rfl rfl fun _ => ⟨rfl, rfl⟩

theorem wake_keeps : Keeps skip c (wakeRequest c).1 := by
  unfold wakeRequest
  split
  · exact c.wakeBegin_keeps _
  · exact .refl _ _
  · exact .refl _ _

theorem thresholds_keeps (r d l s : Nat) : Keeps skip c (thresholdsRequest r d l s c).1 := by
  unfold thresholdsRequest
  extract_lets t
  split <;> [skip; split]
  · exact .refl _ _
  · exact .refl _ _
  · exact .of_free (bs := [.thresholds]) (.of_same fun x => by cases x <;> simp [Block.same]) (by simp)

theorem keyMute_keeps (k flag : Nat) : Keeps skip c (keyMute k flag c).1 := by
  unfold keyMute
  extract_lets on c1 c2 c3
  have written : Keeps skip c c1 := c.modKey_keeps k fun _ h => h.congr (by rfl) (by rfl)
  have withdrawn : Keeps skip c1 c3 :=
    .ite ((c1.dropExam_keeps k).trans (.ite (withdraw_keeps _ _ _) (.refl _ _))) (.ite (reevaluateKey_keeps _ _) (.refl _ _))
  split <;> [skip; split]
  · exact .refl _ _
  · exact .refl _ _
  · exact (written.trans withdrawn).trans (keysMoved_keeps _)

theorem keyParam_keeps (k n b t : Nat) (l : Int) : Keeps skip c (keyParam k n b t l c).1 := by
  unfold keyParam
  extract_lets r moved c1 c2
  split
  · exact .refl _ _
  · next hk =>
    have hk : k ≤ 88 := by
      simp only [keyOk, not_or, Bool.not_eq_false, decide_eq_true_eq] at hk
      exact hk.1.2
    have written : Keeps skip c c1 := c.setKey_keeps_of_same k (by rfl) (by rfl)
    have lost : Keeps skip c1 c2 := .ite (c1.loseCalibration_keeps hk) (.refl _ _)
    split
    · exact .refl _ _
    · exact (written.trans lost).trans (keysMoved_keeps _)

theorem curveLoad_keeps (name : Nat) {es : List Nat} (size : es.length = 25) : Keeps skip c (curveLoad name es c).1 := by
  have framed : ∀ cv, Frame [.curves] c (c.setCurve cv es) := fun cv => .of_same fun x => by
    cases cv <;> cases x <;> simp [Block.same, setCurve]
  unfold curveLoad
  split
  · exact .refl _ _
  · next cv _ =>
    split
    · exact .refl _ _
    · split
      · exact .refl _ _
      · cases cv with
        | acoustic => exact .of_curves (framed .acoustic) (fun _ => size) id
        | silent => exact .of_curves (framed .silent) id fun _ => size

theorem trimSet_keeps (interval pullIn : Nat) : Keeps skip c (trimSet interval pullIn c).1 := by
  unfold trimSet
  extract_lets pull changed _ c1 c2
  have written : Keeps skip c c1 := c.trim_keeps id id (fun h => ⟨h.groups, h.once, h.calibrated, h.examined⟩) id
  have restarted : Keeps skip c1 c2 := .ite (startRounds_keeps _) (.refl _ _)
  split <;> [skip; split]
  · exact .refl _ _
  · exact .refl _ _
  · exact (written.trans restarted).trans (trimSync_keeps _)

theorem calFull_keeps (group : Nat) : Keeps skip c (calFull group c).1 := by
  unfold calFull
  extract_lets r
  split
  · exact .refl _ _
  · next hg =>
    have listed : ∀ g ∈ (if group = allGroups then List.range 11 else [group]), g < 11 := fun g hm => by
      split at hm
      · exact List.mem_range.1 hm
      · next ne =>
        have : ¬ 10 < group := fun h => hg ⟨ne, h⟩
        rw [List.mem_singleton.1 hm]
        omega
    split
    · exact .refl _ _
    · exact (c.joinGroups_keeps listed).trans (trimSync_keeps _)

theorem pedalParam_keeps (p r f cut : Nat) : Keeps skip c (pedalParam p r f cut c).1 := by
  unfold pedalParam
  extract_lets old c1
  split <;> [skip; split]
  · exact .refl _ _
  · exact .refl _ _
  · exact (c.setPedal_keeps _ _).trans (pedals_keeps _ rfl fun h => ⟨h.empty, h.once⟩)

theorem railSet_keeps (t : Nat) : Keeps skip c (railSet t c).1 := by
  unfold railSet
  split
  · exact .refl _ _
  · exact c.railOutcome_keeps _

theorem railRecover_keeps : Keeps skip c (railRecover c).1 := by
  unfold railRecover
  extract_lets done _ r
  split
  · exact .refl _ _
  · next hs =>
    have hs : c.rail.state = .fault ∨ c.rail.state = .unplaced := by tauto
    split
    · next hc =>
      have no : c.trim.cal.isSome = false := by
        simp only [Bool.and_eq_true] at hc
        simpa using hc.2
      exact ((c.setRail_keeps_of_no_cal (fun _ => settling_coupled _ _) no).trans (railReport_keeps _ _)).trans
        (trimSync_keeps _)
    · exact c.railWait_keeps _ _ (by tauto)

theorem phones_keeps (e v l p : Nat) : Keeps skip c (phonesRequest e v l p c).1 := by
  unfold phonesRequest
  dsimp only
  split
  · exact .refl _ _
  · exact (c.modPhones_keeps _).trans (outputDecide_keeps _)

theorem takeWindow_keeps (s m f l : Nat) : Keeps skip c (takeWindow s m f l c).1 := by
  unfold takeWindow
  split
  · exact .refl _ _
  · split
    · exact .refl _ _
    · extract_lets user c1 _ c2 _ c3
      clear_value user
      split
      · exact .refl _ _
      · split
        · exact .refl _ _
        · split <;> split
          · exact .refl _ _
          · exact (c.setTake_keeps _ _).trans (takes_keeps _ _)
          · exact .refl _ _
          · exact c.takes_keeps _

theorem takeData_keeps (rs : List RawRecord) : Keeps skip c (takeData rs c).1 := by
  unfold takeData
  split
  · exact .refl _ _
  · split
    · exact .refl _ _
    · extract_lets out c1 _ c2 c3
      have stored : Keeps skip c c2 := (c.setTake_keeps _ _).trans (c1.takes_keeps _)
      split
      · exact stored
      · exact stored.trans (closeWindow_keeps _)

theorem takeRead_keeps : Keeps skip c (takeRead c).1 := by
  unfold takeRead
  split
  · exact .refl _ _
  · split
    · exact .refl _ _
    · exact c.takes_keeps _

theorem takeClear_keeps (s : Nat) : Keeps skip c (takeClear s c).1 := by
  unfold takeClear
  split <;> [skip; (split <;> [skip; split])]
  · exact .refl _ _
  · exact .refl _ _
  · exact .refl _ _
  · exact c.setTake_keeps _ _

theorem recArm_keeps (s m : Nat) : Keeps skip c (recArm s m c).1 := by
  unfold recArm
  split <;> [skip; exact .refl _ _]
  extract_lets j c1 c2 c3
  have armed : Keeps skip c c2 := ((c.setTake_keeps _ _).trans (recorder_keeps _ _)).trans (report_keeps _ _)
  have started : Keeps skip c2 c3 := by
    unfold c3
    split
    · exact .refl _ _
    · exact c2.recStart_keeps _ _
  split <;> [skip; (split <;> [skip; split])]
  · exact .refl _ _
  · exact .refl _ _
  · exact .refl _ _
  · exact armed.trans started

theorem recMark_keeps (n : Nat) : Keeps skip c (recMark n c).1 := by
  unfold recMark
  split <;> [skip; (split <;> [split; skip])]
  · exact .refl _ _
  · exact c.recWrite_keeps _ _ _
  · exact .refl _ _
  · exact .refl _ _

theorem recStopRequest_keeps : Keeps skip c (recStopRequest c).1 := by
  unfold recStopRequest
  split
  · exact .refl _ _
  · exact c.recStop_keeps _ _ _

/-! ### The Player's requests -/

theorem playStart_keeps (s p : Nat) : Keeps [] c (playStart s p c).1 := by
  unfold playStart
  split
  · exact .refl _ _
  · extract_lets x c1 c2 c3
    have told : Keeps [] c1 c2 := by
      unfold c2
      split
      · exact c1.reportState_keeps _ _
      · exact .refl _ _
    have started : Keeps [] c c3 :=
      (((c.moveTo_keeps x p).trans told).trans (reevaluateSource_keeps _ _)).trans (takeReached_keeps _)
    split <;> [skip; (split <;> [skip; (split <;> [skip; split])])]
    · exact .refl _ _
    · exact .refl _ _
    · exact .refl _ _
    · exact .refl _ _
    · exact started

theorem playStop_keeps : Keeps [] c (playStop c).1 := by
  unfold playStop
  extract_lets c1
  split
  · exact c.bringUp_keeps
  · exact ((c.bringUp_keeps.trans (stopPlayer_keeps _)).trans (reportState_keeps _ _ _)).trans (syncStop_keeps _ _)

theorem playPause_keeps : Keeps [] c (playPause c).1 := by
  unfold playPause
  extract_lets c1
  have up : Keeps [] c c1 := c.bringUp_keeps
  have paused : ∀ {d : PlayerDetail} (x : Session), Keeps [] c1 (c1.setSession (some x)) →
      Keeps [] c (((c1.setSession (some x)).reportState x d).reevaluateSource .playback) := fun x h =>
    ((up.trans h).trans (reportState_keeps _ _ _)).trans (reevaluateSource_keeps _ _)
  split
  · exact up
  · next s hs =>
    split
    · exact up
    · next ph =>
      exact paused _ (c1.setSession_keeps_of_nothing_expected hs (nothing_expected hs (by simp [ph]) (by simp [ph])))
    · next ph => exact paused _ (c1.setSession_keeps_of_wait hs (.inr (by simp [ph])))

theorem playResume_keeps : Keeps [] c (playResume c).1 := by
  unfold playResume
  split
  · exact .refl _ _
  · next s hs =>
    split
    · exact c.bringUp_keeps.trans (takeReached_keeps _)
    · exact c.bringUp_keeps.trans (takeReached_keeps _)
    · refine .trans (.trans ?_ (reportState_keeps _ _ _)) (reevaluateSource_keeps _ _)
      exact c.setSession_keeps_of_wait hs (.inl rfl)
    · next ph =>
      refine .trans (.trans (.trans ?_ (reportState_keeps _ _ _)) (reevaluateSource_keeps _ _)) (takeReached_keeps _)
      exact c.setSession_keeps_of_nothing_expected hs (nothing_expected hs (by simp [ph]) (by simp [ph]))

theorem playSeek_keeps (p : Nat) : Keeps [] c (playSeek p c).1 := by
  unfold playSeek
  extract_lets c1
  have up : Keeps [] c c1 := c.bringUp_keeps
  split <;> [skip; (split <;> [skip; split])]
  · exact up
  · exact up.trans (takeReached_keeps _)
  · exact up.trans (takeReached_keeps _)
  · exact up.trans (seek_keeps _ _ _)

theorem playLoop_keeps (ls le n : Nat) : Keeps [] c (playLoop ls le n c).1 := by
  unfold playLoop
  extract_lets done c1
  have up : Keeps [] c c1 := c.bringUp_keeps
  have taken : ∀ (code : ResultCode) {a : Controller}, Keeps [] c a → Keeps [] c (done code a).1 := fun _ _ h =>
    h.trans (takeReached_keeps _)
  split
  · exact taken _ up
  · next s hs =>
    have looped : ∀ l : Option Loop, Keeps [] c (c1.setSession (some { s with loop := l })) := fun l =>
      up.trans (c1.setSession_keeps hs rfl)
    split <;> [skip; (split <;> [split; (split <;> [skip; split])])]
    · exact taken _ up
    · exact taken _ up
    · exact taken _ (looped _)
    · exact taken _ up
    · exact taken _ up
    · exact taken _ (looped _)

theorem playTempo_keeps (t : Nat) : Keeps [] c (playTempo t c).1 := by
  unfold playTempo
  extract_lets tempo c1
  have up : Keeps [] c c1 := c.bringUp_keeps
  split
  · exact up.trans (takeReached_keeps _)
  · refine up.trans (.trans ?_ (takeReached_keeps _))
    exact c1.player_keeps fun h => ⟨h.empty, h.once, h.ascending, h.stopped, h.expecting⟩

theorem playHands_keeps (split' mask guide window : Nat) : Keeps [] c (playHands split' mask guide window c).1 := by
  unfold playHands
  extract_lets done c1
  have up : Keeps [] c c1 := c.bringUp_keeps
  have taken : Keeps [] c c1.takeReached := up.trans (takeReached_keeps _)
  split
  · exact taken
  · split
    · exact taken
    · dsimp only
      split
      · exact taken
      · refine .trans (.trans ?_ (dropHands_keeps _)) (.ite (takeReached_keeps _) (handsEndWait_keeps _))
        exact up.trans (c1.player_keeps fun h => ⟨h.empty, h.once, h.ascending, h.stopped, h.expecting⟩)

theorem playRead_keeps : Keeps [] c (playRead c).1 := c.bringUp_keeps.trans (takeReached_keeps _)

/-! ### Standby and wake -/

theorem standbyEnter_keeps : Keeps skip c c.standbyEnter := by
  unfold standbyEnter
  have asleepDebt : ∀ r : KeyRec, r.DebtOk → r.asleep.DebtOk := fun r h => by
    unfold KeyRec.asleep
    extract_lets r1
    split <;> exact h.congr (by rfl) (by rfl)
  refine .trans (.trans (.trans ?_ (fadeVoices_keeps _ _)) (modPhones_keeps _ _)) (outputDecide_keeps _)
  refine .trans (b := { c with link := { c.link with state := .standby } }) (c.link_keeps rfl rfl rfl rfl fun _ => ⟨rfl, rfl⟩) ?_
  refine .trans (b := { c with
    link := { c.link with state := .standby }
    clock := { c.clock with suspended := true } })
    (.of_free (bs := [.clock]) (.of_same fun x => by cases x <;> simp [Block.same]) (by simp)) ?_
  refine .trans (mapKeys_keeps _ asleepDebt) ?_
  refine .trans (pedals_keeps _ (u := c.pedals.asleep) (by simp [PedalUnit.asleep])
    fun _ => ⟨fun _ => rfl, List.nodup_nil⟩) ?_
  exact trim_keeps _ (fun h => by simpa [TrimEngine.asleep] using h) (fun h => by simpa [TrimEngine.asleep] using h)
    (fun h => ⟨h.groups, h.once, h.calibrated, h.examined⟩) id

theorem standby_keeps : Keeps skip c (standbyRequest c).1 := by
  unfold standbyRequest
  split
  · exact .refl _ _
  · exact c.standbyEnter_keeps

theorem wakeFinish_keeps (src : WakeSource) : Keeps skip c (c.wakeFinish src) := by
  unfold wakeFinish
  have awakeDebt : ∀ r : KeyRec, r.DebtOk → (r.awake c.thresholds).DebtOk := fun r h => by
    unfold KeyRec.awake
    extract_lets r1
    split
    · exact KeyRec.reevaluated_debtOk _ (h.congr (by rfl) (by rfl))
    · exact h.congr (by rfl) (by rfl)
  refine .trans (.trans (.trans (.trans (.trans (.trans (.trans ?_ (startRounds_keeps _)) (tryGrant_keeps _))
    (modPhones_keeps _ _)) (outputDecide_keeps _)) (railTest_keeps _)) (trimSync_keeps _)) (report_keeps _ _)
  refine .trans (b := { c with link := { c.link with state := .active, wakeSource := none, wakeTimer := none } })
    (c.link_keeps rfl rfl rfl rfl fun _ => ⟨rfl, rfl⟩) ?_
  refine .trans (b := { c with
    link := { c.link with state := .active, wakeSource := none, wakeTimer := none }
    clock := { c.clock with suspended := false } })
    (.of_free (bs := [.clock]) (.of_same fun x => by cases x <;> simp [Block.same]) (by simp)) ?_
  exact mapKeys_keeps _ awakeDebt

theorem wakeComplete_keeps : Keeps skip c c.wakeComplete := by
  unfold wakeComplete
  split
  · exact .ite (c.wakeFinish_keeps _) (.refl _ _)
  · exact .refl _ _

/-! ### The completion of a FULL calibration -/

theorem acceptKey_frame (k mean : Nat) : Frame [.keys, .link] c (c.acceptKey k mean) := by
  unfold acceptKey
  extract_lets r c1 c2
  have written : Frame [.keys, .link] c c1 := (c.setKey_frame _ _).widen (by simp)
  have told : Frame [.keys, .link] c1 c2 := by
    unfold c2
    split
    · exact (c1.report_frame _).widen (by simp)
    · exact .refl _ _
  split
  · exact (written.trans told).trans ((reevaluateKey_frame _ _).widen (by simp))
  · exact written.trans told

theorem judgeExams_frame (es : List Exam) : Frame [.keys, .link] c (judgeExams es c).1 := by
  induction es generalizing c with
  | nil => exact .refl _ _
  | cons e es ih =>
    unfold judgeExams
    split
    · exact (c.acceptKey_frame _ _).trans (ih _)
    · exact ih c

theorem applyLoss_frame (k : Nat) : Frame keyParts c (c.applyLoss k) := by
  unfold applyLoss
  extract_lets r c1
  have cleared : Frame keyParts c c1 := (c.setKey_frame _ _).widen (by simp)
  split <;> [split; skip]
  · exact cleared
  · exact cleared.trans (enterCondition_frame _ _ _)
  · exact .refl _ _

theorem foldl_applyLoss_frame (ks : List Nat) : Frame keyParts c (ks.foldl applyLoss c) := by
  induction ks generalizing c with
  | nil => exact .refl _ _
  | cons k ks ih => exact (c.applyLoss_frame k).trans (ih _)

/-- R55, R56: judging the examined keys and applying the lost calibrations leave the Trim Engine to the steps after them. -/
theorem judged_keeps (es : List Exam) (ks : List Nat) : Keeps skip c (ks.foldl applyLoss (judgeExams es c).1) :=
  (c.judgeExams_keeps es).trans (foldl_keeps _ (fun c k => c.applyLoss_keeps k) ks)

theorem judged_frame (es : List Exam) (ks : List Nat) : Frame keyParts c (ks.foldl applyLoss (judgeExams es c).1) :=
  ((c.judgeExams_frame es).widen (by simp)).trans (foldl_applyLoss_frame _ ks)

theorem calFinish_keeps {cal : Calibration} (hc : c.trim.cal = some cal) : Keeps skip c (c.calFinish cal) := by
  unfold calFinish
  extract_lets judged c1 c2 fifo _ c3
  have lost : Keeps skip c c1 := c.judged_keeps _ _
  have trim : c1.trim = c.trim := (c.judged_frame _ _).trim (by simp)
  clear_value c1
  have joined : c1.trim.FifoOk → (∀ g ∈ fifo, g < 11) ∧ fifo.Nodup := fun h => by
    unfold fifo
    split
    · next new =>
      simp only [Bool.and_eq_true, Bool.not_eq_true'] at new
      exact fifoOk_append (h.calibrated cal (by rw [trim, hc])) new.2 h
    · exact ⟨h.groups, h.once⟩
  have completed : Keeps skip c2 c3 := c2.trim_keeps id id
    (fun h => ⟨(joined h).1, (joined h).2, fun _ e => (by cases e), fun _ e => (by cases e)⟩) fun e => by cases e
  exact (((lost.trans (c1.report_keeps _)).trans completed).trans (tryGrant_keeps _)).trans (keysMoved_keeps _)

theorem calComplete_keeps : Keeps skip c c.calComplete := by
  unfold calComplete
  split
  · next cal hc => exact .ite (c.calFinish_keeps hc) (.refl _ _)
  · exact .refl _ _

end Controller
end Sys2Proof.Machine
end

section
/-! O55 to O59: the requests one by one, as commands and as frames, the other commands, and the step. -/

namespace Sys2Proof.Machine

/-- The rule of a request keeps every limit. -/
def Handler.Keeps (h : Handler) : Prop := ∀ c : Controller, Controller.Keeps [] c (h c).1

/-- A rule that only replies. -/
theorem Handler.Keeps.of_reply {h : Handler} (e : ∀ c, (h c).1 = c) : h.Keeps := fun c => by
  rw [e]
  exact .refl _ _

/-- What the commands of the Link and the resets change: what waits for the line, the line, and the reports. -/
abbrev Limit.passing : List Limit := [.lines none, .queued none]

namespace Controller

variable (c : Controller)

/-- R200: answering a request keeps what its rule keeps. -/
theorem handle_keeps (kind tag : Byte) (shown : Shown) {h : Handler} (hk : h.Keeps) :
    Keeps Limit.passing c (c.handle kind tag shown h) := by
  unfold handle
  extract_lets c1 r
  have closed : Keeps Limit.passing c c1 := .ite (.refl _ _) c.closeWindow_keeps
  exact closed.trans (.ite (pushReply_keeps _ _ _ _) ((hk c1).weaken.trans (pushReply_keeps _ _ _ _)))

theorem refuseLength_keeps (kind tag : Byte) (shown : Shown) : Keeps Limit.passing c (c.refuseLength kind tag shown) := by
  unfold refuseLength
  extract_lets c1
  have closed : Keeps Limit.passing c c1 := .ite (.refl _ _) c.closeWindow_keeps
  exact closed.trans (pushReply_keeps _ _ _ _)

end Controller

/-- A request that reads a block leaves it. -/
theorem keyRead_reply (k : Nat) (c : Controller) : (keyRead k c).1 = c := by
  unfold keyRead
  split <;> rfl

theorem curveRead_reply (n : Nat) (c : Controller) : (curveRead n c).1 = c := by
  unfold curveRead
  split <;> rfl

theorem voiceRead_reply (p : Nat) (c : Controller) : (voiceRead p c).1 = c := by
  unfold voiceRead
  split <;> rfl

theorem takeInfo_reply (s : Nat) (c : Controller) : (takeInfo s c).1 = c := by
  unfold takeInfo
  split <;> rfl

/-- The bodies of a length that carry 88 two-byte entries. -/
theorem wordsOf_length (n : Nat) (b : List Byte) : (wordsOf n b).length = n := by
  induction n generalizing b with
  | zero => rfl
  | succ n ih => simp [wordsOf, ih]

/-- R212: the 25 entries of a CURVE_LOAD. -/
theorem curveBody_length {b : List Byte} (h : lengthOk 0x14 b = some true) : ((b.drop 1).map BitVec.toNat).length = 25 := by
  have : b.length = 26 := by simpa [lengthOk] using h
  simp [this]

/-- R212: the rule of every request of known kind keeps the limits, for a body of the right length. -/
theorem requestOf_keeps {kind : Nat} {b : List Byte} (h : lengthOk kind b = some true) : (requestOf kind b).Keeps := by
  intro c
  unfold requestOf
  split
  · exact .refl _ _
  · exact .refl _ _
  · exact c.reports_keeps _
  · exact .refl _ _
  · exact c.standby_keeps
  · exact c.wake_keeps
  · exact c.thresholds_keeps _ _ _ _
  · exact c.keyMute_keeps _ _
  · exact c.keyParam_keeps _ _ _ _ _
  · exact Handler.Keeps.of_reply (keyRead_reply _) c
  · exact c.curveLoad_keeps _ (curveBody_length h)
  · exact Handler.Keeps.of_reply (curveRead_reply _) c
  · exact c.trimSet_keeps _ _
  · exact c.calFull_keeps _
  · exact c.pedalParam_keeps _ _ _ _
  · exact .refl _ _
  · exact c.railSet_keeps _
  · exact c.railRecover_keeps
  · exact .refl _ _
  · exact c.voiceSplit_keeps _ _ _
  · exact c.tone_keeps _ _
  · exact c.layer_keeps _
  · exact c.decayLoad_keeps (wordsOf_length _ _) _
  · exact Handler.Keeps.of_reply (voiceRead_reply _) c
  · exact c.phones_keeps _ _ _ _
  · exact c.takeWindow_keeps _ _ _ _
  · exact c.takeData_keeps _
  · exact c.takeRead_keeps
  · exact Handler.Keeps.of_reply (takeInfo_reply _) c
  · exact c.takeClear_keeps _
  · exact c.recArm_keeps _ _
  · exact c.recMark_keeps _
  · exact c.recStopRequest_keeps
  · exact c.playStart_keeps _ _
  · exact c.playStop_keeps
  · exact c.playPause_keeps
  · exact c.playResume_keeps
  · exact c.playSeek_keeps _
  · exact c.playLoop_keeps _ _ _
  · exact c.playTempo_keeps _
  · exact c.playHands_keeps _ _ _ _
  · exact c.playRead_keeps
  · exact .refl _ _


/-! ### The other commands -/

namespace Controller

variable (c : Controller)

theorem rxByte_keeps (b : Byte) (broken : Bool) : Keeps Limit.passing c (c.rxByte b broken) := by
  have hunted : c.link.Bounded → c.link.hunt.Bounded := fun h => ⟨h.input, h.busy, h.queue, h.drops⟩
  refine .of_link (c.link_frame _) (fun h => ?_) (by simp) (by simp)
  show Link.Bounded (if broken then c.link.hunt else c.link.takeByte b c.phones.frame)
  split
  · exact hunted h
  · unfold Link.takeByte
    split <;> split
    · exact ⟨h.input, h.busy, h.queue, h.drops⟩
    · exact h
    · exact ⟨h.input, h.busy, h.queue, h.drops⟩
    · exact hunted h
    · unfold Link.frameComplete inputRoom
      split <;> [skip; split]
      · exact ⟨by simp; omega, h.busy, h.queue, h.drops⟩
      · exact ⟨h.input, by simp; omega, h.queue, h.drops⟩
      · exact hunted h
    · exact ⟨h.input, h.busy, h.queue, h.drops⟩

theorem rxTimeout_keeps : Keeps Limit.passing c c.rxTimeout := .ite (c.link_keeps rfl rfl rfl rfl fun _ => ⟨rfl, rfl⟩) (.refl _ _)

theorem lineGrant_keeps : Keeps Limit.passing c c.lineGrant := by
  refine .ite (.of_link (c.link_frame _) (fun h => ?_) (by simp) (by simp)) (.refl _ _)
  show (c.link.grant c.now).Bounded
  unfold Link.grant
  split
  · exact ⟨h.input, h.busy, h.queue, h.drops⟩
  · split
    · next e es hb =>
      have hbusy := h.busy
      rw [hb] at hbusy
      exact ⟨h.input, (Nat.le_succ _).trans hbusy, h.queue, h.drops⟩
    · split
      · next q qs hq =>
        have hqueue := h.queue
        rw [hq, List.length_cons] at hqueue
        unfold Link.placeFreed
        split
        · exact ⟨h.input, h.busy, by simp; omega, Nat.zero_le _⟩
        · exact ⟨h.input, h.busy, Nat.le_of_succ_le hqueue, h.drops⟩
      · exact h

theorem txEnd_keeps : Keeps Limit.passing c c.txEnd := by
  unfold txEnd
  split
  · exact c.link_keeps rfl rfl rfl rfl (by simp)
  · exact .refl _ _

theorem handleFrame_keeps (f : RxFrame) : Keeps Limit.passing c (c.handleFrame f) := by
  refine .ite (c.pushReply_keeps _ _ _) ?_
  split
  · exact c.pushReply_keeps _ _ _
  · exact c.refuseLength_keeps _ _ _
  · next known => exact c.handle_keeps _ _ _ (requestOf_keeps known)

theorem dispatchFrame_keeps : Keeps Limit.passing c c.dispatchFrame := by
  refine .ite ?_ (.refl _ _)
  split
  · next f fs hi =>
    refine .trans (.of_link (c.link_frame _) (fun h => ?_) (by simp) (by simp)) (handleFrame_keeps _ f)
    have hinput := h.input
    rw [hi] at hinput
    exact ⟨(Nat.le_succ _).trans hinput, h.busy, h.queue, h.drops⟩
  · exact .refl _ _

theorem recTimeLimit_keeps : Keeps [] c c.recTimeLimit := by
  unfold recTimeLimit
  split
  · split
    · exact .ite (c.recStop_keeps _ _ _) (.refl _ _)
    · exact .refl _ _
  · exact .refl _ _

theorem outputFrame_keeps (jack clear engaged : Bool) : Keeps [] c (c.outputFrame jack clear engaged) := by
  unfold outputFrame
  extract_lets c1 _ c2
  have switched : Keeps [] c1 c2 := c1.setRail_keeps_of_same (by rfl) (by rfl) (by rfl)
  exact ((c.modPhones_keeps _).trans switched).trans (modPhones_keeps _ _)

/-- R207: the held reset and the silent line. -/
theorem hold_keeps : Keeps Limit.passing c { c with inReset := true, link := { c.link with line := none } } :=
  .trans (b := { c with link := { c.link with line := none } }) (c.link_keeps rfl rfl rfl rfl (by simp))
    (.of_free (bs := [.held]) (.of_same fun x => by cases x <;> simp [Block.same]) (by simp))

theorem tick_keeps : Keeps [] c c.tick :=
  .ite (.refl _ _) (.of_free (bs := [.clock]) (.of_same fun x => by cases x <;> simp [Block.same]) (by simp))

end Controller

/-- R105, R106: a rail placed from its switches stands still. -/
theorem Rail.placed_coupled (clear engaged limit : Bool) : (Rail.placed clear engaged limit).Coupled :=
  ⟨by cases clear <;> cases engaged <;> rfl, fun _ h => by cases h⟩

/-- R105, R106: a rail placed from its switches neither moves nor settles. -/
theorem Rail.placed_still (clear engaged limit : Bool) : (Rail.placed clear engaged limit).state ≠ .engaging ∧
    (Rail.placed clear engaged limit).state ≠ .disengaging ∧ (Rail.placed clear engaged limit).state ≠ .settling := by
  cases clear <;> cases engaged <;> simp [Rail.placed]

/-- R206, R207: the queues of the Link after a reset lie within their room. -/
theorem Link.atReset_bounded (soft : Bool) (t : Time) : (Link.atReset soft t).Bounded :=
  ⟨Nat.zero_le _, Nat.zero_le _, by simp [Link.atReset], Nat.zero_le _⟩

/-- R131: a pool of FREE voices with its reserve in range keeps its limits. -/
theorem Controller.poolOk_of_free {c : Controller} (low : 8 ≤ c.pool.liveReserve) (high : c.pool.liveReserve ≤ 56)
    (free : ∀ v ∈ c.pool.voices, v = none) : c.PoolOk := by
  refine ⟨low, high, fun p => ?_, fun i j a b ha => ?_⟩
  · rw [c.used_of_poolEmpty (by simpa [poolEmpty] using free)]
    exact Nat.zero_le _
  · have hlt := c.lt_of_voice ha
    rw [c.voice_eq_getElem hlt, free _ (List.getElem_mem hlt)] at ha
    cases ha

/-- Every limit holds after a power-on reset. -/
theorem Limit.holds_powerOn (clear engaged : Bool) (x : Limit) (plain : x.base ∉ Limit.passing) :
    x.holds (Controller.powerOn clear engaged) := by
  cases x with
  | lines l | queued q => simp at plain
  | keyTable | pedalTable | voices => exact List.length_replicate
  | acoustic | silent | rounds | units => rfl
  | decay => exact powerOnDecay_length
  | queues => exact Link.atReset_bounded _ _
  | debts => exact fun r hr => List.eq_of_mem_replicate hr ▸ KeyRec.powerOn_debtOk
  | fifo =>
    exact ⟨by simp [Controller.powerOn, TrimEngine.powerOn], by simp [Controller.powerOn, TrimEngine.powerOn],
      fun cal h => by obtain rfl := Option.some.inj h; decide, fun cal h => by obtain rfl := Option.some.inj h; decide⟩
  | coupled => exact Rail.placed_coupled _ _ _
  | exclusive => exact ⟨Rail.placed_coupled _ _ _, fun _ => Rail.placed_still _ _ _⟩
  | sostenuto => exact ⟨fun _ => rfl, List.nodup_nil⟩
  | playSets => exact .of_emptied rfl rfl rfl
  | pool => exact Controller.poolOk_of_free (by simp [Controller.powerOn]) (by simp [Controller.powerOn]) fun v hv => List.eq_of_mem_replicate hv

namespace Controller

variable (c : Controller)

/-- R28, R61: the debt of a key after a soft reset is in order. -/
theorem softResetKey_debtOk (r : KeyRec) (t : Thresholds) : (r.softReset t).DebtOk := by
  have fresh : ∀ x : KeyRec, x.debt = 1 → x.stale = false → x.DebtOk := fun x hd hs =>
    .of_fresh (by omega) (by omega) hs
  unfold KeyRec.softReset
  extract_lets lost r1
  have ok : r1.DebtOk := fresh r1 rfl rfl
  split
  · exact ok
  · exact ok
  all_goals
    split
    · exact ok.congr (by rfl) (by rfl)
    · exact KeyRec.reevaluated_debtOk t ok

theorem softReset_keeps (clear engaged : Bool) : Keeps Limit.passing c (c.softReset clear engaged) := by
  unfold softReset
  extract_lets c1 _ c2
  have closed : Keeps Limit.passing c c1 := .of_free c.closeWindow_recSoftReset_frame (by simp)
  refine ((closed.trans ?_).trans (startRounds_keeps _)).trans (trimSync_keeps _)
  intro x plain h
  cases x with
  | lines l | queued q => simp at plain
  | keyTable => simpa [Limit.holds, c2] using h
  | pedalTable => simpa [Limit.holds, c2, PedalUnit.softReset] using h
  | voices => simpa [Limit.holds, c2] using h
  | acoustic | silent | rounds | decay => exact h
  | units => simpa [Limit.holds, c2, TrimEngine.softReset] using h
  | queues => exact Link.atReset_bounded _ _
  | debts =>
    intro r hr
    obtain ⟨r0, -, rfl⟩ := List.mem_map.1 hr
    exact softResetKey_debtOk _ _
  | fifo =>
    exact ⟨fun g hg => (by cases hg), List.nodup_nil, fun _ e => (by cases e), fun _ e => (by cases e)⟩
  | coupled => exact Rail.placed_coupled _ _ _
  | exclusive => exact ⟨Rail.placed_coupled _ _ _, fun _ => Rail.placed_still _ _ _⟩
  | sostenuto => exact ⟨fun _ => rfl, List.nodup_nil⟩
  | playSets => exact .of_emptied rfl rfl rfl
  | pool =>
    have ok : c1.PoolOk := h
    exact poolOk_of_free ok.least ok.greatest fun v hv => by
      obtain ⟨_, -, rfl⟩ := List.mem_map.1 hv
      rfl

end Controller

/-! ### Commands and steps -/

/-- A command that acts on the controller keeps what its action keeps; held in reset it does nothing. -/
theorem State.run_keeps {s t : State} {f : Controller → Controller} (h : s.run f = .next t)
    (k : ∀ c : Controller, Controller.Keeps Limit.passing c (f c)) : Controller.Keeps Limit.passing s.ctl t.ctl := by
  unfold State.run at h
  split at h
  · cases h
    exact .refl _ _
  · cases h
    exact k s.ctl

theorem State.runKey_keeps {s t : State} {k : Nat} {f : Controller → Controller} (h : s.runKey k f = .next t)
    (hk : k ≤ 88 → ∀ c : Controller, Controller.Keeps Limit.passing c (f c)) : Controller.Keeps Limit.passing s.ctl t.ctl := by
  unfold State.runKey at h
  split at h
  · next hr => exact s.run_keeps h (hk hr.2)
  · cases h

theorem State.runPedal_keeps {s t : State} {p : Nat} {f : Controller → Controller} (h : s.runPedal p f = .next t)
    (k : ∀ c : Controller, Controller.Keeps Limit.passing c (f c)) : Controller.Keeps Limit.passing s.ctl t.ctl := by
  unfold State.runPedal at h
  split at h
  · exact s.run_keeps h k
  · cases h

theorem runReading_next {raw : Nat} {r : Result} {t : State} (h : runReading raw r = .next t) : r = .next t := by
  unfold runReading at h
  split at h
  · exact h
  · cases h

/-- A request given as a command keeps what its rule keeps. -/
theorem State.request_keeps {s t : State} {kind tag : Byte} {shown : Shown} {h : Handler}
    (e : s.run (Controller.handle kind tag shown h) = .next t) (k : h.Keeps) : Controller.Keeps Limit.passing s.ctl t.ctl :=
  s.run_keeps e fun c => c.handle_keeps _ _ _ k

/-- A command that answers a next state keeps every limit. -/
theorem exec_keeps {i : Instr} {s t : State} (h : exec i s = .next t) : Controller.Keeps Limit.passing s.ctl t.ctl := by
  cases i with
  | ident _ => exact s.request_keeps h fun c => .refl _ _
  | status _ => exact s.request_keeps h fun c => .refl _ _
  | reports _ m => exact s.request_keeps h fun c => c.reports_keeps m
  | reset _ => exact s.request_keeps h fun c => .refl _ _
  | standby _ => exact s.request_keeps h fun c => c.standby_keeps
  | wake _ => exact s.request_keeps h fun c => c.wake_keeps
  | thresholds => exact s.request_keeps h fun c => c.thresholds_keeps _ _ _ _
  | keyMute => exact s.request_keeps h fun c => c.keyMute_keeps _ _
  | keyParam => exact s.request_keeps h fun c => c.keyParam_keeps _ _ _ _ _
  | keyRead _ k => exact s.request_keeps h (.of_reply (keyRead_reply k))
  | curveRead _ n => exact s.request_keeps h (.of_reply (curveRead_reply n))
  | trimSet => exact s.request_keeps h fun c => c.trimSet_keeps _ _
  | calFull => exact s.request_keeps h fun c => c.calFull_keeps _
  | pedalParam => exact s.request_keeps h fun c => c.pedalParam_keeps _ _ _ _
  | pedalRead => exact s.request_keeps h fun c => .refl _ _
  | railSet => exact s.request_keeps h fun c => c.railSet_keeps _
  | railRecover => exact s.request_keeps h fun c => c.railRecover_keeps
  | railRead => exact s.request_keeps h fun c => .refl _ _
  | voiceSplit => exact s.request_keeps h fun c => c.voiceSplit_keeps _ _ _
  | tone => exact s.request_keeps h fun c => c.tone_keeps _ _
  | layer => exact s.request_keeps h fun c => c.layer_keeps _
  | voiceRead _ p => exact s.request_keeps h (.of_reply (voiceRead_reply p))
  | phones => exact s.request_keeps h fun c => c.phones_keeps _ _ _ _
  | takeWindow => exact s.request_keeps h fun c => c.takeWindow_keeps _ _ _ _
  | takeRead => exact s.request_keeps h fun c => c.takeRead_keeps
  | takeInfo _ n => exact s.request_keeps h (.of_reply (takeInfo_reply n))
  | takeClear => exact s.request_keeps h fun c => c.takeClear_keeps _
  | recArm => exact s.request_keeps h fun c => c.recArm_keeps _ _
  | recMark => exact s.request_keeps h fun c => c.recMark_keeps _
  | recStop => exact s.request_keeps h fun c => c.recStopRequest_keeps
  | playStart => exact s.request_keeps h fun c => c.playStart_keeps _ _
  | playStop => exact s.request_keeps h fun c => c.playStop_keeps
  | playPause => exact s.request_keeps h fun c => c.playPause_keeps
  | playResume => exact s.request_keeps h fun c => c.playResume_keeps
  | playSeek => exact s.request_keeps h fun c => c.playSeek_keeps _
  | playLoop => exact s.request_keeps h fun c => c.playLoop_keeps _ _ _
  | playTempo => exact s.request_keeps h fun c => c.playTempo_keeps _
  | playHands => exact s.request_keeps h fun c => c.playHands_keeps _ _ _ _
  | playRead => exact s.request_keeps h fun c => c.playRead_keeps
  | rxByte b broken => exact s.run_keeps h fun c => c.rxByte_keeps b broken
  | rxTimeout => exact s.run_keeps h fun c => c.rxTimeout_keeps
  | dispatchFrame => exact s.run_keeps h fun c => c.dispatchFrame_keeps
  | lineGrant => exact s.run_keeps h fun c => c.lineGrant_keeps
  | txEnd => exact s.run_keeps h fun c => c.txEnd_keeps
  | wakeComplete => exact s.run_keeps h fun c => c.wakeComplete_keeps
  | calComplete => exact s.run_keeps h fun c => c.calComplete_keeps
  | sostenutoOn => exact s.run_keeps h fun c => c.sostenutoOn_keeps
  | railAbandoned => exact s.run_keeps h fun c => c.railAbandoned_keeps
  | travelTimeout => exact s.run_keeps h fun c => c.travelTimeout_keeps
  | stall => exact s.run_keeps h fun c => c.stall_keeps
  | settleExpiry => exact s.run_keeps h fun c => c.settleExpiry_keeps
  | jackChange => exact s.run_keeps h fun c => c.jackChange_keeps
  | rampEnd => exact s.run_keeps h fun c => c.rampEnd_keeps
  | recTimeLimit => exact s.run_keeps h fun c => c.recTimeLimit_keeps.weaken
  | dueTimerExpiry => exact s.run_keeps h fun c => c.dueTimerExpiry_keeps.weaken
  | switchChange sw => exact s.run_keeps h fun c => c.switchChange_keeps sw
  | overLimitChange b => exact s.run_keeps h fun c => c.overLimitChange_keeps b
  | glideEnd => exact s.run_keeps h fun c => c.modPhones_keeps _
  | outputFrame a b d => exact s.run_keeps h fun c => (c.outputFrame_keeps a b d).weaken
  | wakeCheck k raw => exact s.runKey_keeps (runReading_next h) fun _ c => c.wakeCheck_keeps k raw
  | keySample k raw => exact s.runKey_keeps (runReading_next h) fun _ c => (c.keySample_keeps k raw).weaken
  | silentPress k => exact s.runKey_keeps h fun _ c => c.silentPress_keeps k
  | keyFault k => exact s.runKey_keeps h fun _ c => c.keyFault_keeps k
  | keyClear k => exact s.runKey_keeps h fun hk c => c.keyClear_keeps hk
  | pedalSample p raw => exact s.runPedal_keeps (runReading_next h) fun c => c.pedalSample_keeps p raw
  | pedalFault p => exact s.runPedal_keeps h fun c => c.pedalFault_keeps p
  | pedalClear p => exact s.runPedal_keeps h fun c => c.pedalClear_keeps p
  | softReset a b =>
    exact s.run_keeps (f := fun c => if c.link.resetDue then c.softReset a b else c) h fun c =>
      .ite (c.softReset_keeps a b) (.refl _ _)
  | resetnLow =>
    exact s.run_keeps (f := fun c => { c with inReset := true, link := { c.link with line := none } }) h fun c =>
      c.hold_keeps
  | powerOnReset a b =>
    cases h
    exact fun x plain _ => x.holds_powerOn a b plain
  | curveLoad tag name es =>
    simp only [exec, execCurveLoad] at h
    split at h
    · next size => exact s.request_keeps h fun c => c.curveLoad_keeps name size
    · exact s.run_keeps h fun c => c.refuseLength_keeps _ _ _
  | decayLoad tag es limit =>
    simp only [exec, execDecayLoad] at h
    split at h
    · next size => exact s.request_keeps h fun c => c.decayLoad_keeps size limit
    · exact s.run_keeps h fun c => c.refuseLength_keeps _ _ _
  | takeData tag rs =>
    simp only [exec, execTakeData] at h
    split at h
    · exact s.request_keeps h fun c => c.takeData_keeps rs
    · exact s.run_keeps h fun c => c.refuseLength_keeps _ _ _
  | roundExpiry g =>
    simp only [exec, execRoundExpiry] at h
    split at h
    · next hg => exact s.run_keeps h fun c => c.roundExpiry_keeps hg
    · cases h
  | voiceEnd i =>
    simp only [exec, execVoiceEnd] at h
    split at h
    · exact s.run_keeps h fun c => c.voiceEnd_keeps i
    · cases h

/-- Every step keeps every limit. -/
theorem step_keeps {s t : State} (h : step s = .next t) : Controller.Keeps Limit.passing s.ctl t.ctl := by
  unfold step at h
  split at h
  · have kept := exec_keeps h
    exact kept
  · cases h
    unfold idle
    split <;> [skip; split]
    · exact .refl _ _
    · exact s.ctl.tick_keeps.weaken
    · exact .refl _ _

/-- What every step keeps of one limit. -/
theorem step_keeps_limit (x : Limit) {s t : State} (h : step s = .next t) (before : x.holds s.ctl)
    (plain : x.base ∉ Limit.passing) : x.holds t.ctl := step_keeps h x plain before

/-- Settles O55: each table and the queues of the Link are limits that a step keeps. -/
theorem sizesAndQueuesKept : Obligations.SizesAndQueuesKept := fun _ _ h =>
  ⟨fun z => ⟨step_keeps_limit .keyTable h z.keys (by decide), step_keeps_limit .acoustic h z.acoustic (by decide), step_keeps_limit .silent h z.silent (by decide),
      step_keeps_limit .rounds h z.rounds (by decide), step_keeps_limit .units h z.units (by decide), step_keeps_limit .pedalTable h z.pedals (by decide),
      step_keeps_limit .voices h z.voices (by decide), step_keeps_limit .decay h z.decay (by decide)⟩,
    fun b => step_keeps_limit .queues h b (by decide)⟩

/-- Settles O56. -/
theorem debtsAndFifoKept : Obligations.DebtsAndFifoKept := fun _ _ h =>
  ⟨fun d => step_keeps_limit .debts h d (by decide), fun f => step_keeps_limit .fifo h f (by decide)⟩

/-- Settles O57: R101 is a limit together with R82 and R83. -/
theorem motionExcludesCalibration : Obligations.MotionExcludesCalibration := fun _ _ h coupled =>
  ⟨step_keeps_limit .coupled h coupled (by decide), fun exclusive => (step_keeps_limit .exclusive h ⟨coupled, exclusive⟩ (by decide)).2⟩

/-- Settles O58: the sets of the Pedal Unit and of the Player are kept apart. -/
theorem keySetsKept : Obligations.KeySetsKept := fun s t h sets =>
  (t.ctl.setsOk_iff).2 ⟨step_keeps_limit .sostenuto h (s.ctl.setsOk_iff.1 sets).1 (by decide),
    step_keeps_limit .playSets h (s.ctl.setsOk_iff.1 sets).2 (by decide)⟩

/-- Settles O59. -/
theorem poolLimitsKept : Obligations.PoolLimitsKept := fun _ _ h ok => step_keeps_limit .pool h ok (by decide)

/-- Settles O60: every limit holds after a power-on reset, and the Player is STOPPED. -/
theorem invariantsHoldAtReset : Obligations.InvariantsHoldAtReset := by
  have holds : ∀ x : Limit, (plain : x.base ∉ Limit.passing) → x.holds State.reset.ctl :=
    Limit.holds_powerOn true false
  refine ⟨⟨holds .keyTable (by decide), holds .acoustic (by decide), holds .silent (by decide), holds .rounds (by decide), holds .units (by decide), holds .pedalTable (by decide), holds .voices (by decide),
      holds .decay (by decide)⟩, holds .queues (by decide), holds .debts (by decide), holds .fifo (by decide), holds .coupled (by decide), (holds .exclusive (by decide)).2,
    (Controller.setsOk_iff _).2 ⟨holds .sostenuto (by decide), holds .playSets (by decide)⟩, holds .pool (by decide), ?caught⟩
  case caught =>
    have stopped : ∀ x, State.reset.ctl.player.session ≠ some x := fun _ h => by cases h
    exact ⟨fun x _ h => absurd h (stopped x), fun x _ h => absurd h (stopped x), fun x h => absurd h (stopped x),
      fun x h => absurd h (stopped x), fun x h => absurd h (stopped x)⟩

end Sys2Proof.Machine
end

section
/-! The Link's bytes: what the fields of a body carry (section 11.7), and that a request's frame carries the request (R212). -/

namespace Sys2Proof.Machine

/-! ### Numbers in bytes -/

@[simp] theorem bytesLE_length (n x : Nat) : (bytesLE n x).length = n := by simp [bytesLE]

/-- The lowest byte comes first. -/
theorem bytesLE_succ (n x : Nat) : bytesLE (n + 1) x = BitVec.ofNat 8 x :: bytesLE n (x / 256) := by
  simp only [bytesLE, List.range_succ_eq_map, List.map_cons, List.map_map, Nat.pow_zero, Nat.div_one, List.cons.injEq, true_and]
  refine List.map_congr_left fun i _ => ?_
  simp only [Function.comp_apply, Nat.succ_eq_add_one, Nat.pow_succ', Nat.div_div_eq_div_mul]

@[simp] theorem bytesLE_zero (x : Nat) : bytesLE 0 x = [] := rfl

theorem bytesLE_one (x : Nat) : bytesLE 1 x = [BitVec.ofNat 8 x] := bytesLE_succ 0 x

theorem bytesLE_two (x : Nat) : bytesLE 2 x = [BitVec.ofNat 8 x, BitVec.ofNat 8 (x / 256)] := by
  rw [bytesLE_succ, bytesLE_one]

theorem bytesLE_three (x : Nat) :
    bytesLE 3 x = [BitVec.ofNat 8 x, BitVec.ofNat 8 (x / 256), BitVec.ofNat 8 (x / 256 / 256)] := by
  rw [bytesLE_succ, bytesLE_two]

/-- Bytes read back the number that lies in them. -/
theorem numberLE_bytesLE {n x : Nat} (h : x < 256 ^ n) : numberLE (bytesLE n x) = x := by
  induction n generalizing x with
  | zero => simp only [Nat.pow_zero, Nat.lt_one_iff] at h; simp [h, numberLE]
  | succ n ih =>
    have hd : x / 256 < 256 ^ n := by
      rw [Nat.div_lt_iff_lt_mul (by decide)]
      rwa [Nat.pow_succ] at h
    have tail : numberLE (bytesLE n (x / 256)) = x / 256 := ih hd
    rw [bytesLE_succ]
    show (BitVec.ofNat 8 x).toNat + 256 * numberLE (bytesLE n (x / 256)) = x
    rw [tail, BitVec.toNat_ofNat]
    omega

theorem numberLE_one {x : Nat} (h : x < 256) : numberLE [BitVec.ofNat 8 x] = x :=
  bytesLE_one x ▸ numberLE_bytesLE (by omega)

theorem numberLE_two {x : Nat} (h : x < 65536) : numberLE [BitVec.ofNat 8 x, BitVec.ofNat 8 (x / 256)] = x :=
  bytesLE_two x ▸ numberLE_bytesLE (by omega)

theorem numberLE_three {x : Nat} (h : x < 16777216) :
    numberLE [BitVec.ofNat 8 x, BitVec.ofNat 8 (x / 256), BitVec.ofNat 8 (x / 256 / 256)] = x :=
  bytesLE_three x ▸ numberLE_bytesLE (by omega)

/-- A signed byte reads back the number it carries. -/
theorem signedByte_ofInt {l : Int} (low : -128 ≤ l) (high : l ≤ 127) :
    signedByte (BitVec.ofNat 8 (l % 256).toNat) = l := by
  rw [signedByte, BitVec.toInt_ofNat']
  rw [Int.toNat_of_nonneg (Int.emod_nonneg _ (by decide))]
  exact (Int.emod_bmod l 256).trans (Int.bmod_eq_of_le (by omega) (by omega))

/-! ### Lists of fields -/

/-- R212: the entries of a CURVE_LOAD read back. -/
theorem entries_read {es : List Nat} (h : es.all wfByte = true) : (es.flatMap (bytesLE 1)).map BitVec.toNat = es := by
  induction es with
  | nil => rfl
  | cons e es ih =>
    simp only [List.all_cons, Bool.and_eq_true] at h
    have he : e < 256 := of_decide_eq_true h.1
    rw [List.flatMap_cons, bytesLE_one, List.singleton_append, List.map_cons, ih h.2, BitVec.toNat_ofNat, Nat.mod_eq_of_lt he]

/-- R212: the entries of a DECAY_LOAD read back. -/
theorem words_read {es : List Nat} (h : es.all wfWord = true) (rest : List Byte) :
    wordsOf es.length (es.flatMap (bytesLE 2) ++ rest) = es := by
  induction es with
  | nil => rfl
  | cons e es ih =>
    simp only [List.all_cons, Bool.and_eq_true] at h
    have he : e < 65536 := of_decide_eq_true h.1
    rw [List.flatMap_cons, List.append_assoc, List.length_cons, wordsOf, List.take_left' (bytesLE_length 2 e),
      List.drop_left' (bytesLE_length 2 e), ih h.2, numberLE_bytesLE he]

@[simp] theorem rawRecordBytes_length (r : RawRecord) : (rawRecordBytes r).length = 6 := by simp [rawRecordBytes]

/-- R213: the six bytes of a record read back. -/
theorem rawRecordOf_bytes {r : RawRecord} (h : wfRecord r = true) : rawRecordOf (rawRecordBytes r) = r := by
  simp only [wfRecord, Bool.and_eq_true] at h
  obtain ⟨⟨⟨ht, hk⟩, hs⟩, hv⟩ := h
  have ht : r.time < 16777216 := of_decide_eq_true ht
  have hk : r.kind < 256 := of_decide_eq_true hk
  have hs : r.subject < 256 := of_decide_eq_true hs
  have hv : r.value < 256 := of_decide_eq_true hv
  simp [rawRecordOf, rawRecordBytes, bytesLE_one, bytesLE_three, numberLE_one, numberLE_three, ht, hk, hs, hv]

/-- R213: the records of a TAKE_DATA read back. -/
theorem rawRecords_read {rs : List RawRecord} (h : rs.all wfRecord = true) :
    rawRecordsOf rs.length (rs.flatMap rawRecordBytes) = rs := by
  induction rs with
  | nil => rfl
  | cons r rs ih =>
    simp only [List.all_cons, Bool.and_eq_true] at h
    rw [List.flatMap_cons, List.length_cons, rawRecordsOf, List.take_left' (rawRecordBytes_length r),
      List.drop_left' (rawRecordBytes_length r), ih h.2, rawRecordOf_bytes h.1]

/-- The bytes of a list of fields of one width. -/
theorem flatMap_length {α : Type} {f : α → List Byte} {n : Nat} (h : ∀ x, (f x).length = n) (xs : List α) :
    (xs.flatMap f).length = n * xs.length := by
  induction xs with
  | nil => rfl
  | cons x xs ih =>
    rw [List.flatMap_cons, List.length_append, h, ih, List.length_cons, Nat.mul_succ, Nat.add_comm]

/-! ### A request in its frame (R200, R212) -/

/-- A request carried by a frame of a kind, a tag and a body: the body has a length the kind allows, and its rule over the fields of the body is that of the request. -/
def Carried (i : Instr) (kind tag : Byte) (body : List Byte) : Prop :=
  lengthOk kind.toNat body = some true ∧
    ∀ s : State, exec i s = s.run (Controller.handle kind tag (shownFor kind.toNat body) (requestOf kind.toNat body))

theorem Carried.of_rule {i : Instr} {kind tag : Byte} {body : List Byte} {shown : Shown} {h : Handler}
    (e : ∀ s : State, exec i s = s.run (Controller.handle kind tag shown h)) (rule : requestOf kind.toNat body = h)
    (length : lengthOk kind.toNat body = some true) (shows : shownFor kind.toNat body = shown) :
    Carried i kind tag body := ⟨length, fun s => by rw [e, rule, shows]⟩

/-- R212: a request whose operands fit their fields is carried by its frame. -/
theorem carried_of_wf {i : Instr} (wf : i.wf = true) {kind tag : Byte} {body : List Byte}
    (hf : requestFrame i = some (kind, tag, body)) : Carried i kind tag body := by
  cases i with
  | ident | status | reset | standby | wake | pedalRead | railRecover | railRead | takeRead | recStop | playStop | playPause
  | playResume | playRead =>
    cases hf
    exact .of_rule (fun _ => rfl) rfl rfl rfl
  | reports | keyMute | keyRead | curveRead | trimSet | calFull | railSet | voiceSplit | tone | layer | voiceRead | phones
  | takeInfo | recArm | recMark | playTempo | playHands =>
    cases hf
    simp only [Instr.wf, wfByte, Bool.and_eq_true, decide_eq_true_eq] at wf
    exact .of_rule (fun _ => rfl) (by simp [requestOf, byteAt, bytesLE_one, numberLE_one, wf]) rfl rfl
  | thresholds =>
    cases hf
    simp only [Instr.wf, wfWord, Bool.and_eq_true, decide_eq_true_eq] at wf
    exact .of_rule (fun _ => rfl) (by simp [requestOf, wordAt, bytesLE_two, numberLE_two, wf]) rfl rfl
  | playStart | playSeek | playLoop =>
    cases hf
    simp only [Instr.wf, wfByte, wfMs, Bool.and_eq_true, decide_eq_true_eq] at wf
    exact .of_rule (fun _ => rfl)
      (by simp [requestOf, byteAt, msAt, bytesLE_one, bytesLE_three, numberLE_one, numberLE_three, wf]) rfl rfl
  | keyParam =>
    cases hf
    simp only [Instr.wf, wfByte, wfWord, Bool.and_eq_true, decide_eq_true_eq] at wf
    exact .of_rule (fun _ => rfl) (by
      simp [requestOf, byteAt, wordAt, signedAt, signed1, bytesLE_one, bytesLE_two, numberLE_one, numberLE_two,
        signedByte_ofInt, wf]) rfl rfl
  | pedalParam =>
    cases hf
    simp only [Instr.wf, wfByte, wfWord, Bool.and_eq_true, decide_eq_true_eq] at wf
    exact .of_rule (fun _ => rfl)
      (by simp [requestOf, byteAt, wordAt, bytesLE_one, bytesLE_two, numberLE_one, numberLE_two, wf]) rfl
      (by simp [shownFor, addressed, bytesLE_one, Nat.mod_eq_of_lt, wf])
  | takeWindow | takeClear =>
    cases hf
    simp only [Instr.wf, wfByte, wfWord, Bool.and_eq_true, decide_eq_true_eq] at wf
    exact .of_rule (fun _ => rfl)
      (by simp [requestOf, byteAt, wordAt, bytesLE_one, bytesLE_two, numberLE_one, numberLE_two, wf]) rfl
      (by simp [shownFor, addressed, bytesLE_one, Nat.mod_eq_of_lt, wf])
  | curveLoad tag name es =>
    cases hf
    simp only [Instr.wf, Bool.and_eq_true, decide_eq_true_eq] at wf
    obtain ⟨⟨hname, hlen⟩, hes⟩ := wf
    have hname : name < 256 := of_decide_eq_true hname
    have hbytes := flatMap_length (bytesLE_length 1) es
    refine .of_rule (fun s => if_pos hlen) ?rule ?length ?shown
    case rule => simp [requestOf, byteAt, bytesLE_one name, numberLE_one, hname, entries_read hes]
    case length => simp [lengthOk, hbytes, hlen]
    case shown => simp [shownFor, addressed, bytesLE_one name, Nat.mod_eq_of_lt, hname]
  | decayLoad tag es limit =>
    cases hf
    simp only [Instr.wf, Bool.and_eq_true, decide_eq_true_eq] at wf
    obtain ⟨⟨hlen, hes⟩, hlimit⟩ := wf
    have hlimit : limit < 256 := of_decide_eq_true hlimit
    have hbytes : (es.flatMap (bytesLE 2)).length = 176 := by rw [flatMap_length (bytesLE_length 2), hlen]
    have hwords : wordsOf 88 (es.flatMap (bytesLE 2) ++ bytesLE 1 limit) = es := hlen ▸ words_read hes _
    have hlast : (es.flatMap (bytesLE 2) ++ bytesLE 1 limit).drop 176 = bytesLE 1 limit := List.drop_left' hbytes
    refine .of_rule (fun s => if_pos hlen) ?rule ?length rfl
    case rule =>
      show decayLoad (wordsOf 88 _) (byteAt _ 176) = decayLoad es limit
      rw [hwords, byteAt, hlast, bytesLE_one, List.take_one, List.head?_cons, Option.toList_some, numberLE_one hlimit]
    case length => simp [lengthOk, hbytes]
  | takeData tag rs =>
    cases hf
    simp only [Instr.wf, Bool.and_eq_true, decide_eq_true_eq] at wf
    obtain ⟨hlen, hrs⟩ := wf
    have hcount : rs.length < 256 := by omega
    have hbytes := flatMap_length rawRecordBytes_length rs
    refine .of_rule (fun s => if_pos hlen) ?rule ?length rfl
    case rule => simp [requestOf, byteAt, bytesLE_one, numberLE_one, hcount, rawRecords_read hrs]
    case length => simp [lengthOk, byteAt, bytesLE_one, numberLE_one, hcount, hbytes, hlen]; omega
  | _ => cases hf

/-! ### A frame of any kind, as the receiver takes it -/

@[simp] theorem checkedFrame_kind (kind tag : Byte) (body : List Byte) : (checkedFrame kind tag body).kind = kind := rfl

@[simp] theorem checkedFrame_tag (kind tag : Byte) (body : List Byte) : (checkedFrame kind tag body).tag = tag := rfl

@[simp] theorem checkedFrame_body (kind tag : Byte) (body : List Byte) : (checkedFrame kind tag body).body = body := by
  simp [checkedFrame, RxFrame.body]

/-- Summing on from a byte. -/
theorem sumBytes_from (bs : List Byte) (a : Byte) : bs.foldl (· + ·) a = a + sumBytes bs := by
  induction bs generalizing a with
  | nil => exact (BitVec.add_zero a).symm
  | cons b bs ih =>
    show bs.foldl (· + ·) (a + b) = a + bs.foldl (· + ·) (0#8 + b)
    rw [ih, ih (0#8 + b), BitVec.zero_add, BitVec.add_assoc]

/-- The sum of bytes, one list after another. -/
theorem sumBytes_append (as bs : List Byte) : sumBytes (as ++ bs) = sumBytes as + sumBytes bs :=
  List.foldl_append.trans (sumBytes_from bs _)

/-- R198: the check byte makes the sum of the counted bytes 0. -/
@[simp] theorem checkedFrame_checks (kind tag : Byte) (body : List Byte) : (checkedFrame kind tag body).checks = true := by
  show (sumBytes ((BitVec.ofNat 8 (body.length + 2) :: kind :: tag :: body) ++
    [- sumBytes (BitVec.ofNat 8 (body.length + 2) :: kind :: tag :: body)]) == 0#8) = true
  rw [sumBytes_append, beq_iff_eq]
  simp [sumBytes]

namespace Controller

variable {c : Controller} {f : RxFrame} {fs : List RxFrame}

/-- R200: a frame is taken where no reply waits and no soft reset is due. -/
theorem dispatchFrame_eq (input : c.link.input = f :: fs) (free : c.replyPending = false) (due : c.link.resetDue = false) :
    c.dispatchFrame = { c with link := { c.link with input := fs } }.handleFrame f := by
  have h : c.dispatchDue = true := by simp [dispatchDue, input, free, due]
  rw [dispatchFrame, if_pos h, input]

/-- R200: a frame that passes its check, of a known kind and a right length, is handed to the rule of its request. -/
theorem handleFrame_eq_handle (c : Controller) (checks : f.checks = true)
    (length : lengthOk f.kind.toNat f.body = some true) :
    c.handleFrame f = c.handle f.kind f.tag (shownFor f.kind.toNat f.body) (requestOf f.kind.toNat f.body) := by
  rw [handleFrame, if_neg (by simp [checks]), length]

end Controller

/-- R200: DISPATCH_FRAME on a running controller. -/
theorem exec_dispatchFrame {s : State} (run : s.Running) :
    exec .dispatchFrame s = .next (s.withCtl s.ctl.dispatchFrame) := State.run_running run _

/-- Settles O11: the frame passes its check, and the rule over its fields is that of the request. -/
theorem requestFrameRunsItsRequest : Obligations.RequestFrameRunsItsRequest := by
  intro i kind tag body fs s run wf hf input free due
  obtain ⟨length, command⟩ := carried_of_wf wf hf
  have run' : (s.withCtl { s.ctl with link := { s.ctl.link with input := fs } }).Running := run
  rw [command, State.run_running run', exec_dispatchFrame run, Controller.dispatchFrame_eq input free due,
    Controller.handleFrame_eq_handle _ (by simp) (by simpa using length)]
  simp [State.withCtl]

end Sys2Proof.Machine
end

section
/-! The Link: reception, the line, and the replies made before a request reaches its rule (chapter 11). -/

namespace Sys2Proof.Machine

/-! ### What a refused request shows (log 18) -/

theorem slotFields_eq (c : Controller) (s : Slot) : slotFields c s =
    [Config.slotStateCode (c.take s).isSome] ++ bytesLE 2 (match c.take s with
      | some t => t.records.length
      | none => 0) := by
  unfold slotFields Controller.count Controller.records
  cases c.take s <;> rfl

/-- The number by which a body names what it addresses, as the statements say it. -/
def named : List Byte → Nat
  | b :: _ => b.toNat
  | [] => 255

theorem addressed_eq_named (body : List Byte) : addressed body = named body := by cases body <;> rfl

theorem named_lt (body : List Byte) : named body < 256 := by
  cases body with
  | nil => decide
  | cons b _ => exact b.isLt

theorem absent_four : absent 4 = [0xFF#8, 0xFF#8, 0xFF#8, 0xFF#8] := rfl

/-- The name of a curve in a reply: the byte itself where it names a curve. -/
theorem curveShown_eq (n : Nat) (c : Controller) :
    curveShown n c = [0xFF#8, 0xFF#8] ++ (if n ≤ 1 then codeByte n else [0xFF#8]) := by
  match n with
  | 0 | 1 => rfl
  | n + 2 => simp [curveShown, curveFields, curveOf, optLE, absent, List.replicate]

/-- What a TAKE_WINDOW or TAKE_CLEAR shows of the slot it names. -/
theorem slotShown_eq (n : Nat) (c : Controller) :
    slotShown n c = (match n with
     | 0 => slotFields c .a
     | 1 => slotFields c .b
     | _ => [0xFF#8, 0xFF#8, 0xFF#8]) := by
  match n with
  | 0 | 1 | n + 2 => rfl

theorem loopFields_eq (c : Controller) : loopFields c = (match c.player.session.bind Session.loop with
     | some l => bytesLE 3 l.start ++ bytesLE 3 l.stop ++ codeByte l.count ++ passesByte l.passes ++ flagByte l.armed
     | none => absent 9) := by
  unfold loopFields
  cases c.player.session with
  | none => rfl
  | some x => obtain ⟨_, _, _, _, _, _, _, loop⟩ := x; cases loop <;> rfl

/-- What a reply STANDBY or BAD_LENGTH shows is what the statements say of it. -/
theorem shownFor_eq (kind : Nat) (body : List Byte) (c : Controller) :
    shownFor kind body c = refusalFields kind body c := by
  unfold shownFor
  split
  case h_3 => exact (addressed_eq_named body).symm ▸ curveShown_eq _ _
  case h_6 =>
    simp only [pedalFields, addressed_eq_named, absent_four]
    rfl
  case h_9 =>
    simp only [splitFields, usedFields, List.append_assoc]
    simp only [refusalFields, List.append_assoc]
    rfl
  case h_14 | h_15 => 
    simp only [addressed_eq_named, slotShown_eq, slotFields_eq]
    rfl
  case h_17 => exact loopFields_eq c
  case h_20 => simp [refusalFields, noFields, *]
  all_goals rfl

/-! ### The lengths of bodies (R212) -/

theorem lengthOk_of_size {kind n : Nat} (h : (kind, n) ∈ bodySizes) (body : List Byte) :
    lengthOk kind body = some (body.length == n) := by
  have sized : ∀ p ∈ bodySizes, lengthOk p.1 body = some (body.length == p.2) := by simp [bodySizes, lengthOk]
  exact sized _ h

/-- The kinds of known length: the listed ones, and TAKE_DATA. -/
theorem listed_of_lengthOk {kind : Nat} {body : List Byte} (h : lengthOk kind body ≠ none) :
    kind = 0x29 ∨ kind ∈ bodySizes.map Prod.fst := by
  unfold lengthOk at h
  split at h
  case h_43 => exact absurd rfl h
  all_goals decide

theorem lengthOk_unknown {kind : Nat} (h : ∀ n, (kind, n) ∉ bodySizes) (data : kind ≠ 0x29) (body : List Byte) :
    lengthOk kind body = none := by
  by_contra known
  rcases listed_of_lengthOk known with rfl | listed
  · exact data rfl
  · obtain ⟨⟨_, n⟩, hn, rfl⟩ := List.mem_map.mp listed
    exact h n hn

/-- A request that keeps the window closes none; any other closes it. -/
theorem keepsWindow_iff (kind : Byte) : keepsWindow kind = true ↔ kind = 0x29#8 ∨ kind = 0x2A#8 := by
  simp [keepsWindow]

theorem answeredAsleep_eq_false {kind : Byte} (ident : kind ≠ 0x01#8) (status : kind ≠ 0x02#8) (wake : kind ≠ 0x06#8) :
    answeredAsleep kind = false := by simp [answeredAsleep, ident, status, wake]

/-- Settles O17: the request's frame carries its rule, and a sleeping controller does not ask it. -/
theorem sleepingControllerAnswersStandby : Obligations.SleepingControllerAnswersStandby := by
  intro i kind tag body s run asleep wf hf ident status wake c
  obtain ⟨-, command⟩ := carried_of_wf wf hf
  rw [Replies, command, State.run_running run,
    Controller.handle_asleep asleep (answeredAsleep_eq_false ident status wake)]
  simp only [keepsWindow_iff, shownFor_eq, c]

/-! ### Frames that are refused (R200) -/

namespace Controller

variable (c : Controller) {f : RxFrame}

theorem handleFrame_badCheck (wrong : sumBytes (f.length :: f.bytes) ≠ 0#8) :
    c.handleFrame f = c.pushReply 0xFE#8 f.tag { code := .badCheck, fields := [f.kind] } :=
  if_pos (beq_false_of_ne wrong)

theorem checks_of_sum (right : sumBytes (f.length :: f.bytes) = 0#8) : f.checks = true := by
  rw [RxFrame.checks, right]
  rfl

theorem handleFrame_badKind (right : sumBytes (f.length :: f.bytes) = 0#8)
    (unknown : lengthOk f.kind.toNat f.body = none) :
    c.handleFrame f = c.pushReply 0xFE#8 f.tag { code := .badKind, fields := [f.kind] } := by
  rw [handleFrame, if_neg (by simp [checks_of_sum right]), unknown]
  rfl

theorem handleFrame_badLength (right : sumBytes (f.length :: f.bytes) = 0#8)
    (wrong : lengthOk f.kind.toNat f.body = some false) :
    c.handleFrame f = c.refuseLength f.kind f.tag (shownFor f.kind.toNat f.body) := by
  rw [handleFrame, if_neg (by simp [checks_of_sum right]), wrong]

theorem refuseLength_closes {kind : Byte} (closes : keepsWindow kind = false) (tag : Byte) (shown : Shown) :
    c.refuseLength kind tag shown =
      c.closeWindow.pushReply (kind + 0x80#8) tag { code := .badLength, fields := shown c.closeWindow } := by
  simp [refuseLength, closes]

theorem refuseLength_kept {kind : Byte} (kept : keepsWindow kind = true) (tag : Byte) (shown : Shown) :
    c.refuseLength kind tag shown = c.pushReply (kind + 0x80#8) tag { code := .badLength, fields := shown c } := by
  simp [refuseLength, kept]

end Controller

/-- A request whose body has a wrong length is answered BAD_LENGTH, the window closed (R200). -/
theorem Replies.of_badLength {i : Instr} {kind answer tag : Byte} {shown : Shown} {s : State} {fields : List Byte}
    (e : exec i s = s.run (Controller.refuseLength kind tag shown)) (run : s.Running)
    (shows : shown s.ctl.closeWindow = fields) (closes : keepsWindow kind = false)
    (a : kind + 0x80#8 = answer) : Replies i answer tag s s.ctl.closeWindow .badLength fields := by
  rw [Replies, e, State.run_running run, Controller.refuseLength_closes _ closes, shows, a]

/-- The same for TAKE_DATA, which leaves the window as it stands. -/
theorem Replies.of_keptBadLength {i : Instr} {kind answer tag : Byte} {shown : Shown} {s : State} {fields : List Byte}
    (e : exec i s = s.run (Controller.refuseLength kind tag shown)) (run : s.Running) (shows : shown s.ctl = fields)
    (kept : keepsWindow kind = true) (a : kind + 0x80#8 = answer) :
    Replies i answer tag s s.ctl .badLength fields := by
  rw [Replies, e, State.run_running run, Controller.refuseLength_kept _ kept, shows, a]

/-- R212: TAKE_DATA allows 1 to 40 records of six bytes. -/
theorem lengthOk_takeData {body : List Byte}
    (h : ¬ ∃ n, byteAt body 0 = n ∧ 1 ≤ n ∧ n ≤ 40 ∧ body.length = 1 + 6 * n) : lengthOk 0x29 body = some false := by
  simp only [exists_eq_left'] at h
  simp only [lengthOk, Option.some.injEq, Bool.and_eq_false_iff, decide_eq_false_iff_not, beq_eq_false_iff_ne]
  tauto

/-- Settles O12: the first step of R200 that fails gives the reply. -/
theorem badFramesAreRefused : Obligations.BadFramesAreRefused := by
  intro f fs s run input free due c wrongLength
  have taken : ∀ {c'}, c.handleFrame f = c' → Leaves .dispatchFrame s c' := fun h =>
    .of_run rfl run ((Controller.dispatchFrame_eq input free due).trans h)
  have refused (wrong : wrongLength) : lengthOk f.kind.toNat f.body = some false := by
    rcases wrong with ⟨n, listed, size⟩ | ⟨data, size⟩
    · simp [lengthOk_of_size listed, size]
    · rw [data]
      exact lengthOk_takeData size
  have shownKept (kept : f.kind = 0x29#8 ∨ f.kind = 0x2A#8) : shownFor f.kind.toNat f.body = noFields := by
    rcases kept with h | h <;> rw [h] <;> rfl
  refine ⟨fun wrong => ?check, fun right data unlisted => ?kind, fun right wrong data read => ?length,
    fun right wrong kept => ?kept⟩
  case check => exact taken (c.handleFrame_badCheck wrong)
  case kind =>
    have unknown := lengthOk_unknown unlisted (fun h => data (BitVec.eq_of_toNat_eq h)) f.body
    exact taken (c.handleFrame_badKind right unknown)
  case length =>
    have closes : keepsWindow f.kind = false := by simp [keepsWindow, data, read]
    exact taken (by
      rw [c.handleFrame_badLength right (refused wrong), c.refuseLength_closes closes, shownFor_eq])
  case kept =>
    exact taken (by
      rw [c.handleFrame_badLength right (refused wrong), c.refuseLength_kept ((keepsWindow_iff _).mpr kept),
        shownKept kept]
      rfl)

/-! ### Reception (R198, R199) -/

namespace Link

variable {l : Link} {b : Byte} {frame : Nat}

theorem takeByte_sync (h : l.receiver = .hunting) : l.takeByte syncByte frame =
    { l with receiver := .awaitLength, rxTimer := some (frame + 240) } := by simp [takeByte, h]

theorem takeByte_hunting (h : l.receiver = .hunting) (other : b ≠ syncByte) : l.takeByte b frame = l := by
  simp [takeByte, h, other]

theorem takeByte_length (h : l.receiver = .awaitLength) (least : 2 ≤ b.toNat) (most : b.toNat ≤ 250) :
    l.takeByte b frame = { l with receiver := .inBody b [] } := by simp [takeByte, h, least, most]

theorem takeByte_badLength (h : l.receiver = .awaitLength) (bad : b.toNat < 2 ∨ 250 < b.toNat) :
    l.takeByte b frame = l.hunt := by
  have : ¬ (2 ≤ b.toNat ∧ b.toNat ≤ 250) := by omega
  simp [takeByte, h, this]

theorem takeByte_body {len : Byte} {taken : List Byte} (h : l.receiver = .inBody len taken)
    (more : taken.length < len.toNat) : l.takeByte b frame = { l with receiver := .inBody len (taken ++ [b]) } := by
  simp [takeByte, h, more.ne]

theorem takeByte_check {len : Byte} {taken : List Byte} (h : l.receiver = .inBody len taken)
    (full : taken.length = len.toNat) :
    l.takeByte b frame = l.hunt.frameComplete { length := len, bytes := taken ++ [b] } := by
  simp [takeByte, h, full]

/-- The bytes up to the length of a frame join those taken. -/
theorem takeBytes_body {len : Byte} {taken bs : List Byte} (h : l.receiver = .inBody len taken)
    (room : taken.length + bs.length ≤ len.toNat) :
    bs.foldl (fun l b => l.takeByte b frame) l = { l with receiver := .inBody len (taken ++ bs) } := by
  induction bs generalizing l taken with
  | nil => rw [List.foldl_nil, List.append_nil, ← h]
  | cons b bs ih =>
    rw [List.length_cons] at room
    rw [List.foldl_cons, takeByte_body h (by omega), ih rfl (by rw [List.length_append, List.length_singleton]; omega)]
    simp

/-- R199: a complete frame joins a queue with room. -/
theorem frameComplete_room (room : l.input.length < 4) (f : RxFrame) :
    l.frameComplete f = { l with input := l.input ++ [f] } := if_pos room

/-- R198, R211: the bytes of a whole frame, taken by a hunting receiver, are received as that frame. -/
theorem takeBytes_frame {kind tag : Byte} {body : List Byte} (hunts : l.receiver = .hunting)
    (room : l.input.length < 4) (size : body.length ≤ 248) :
    (frameBytes kind tag body).foldl (fun l b => l.takeByte b frame) l =
      { l with rxTimer := none, input := l.input ++ [checkedFrame kind tag body] } := by
  have len : (BitVec.ofNat 8 (body.length + 2)).toNat = body.length + 2 := by rw [BitVec.toNat_ofNat]; omega
  rw [frameBytes, List.foldl_append, List.foldl_cons, List.foldl_nil, List.foldl_cons, takeByte_sync hunts,
    List.foldl_cons, takeByte_length (b := BitVec.ofNat 8 (body.length + 2)) rfl (by omega) (by omega), takeBytes_body rfl (by simp [len]),
    takeByte_check rfl (by simp [len])]
  refine (frameComplete_room (by exact room) _).trans ?_
  simp [hunt, hunts, checkedFrame]

end Link

/-- Bytes that arrive one after another act on the receiver alone. -/
theorem receiveAll_running (bs : List Byte) {s : State} (run : s.Running) :
    receiveAll bs s = .next (s.withCtl { s.ctl with
      link := bs.foldl (fun l b => l.takeByte b s.ctl.phones.frame) s.ctl.link }) := by
  induction bs generalizing s with
  | nil => rfl
  | cons b bs ih =>
    have one : exec (.rxByte b false) s = .next (s.withCtl (s.ctl.rxByte b false)) := State.run_running run _
    rw [receiveAll, one]
    exact ih run

/-- Settles O10: sync, length, body and check byte take the receiver through its three states. -/
theorem frameBytesAreReceived : Obligations.FrameBytesAreReceived := by
  intro kind tag body s run size hunts room
  refine ⟨checkedFrame_checks _ _ _, rfl, rfl, checkedFrame_body _ _ _, ?_⟩
  rw [receiveAll_running _ run, Link.takeBytes_frame hunts room size]

/-- Settles O9: the receiver byte by byte. -/
theorem receiverFollowsBytes : Obligations.ReceiverFollowsBytes := by
  intro b s run l leaves
  have takes : ∀ {l'}, l.takeByte b s.ctl.phones.frame = l' → leaves (.rxByte b false) l' := fun h =>
    .of_run rfl run (by rw [Controller.rxByte, if_neg Bool.false_ne_true]; exact congrArg (fun l => { s.ctl with link := l }) h)
  refine ⟨.of_run rfl run rfl, fun h sync => takes (sync ▸ Link.takeByte_sync h),
    fun h other => takes (Link.takeByte_hunting h other), fun h least most => takes (Link.takeByte_length h least most),
    fun h bad => takes (Link.takeByte_badLength h bad), fun _ _ h more => takes (Link.takeByte_body h more),
    fun _ _ h full => takes (Link.takeByte_check h full), fun f h due => .of_run rfl run ?timeout⟩
  have expired : s.ctl.frameReached s.ctl.link.rxTimer = true := by
    rw [show s.ctl.link.rxTimer = some f from h]
    exact decide_eq_true due
  rw [Controller.rxTimeout, if_pos expired]
  rfl

/-! ### The transmit line and the report queue (R201, R202) -/

namespace Controller

variable {c : Controller}

/-- R201: the arbiter chooses where the line is free, no frame may be taken and no soft reset is due. -/
theorem lineGrant_due (free : c.link.line = none) (waits : c.dispatchDue = false) (due : c.link.resetDue = false) :
    c.lineGrant = { c with link := c.link.grant c.now } := if_pos (by simp [grantDue, free, waits, due])

/-- A reply that waits for the line keeps the next frame in the queue. -/
theorem dispatchDue_of_reply {r : Reply} {rs : List Reply} (h : c.link.replies = r :: rs) : c.dispatchDue = false := by
  simp [dispatchDue, replyPending, h]

theorem dispatchDue_of_empty (h : c.link.input = []) : c.dispatchDue = false := by simp [dispatchDue, h]

theorem txEnd_eq {x : Sending} (h : c.link.line = some x) :
    c.txEnd = { c with link := { c.link with line := none, resetDue := c.link.resetDue || x.isReset } } := by
  rw [txEnd, h]

end Controller

theorem Sending.isReset_of_not_reply {x : Sending} (h : ∀ r, x ≠ .reply r) : x.isReset = false := by
  cases x with
  | reply r => exact absurd rfl (h r)
  | busy | report => rfl

/-- Settles O14: the arbiter's order, and what the end of a transmission leaves. -/
theorem lineGrantOrder : Obligations.LineGrantOrder := by
  intro s run l leaves
  have granted : ∀ {l'}, l.line = none → s.ctl.dispatchDue = false → l.resetDue = false → l.grant s.ctl.now = l' →
      leaves .lineGrant l' := fun free waits due h =>
    .of_run rfl run ((Controller.lineGrant_due free waits due).trans (congrArg (fun l => { s.ctl with link := l }) h))
  refine ⟨fun r rs free due h => granted free (Controller.dispatchDue_of_reply h) due ?reply,
    fun e es free due none empty h => granted free (Controller.dispatchDue_of_empty empty) due ?busy,
    fun q qs free due none empty idle h =>
      ⟨fun marked => granted free (Controller.dispatchDue_of_empty empty) due ?report,
        fun marked => granted free (Controller.dispatchDue_of_empty empty) due ?overrun⟩,
    fun r h => .of_run rfl run (Controller.txEnd_eq h),
    fun x h other => .of_run rfl run ((Controller.txEnd_eq h).trans ?ends)⟩
  case reply => simp [Link.grant, h]
  case busy => simp [Link.grant, none, h, BusyEntry.reply, untrustedKind]
  case report => simp [Link.grant, none, idle, h, Link.placeFreed, marked]
  case overrun => simp [Link.grant, none, idle, h, Link.placeFreed, marked]
  case ends => simp [Sending.isReset_of_not_reply other, l]

namespace Link

variable {l : Link} {q : QueuedReport}

theorem place_lost (off : classEnabled l.mask q.report.class = false) : l.place q = l := if_neg (ne_true_of_eq_false off)

theorem place_queued (on : classEnabled l.mask q.report.class = true) (room : l.queue.length < 64) :
    l.place q = { l with queue := l.queue ++ [q] } := (if_pos on).trans (if_pos room)

theorem place_dropped (on : classEnabled l.mask q.report.class = true) (full : 64 ≤ l.queue.length) :
    l.place q = { l with overrun := true, dropCount := if l.dropCount < 65535 then l.dropCount + 1 else 65535 } :=
  (if_pos on).trans (if_neg (Nat.not_lt.mpr full))

end Link

/-- R202: a report of an enabled class joins a queue with room. -/
theorem Controller.reportAt_queued {c : Controller} {t : Time} {r : Report}
    (on : c.link.mask.getLsbD r.class.code = true) (room : c.link.queue.length < 64) :
    { time := t, report := r } ∈ (c.reportAt t r).link.queue := by
  rw [Controller.reportAt_link, Link.place_queued (by exact on) room]
  exact List.mem_append_right _ (List.mem_singleton_self _)

theorem Controller.report_queued {c : Controller} {r : Report} (on : c.link.mask.getLsbD r.class.code = true)
    (room : c.link.queue.length < 64) : { time := c.now, report := r } ∈ (c.report r).link.queue :=
  Controller.reportAt_queued on room

/-- Settles O15: R202's three cases. -/
theorem reportPlacement : Obligations.ReportPlacement := by
  intro r c enabled
  have placed : ∀ {l}, c.link.place { time := c.now, report := r } = l → c.report r = { c with link := l } :=
    fun h => congrArg (fun l => { c with link := l }) h
  exact ⟨fun off => placed (Link.place_lost off), fun on room => placed (Link.place_queued on room),
    fun on full => placed (Link.place_dropped on full)⟩

/-! ### IDENT, STATUS and RESET (R204 to R206) -/

/-- A request answered in every state of the Link. -/
theorem Replies.of_answered {i : Instr} {kind answer tag : Byte} {shown : Shown} {h : Handler} {s : State} {c : Controller}
    {code : ResultCode} {fields : List Byte} (e : exec i s = s.run (Controller.handle kind tag shown h)) (run : s.Running)
    (rule : h s.ctl.closeWindow = (c, { code := code, fields := fields }))
    (k : keepsWindow kind = false) (a : kind + 0x80#8 = answer)
    (asleep : answeredAsleep kind = true) :
    Replies i answer tag s c code fields := by
  rw [Replies, e, State.run_running run, Controller.handle_answered _ k asleep, rule, a]

/-- Settles O16: the three rules, each over the state it finds. -/
theorem identStatusAndReset : Obligations.IdentStatusAndReset := by
  refine ⟨fun tag s run => .of_answered rfl run rfl rfl rfl rfl, ?status,
    fun tag s sv => .of_rule rfl sv rfl rfl rfl⟩
  intro tag s run c count
  refine .of_answered rfl run ?_ rfl rfl rfl
  have quiet : c.quiet = decide (∀ r ∈ c.keys, r.state.disturbs = false) := by
    rw [Bool.eq_iff_iff]
    simp [Controller.quiet]
  have counts : ∀ p, codeByte (c.countKeys p) = count p := fun p =>
    congrArg codeByte List.countP_eq_length_filter.symm
  rw [← quiet, ← counts, ← counts, ← counts]
  rfl

end Sys2Proof.Machine
end

section
/-! The Voice Pool in detail: the order of ranks, re-owning voice by voice, and the voice a strike takes (R111 to R117). -/

namespace Sys2Proof.Machine

/-! ### The order of ranks (R112, R117) -/

/-- One ranked index comes before another: by band, attenuation and age, then by the lower index. -/
def Leads (x y : Nat × Rank) : Prop :=
  y.2.band < x.2.band ∨ (y.2.band = x.2.band ∧ (y.2.attenuation < x.2.attenuation ∨
    (y.2.attenuation = x.2.attenuation ∧ (y.2.age < x.2.age ∨ (y.2.age = x.2.age ∧ x.1 < y.1)))))

theorem Leads.trans {x y z : Nat × Rank} (h : Leads x y) (k : Leads y z) : Leads x z := by
  unfold Leads at *
  omega

theorem Leads.of_before {x y : Nat × Rank} (h : x.2.before y.2 = true) : Leads x y := by
  simp only [Rank.before, Bool.or_eq_true, Bool.and_eq_true, decide_eq_true_eq, beq_iff_eq] at h
  unfold Leads
  omega

/-- The earlier index leads where the later rank does not come before its own. -/
theorem Leads.of_not_before {x y : Nat × Rank} (h : y.2.before x.2 ≠ true) (index : x.1 < y.1) : Leads x y := by
  simp only [Rank.before, ne_eq, Bool.or_eq_true, Bool.and_eq_true, decide_eq_true_eq, beq_iff_eq] at h
  unfold Leads
  omega

/-- The first-ranked of a list in the order of its indices leads all others. -/
theorem firstRanked_leads {xs : List (Nat × Rank)} (sorted : xs.Pairwise fun x y => x.1 < y.1) {x : Nat × Rank}
    (h : firstRanked xs = some x) {z : Nat × Rank} (hz : z ∈ xs) (other : z ≠ x) : Leads x z := by
  induction xs generalizing x z with
  | nil => cases h
  | cons w ws ih =>
    obtain ⟨head, tail⟩ := List.pairwise_cons.1 sorted
    unfold firstRanked at h
    split at h
    · next e =>
      obtain rfl := Option.some.inj h
      rw [firstRanked_eq_none.1 e, List.mem_singleton] at hz
      exact absurd hz other
    · next y e =>
      have hy := firstRanked_mem e
      have leads : ∀ {v}, v ∈ ws → v = y ∨ Leads y v := fun {v} hv => (eq_or_ne v y).imp_right (ih tail e hv)
      split at h
      · next before =>
        obtain rfl := Option.some.inj h
        rcases List.mem_cons.1 hz with rfl | hz
        · exact .of_before before
        · exact (leads hz).resolve_left other
      · next notBefore =>
        obtain rfl := Option.some.inj h
        have first : Leads w y := .of_not_before notBefore (head y hy)
        rcases List.mem_cons.1 hz with rfl | hz
        · exact absurd rfl other
        · rcases leads hz with rfl | led
          · exact first
          · exact first.trans led

namespace Controller

variable (c : Controller)

theorem ranked_sorted (p : Note → Bool) (rank : Note → Rank) :
    (c.ranked p rank).Pairwise fun x y => x.1 < y.1 := by
  have indices : c.pool.voices.zipIdx.Pairwise fun x y => x.2 < y.2 :=
    List.pairwise_map.1 (List.zipIdx_map_snd 0 c.pool.voices ▸ List.pairwise_lt_range')
  refine List.pairwise_filterMap.2 (indices.imp ?_)
  rintro ⟨v, i⟩ ⟨w, j⟩ h x hx y hy
  cases v with
  | none => cases hx
  | some n =>
    cases w with
    | none => cases hy
    | some m =>
      simp only [Option.ite_none_right_eq_some, Option.some.injEq] at hx hy
      obtain ⟨-, rfl⟩ := hx
      obtain ⟨-, rfl⟩ := hy
      exact h

/-- The first-ranked voice leads every other that is selected. -/
theorem firstRanked_ranked {p : Note → Bool} {rank : Note → Rank} {x : Nat × Rank}
    (h : firstRanked (c.ranked p rank) = some x) : ∃ n, c.voice x.1 = some n ∧ p n = true ∧ x = (x.1, rank n) ∧
      ∀ j b, c.voice j = some b → p b = true → j ≠ x.1 → Leads (x.1, rank n) (j, rank b) := by
  obtain ⟨n, hv, hp, hr⟩ := (c.mem_ranked (i := x.1) (r := x.2)).1 (firstRanked_mem h)
  have hx : x = (x.1, rank n) := Prod.ext rfl hr.symm
  refine ⟨n, hv, hp, hx, fun j b hb hbp hj => ?_⟩
  exact hx ▸ firstRanked_leads (c.ranked_sorted p rank) h (c.mem_ranked.2 ⟨b, hb, hbp, rfl⟩)
    fun e => hj (congrArg Prod.fst e)

/-! ### Re-owning voice by voice (R112) -/

/-- R112: the rank of a voice that is re-owned. -/
def reownRank (v : Note) : Rank := { band := 0, attenuation := v.attenuation c.now, age := elapsed c.now v.start }

theorem other_ne (p : Source) : p.other ≠ p := by cases p <;> decide

/-- One re-owning of a partition that owns a voice: the voice that leads the others goes to the other partition. -/
theorem reown_succ {p : Source} (n : Nat) (owns : 0 < c.used p) : ∃ i v d, c.voice i = some v ∧ v.owner = p ∧
    (∀ j b, c.voice j = some b → b.owner = p → j ≠ i → Leads (i, c.reownRank v) (j, c.reownRank b)) ∧
    reown p (n + 1) c = reown p n d ∧ d.used p + 1 = c.used p ∧ d.reownRank = c.reownRank ∧
    ∀ j, d.voice j = if j = i then some { v with owner := p.other } else c.voice j := by
  obtain ⟨x, hx⟩ := c.exists_ranked_of_used (rank := c.reownRank) owns
  obtain ⟨v, hv, ho, -, leads⟩ := c.firstRanked_ranked hx
  have ho : v.owner = p := beq_iff_eq.1 ho
  have fewer := c.setVoice_used (c.lt_of_voice hv) (some { v with owner := p.other }) p
  refine ⟨x.1, v, c.setVoice x.1 (some { v with owner := p.other }), hv, ho,
    fun j b hb hbo => leads j b hb (beq_iff_eq.2 hbo), ?_, by simpa [hv, ownerOf, ho, other_ne p] using fewer, rfl,
    c.setVoice_voice_eq (c.lt_of_voice hv) _⟩
  unfold reownRank at hx
  rw [reown, hx]
  dsimp only
  rw [hv]

/-- R112: re-owning leaves every voice as it is, or moves it from the partition to the other. -/
theorem reown_voice (p : Source) (n : Nat) (h : n ≤ c.used p) (j : Nat) :
    (reown p n c).voice j = c.voice j ∨
      ∃ v, c.voice j = some v ∧ v.owner = p ∧ (reown p n c).voice j = some { v with owner := p.other } := by
  induction n generalizing c with
  | zero => exact .inl rfl
  | succ n ih =>
    obtain ⟨i, v, d, hv, ho, -, e, fewer, -, now⟩ := c.reown_succ n (Nat.lt_of_lt_of_le n.succ_pos h)
    have now := now j
    rw [e]
    by_cases ej : j = i
    · rw [if_pos ej] at now
      rcases ih d (by omega) with kept | ⟨w, hw, hwo, -⟩
      · exact .inr ⟨v, ej ▸ hv, ho, kept.trans now⟩
      · obtain rfl := Option.some.inj (now.symm.trans hw)
        exact absurd hwo (other_ne p)
    · rw [if_neg ej] at now
      exact now ▸ ih d (by omega)

/-- R112: the voices re-owned lead those that are not. -/
theorem reown_leads (p : Source) (n : Nat) (h : n ≤ c.used p) {i j : Nat} {a b : Note} (ha : c.voice i = some a)
    (hb : c.voice j = some b) (hbo : b.owner = p) (moved : (reown p n c).voice i ≠ c.voice i)
    (kept : (reown p n c).voice j = c.voice j) : Leads (i, c.reownRank a) (j, c.reownRank b) := by
  induction n generalizing c with
  | zero => exact absurd rfl moved
  | succ n ih =>
    obtain ⟨k, v, d, hv, ho, leads, e, fewer, rank, now⟩ := c.reown_succ n (Nat.lt_of_lt_of_le n.succ_pos h)
    have hij : i ≠ j := by
      rintro rfl
      exact moved kept
    rw [e] at moved kept
    by_cases ei : i = k
    · subst ei
      obtain rfl := Option.some.inj (ha.symm.trans hv)
      exact leads j b hb hbo hij.symm
    · have ej : j ≠ k := by
        rintro rfl
        have hj := (now j).trans (if_pos rfl)
        rcases d.reown_voice p n (by omega) j with same | ⟨w, hw, hwo, -⟩
        · have owner := Option.some.inj (hb.symm.trans (kept.symm.trans (same.trans hj)))
          exact absurd (hbo.symm.trans (congrArg Note.owner owner)).symm (other_ne p)
        · obtain rfl := Option.some.inj (hj.symm.trans hw)
          exact absurd hwo (other_ne p)
      have hi := (now i).trans (if_neg ei)
      have hj := (now j).trans (if_neg ej)
      exact rank ▸ ih d (by omega) (hi.trans ha) (hj.trans hb) (hi ▸ moved) (hj ▸ kept)

/-- Re-owning leaves the other fields of the pool. -/
theorem reown_fields (p : Source) (n : Nat) :
    reown p n c = { c with pool := { c.pool with voices := (reown p n c).pool.voices } } := by
  induction n generalizing c with
  | zero => rfl
  | succ n ih =>
    rw [reown]
    split
    · rfl
    · split
      · rfl
      · exact ih _

end Controller

/-- R110 to R112: the answer to a VOICE_SPLIT that changes something. -/
theorem voiceSplit_ok (c : Controller) (r pl ll : Nat) (low : 8 ≤ r) (high : r ≤ 56)
    (new : ¬ (r = c.pool.liveReserve ∧ (pl != 0) = c.pool.playbackLends ∧ (ll != 0) = c.pool.liveLends)) :
    let fell : Source := if r < c.pool.liveReserve then .live else .playback
    let c1 := { c with pool := { c.pool with liveReserve := r } }
    let c2 := Controller.reown fell (c1.excess fell) c1
    let c3 := { c2 with pool := { c2.pool with playbackLends := pl != 0, liveLends := ll != 0 } }
    voiceSplit r pl ll c = (c3, { code := .ok, fields := splitFields c3 (c1.excess fell) }) := by
  intro fell c1 c2 c3
  unfold voiceSplit
  dsimp only
  rw [if_neg (by omega), if_neg new]

/-- Settles O40: the voices that re-owning moves lead those it leaves, and it moves exactly the excess. -/
theorem voiceSplitReowns : Obligations.VoiceSplitReowns := by
  intro tag r pl ll s sv _ ok c fields same replies att age
  have answers : ∀ {c' code n}, voiceSplit r pl ll c = (c', { code := code, fields := splitFields c' n }) →
      replies c' code (fields c' n) := fun {c' code n} h => .of_rule rfl sv
    (h.trans (by simp only [splitFields, usedFields, List.append_assoc, fields, Controller.lends])) rfl rfl
  refine ⟨fun out => answers ?refused, fun low high eq => answers ?already, ?ok⟩
  case refused => exact if_pos out
  case already => exact (if_neg (by omega)).trans (if_pos eq)
  intro low high new fell
  have okc : c.PoolOk := ok.of_pool_eq s.ctl.closeWindow_pool
  have rule := voiceSplit_ok c r pl ll low high new
  extract_lets _ c1 c2 _ c3 at rule
  have enough : c1.excess fell ≤ c1.used fell := Nat.sub_le _ _
  obtain ⟨lost, gained, reserve, -⟩ := c1.reown_spec fell (c1.excess fell) enough
  have fields2 : c2 = _ := c1.reown_fields fell (c1.excess fell)
  have reserved : ∀ p, c3.reserve p = c1.reserve p := by
    rintro (_ | _)
    · exact reserve
    · exact congrArg (64 - ·) reserve
  have other : c.reserve fell.other ≤ c1.reserve fell.other := by
    by_cases h : r < c.pool.liveReserve
    · simp only [fell, h, if_true, Source.other, Controller.reserve, c1]
      omega
    · simp only [fell, h, if_false, Source.other, Controller.reserve, c1]
      omega
  have pooled : c2.PoolOk := c.reown_excess_poolOk okc low high rfl other
  have framed : Controller.Frame [.pool] c c3 :=
    ((c.pool_frame _).trans (c1.reown_frame fell _)).trans (c2.pool_frame _)
  refine ⟨c3, c1.excess fell, answers rule, framed, ?pool, reserved .live, reserved .playback, rfl, rfl,
    by rw [reserved]; rfl, lost, gained, ?others, c1.reown_voice fell _ enough, fun i j a b ha hb _ hbo moved kept => ?order⟩
  case pool => exact ⟨pooled.least, pooled.greatest, fun p => by cases p <;> exact pooled.room _, pooled.distinct⟩
  case others =>
    have kept := congrArg
      (fun c : Controller => (c.pool.tone, c.pool.pendingTone, c.pool.layer, c.pool.damperLimit, c.pool.decay)) fields2
    exact kept
  case order =>
    have led := c1.reown_leads fell _ enough ha hb hbo moved kept
    simp only [Leads, Controller.reownRank, Nat.lt_irrefl, true_and, false_or] at led
    exact led

/-! ### The voice a strike takes (R113 to R117) -/

namespace Controller

variable (c : Controller)

/-- The voices that are not FREE are those the two partitions own. -/
theorem used_add_used : c.used .live + c.used .playback = c.pool.voices.countP Option.isSome := by
  rw [used_eq_countP, used_eq_countP]
  induction c.pool.voices with
  | nil => rfl
  | cons v vs ih =>
    simp only [List.countP_cons, ← ih]
    rcases v with _ | n
    · simp [ownerOf]
    · rcases h : n.owner <;> simp [ownerOf, h] <;> omega

/-- R110: the two reserves are the whole pool. -/
theorem reserve_add_reserve (ok : c.PoolOk) (p : Source) : c.reserve p + c.reserve p.other = 64 := by
  have := ok.greatest
  cases p <;> simp only [reserve, Source.other] <;> omega

/-- R116: where a partition has room, a voice is FREE, and none below the one found is. -/
theorem exists_freeVoice (size : c.pool.voices.length = 64) (ok : c.PoolOk) {p : Source} (room : c.used p < c.reserve p) :
    ∃ i, c.freeVoice = some i ∧ c.voice i = none ∧ i < c.pool.voices.length ∧ ∀ j, j < i → c.voice j ≠ none := by
  have all := c.used_add_used
  have sum := c.reserve_add_reserve ok p
  have others := ok.room p.other
  have fewer : c.pool.voices.countP Option.isSome < c.pool.voices.length := by
    cases p <;> simp only [Source.other] at sum others <;> omega
  cases h : c.freeVoice with
  | none =>
    have busy := List.findIdx?_eq_none_iff.1 h
    exact absurd (List.countP_eq_length.2 fun v hv => by simpa using busy v hv) fewer.ne
  | some i =>
    obtain ⟨hi, free⟩ := c.freeVoice_eq_some h
    obtain ⟨_, -, below⟩ := List.findIdx?_eq_some_iff_getElem.1 h
    refine ⟨i, rfl, free, hi, fun j hj none => below j hj ?_⟩
    rw [c.voice_eq_getElem (hj.trans hi)] at none
    simp [none]

/-- A note begun in voice i: that voice holds it, and no other changes. -/
def Begun (c' : Controller) (i : Nat) (n : Note) : Prop := c'.voice i = some n ∧ ∀ j, j ≠ i → c'.voice j = c.voice j

theorem begin_begun {i : Nat} (hi : i < c.pool.voices.length) (src owner : Source) (key level : Nat) :
    c.Begun (c.begin i src owner key level) i (c.newNote src owner key level) :=
  ⟨(c.setVoice_voice_eq hi _ i).trans (if_pos rfl), fun j hj => (c.setVoice_voice_eq hi _ j).trans (if_neg hj)⟩

/-- No voice has the source and key of a strike. -/
def Unsounded (src : Source) (key : Nat) : Prop := ∀ j, ¬ ∃ n, c.voice j = some n ∧ n.source = src ∧ n.key = key

/-- R115: a strike of a source and key that sound restarts their voice, its owner kept. -/
theorem poolStrike_again (ok : c.PoolOk) {src : Source} {key i : Nat} {old : Note} (level : Nat) (h : c.voice i = some old)
    (hs : old.source = src) (hk : old.key = key) : c.poolStrike src key level = c.begin i src old.owner key level := by
  unfold poolStrike
  cases found : c.findVoice src key with
  | none => exact (c.findVoice_eq_none found h hs hk).elim
  | some j =>
    obtain ⟨n, hn, ns, nk⟩ := c.findVoice_eq_some found
    obtain rfl := ok.distinct i j old n h hn (hs.trans ns.symm) (hk.trans nk.symm)
    obtain rfl := Option.some.inj (h.symm.trans hn)
    dsimp only
    rw [h]

/-- R113: any other strike is allocated a voice. -/
theorem poolStrike_new {src : Source} {key : Nat} (new : c.Unsounded src key) (level : Nat) :
    c.poolStrike src key level = c.allocate src key level := by
  unfold poolStrike
  cases found : c.findVoice src key with
  | none => rfl
  | some j => exact absurd (c.findVoice_eq_some found) (new j)

theorem allocate_own {src : Source} {key level i : Nat} (room : c.used src < c.reserve src) (free : c.freeVoice = some i) :
    c.allocate src key level = c.begin i src src key level := by
  rw [allocate, if_pos room, free]

theorem allocate_borrowed {src : Source} {key level i : Nat} (full : ¬ c.used src < c.reserve src)
    (borrow : c.lends src.other = true ∧ c.used src.other < c.reserve src.other) (free : c.freeVoice = some i) :
    c.allocate src key level = c.begin i src src.other key level := by
  rw [allocate, if_neg full, if_pos borrow, free]

/-- R117: the theft of a voice, of the own partition, that leads all others of it. -/
theorem allocate_stolen (ok : c.PoolOk) {src : Source} {key : Nat} (level : Nat) (full : ¬ c.used src < c.reserve src)
    (keeps : ¬ (c.lends src.other = true ∧ c.used src.other < c.reserve src.other)) :
    ∃ i old, c.voice i = some old ∧ old.owner = src ∧
      (∀ j b, c.voice j = some b → b.owner = src → j ≠ i → Leads (i, c.stealRank src old) (j, c.stealRank src b)) ∧
      c.allocate src key level =
        (c.report (.steal i old.source old.key (old.attenuation c.now) (old.owner != old.source) src key)).begin
          i src src key level := by
  have owns : 0 < c.used src := by
    have low := ok.least
    have high := ok.greatest
    cases src <;> simp only [reserve] at full <;> omega
  obtain ⟨x, hx⟩ := c.exists_ranked_of_used (rank := c.stealRank src) owns
  obtain ⟨old, hv, ho, -, leads⟩ := c.firstRanked_ranked hx
  refine ⟨x.1, old, hv, beq_iff_eq.1 ho, fun j b hb hbo => leads j b hb (beq_iff_eq.2 hbo), ?_⟩
  have choice : c.stealChoice src = some x.1 := by rw [stealChoice, hx, Option.map_some]
  rw [allocate, if_neg full, if_neg keeps, choice]
  dsimp only
  rw [steal, hv]

end Controller

/-- Settles O42: the four ways a strike takes a voice, and what each leaves. -/
theorem strikeTakesOneVoice : Obligations.StrikeTakesOneVoice := by
  intro c src key level sized ok c' mine band att age room borrow
  refine ⟨c.poolStrike_frame src key level, c.poolStrike_poolOk src key level ok, ?_⟩
  by_cases sounds : ∃ i, mine i
  · obtain ⟨i, old, hv, hs, hk⟩ := sounds
    have taken : c' = c.begin i src old.owner key level := c.poolStrike_again ok level hv hs hk
    obtain ⟨voice, others⟩ := c.begin_begun (c.lt_of_voice hv) src old.owner key level
    have unique : ∀ j, mine j → i = j := fun j ⟨n, hn, ns, nk⟩ =>
      ok.distinct i j old n hv hn (hs.trans ns.symm) (hk.trans nk.symm)
    exact ⟨i, _, taken ▸ voice, fun j hj => taken ▸ others j hj, rfl, rfl, rfl, rfl, rfl, rfl, rfl, rfl, rfl, rfl,
      fun j hj => ⟨unique j hj, fun b hb => by rw [← unique j hj, hv] at hb; exact Option.some.inj hb ▸ rfl⟩,
      fun new => absurd ⟨old, hv, hs, hk⟩ (new i), fun new => absurd ⟨old, hv, hs, hk⟩ (new i),
      fun new => absurd ⟨old, hv, hs, hk⟩ (new i)⟩
  have new : c.Unsounded src key := fun j hj => sounds ⟨j, hj⟩
  have strikes : c' = c.allocate src key level := c.poolStrike_new new level
  by_cases own : room
  · obtain ⟨i, found, free, hi, below⟩ := c.exists_freeVoice sized.voices ok own
    have taken := strikes.trans (c.allocate_own own found)
    obtain ⟨voice, others⟩ := c.begin_begun hi src src key level
    exact ⟨i, _, taken ▸ voice, fun j hj => taken ▸ others j hj, rfl, rfl, rfl, rfl, rfl, rfl, rfl, rfl, rfl, rfl,
      fun j hj => absurd hj (new j), fun _ _ => ⟨free, rfl, below⟩, fun _ full => absurd own full,
      fun _ full => absurd own full⟩
  by_cases lent : borrow
  · obtain ⟨i, found, free, hi, below⟩ := c.exists_freeVoice sized.voices ok lent.2
    have taken := strikes.trans (c.allocate_borrowed own lent found)
    obtain ⟨voice, others⟩ := c.begin_begun hi src src.other key level
    exact ⟨i, _, taken ▸ voice, fun j hj => taken ▸ others j hj, rfl, rfl, rfl, rfl, rfl, rfl, rfl, rfl, rfl, rfl,
      fun j hj => absurd hj (new j), fun _ room => absurd room own, fun _ _ _ => ⟨free, rfl, below⟩,
      fun _ _ keeps => absurd lent keeps⟩
  · obtain ⟨i, old, hv, ho, leads, stolen⟩ := c.allocate_stolen ok (key := key) level own lent
    have taken := strikes.trans stolen
    obtain ⟨voice, others⟩ := Controller.begin_begun (c.report _) (c.lt_of_voice hv) src src key level
    refine ⟨i, _, taken ▸ voice, fun j hj => taken ▸ others j hj, rfl, rfl, rfl, rfl, rfl, rfl, rfl, rfl, rfl, rfl,
      fun j hj => absurd hj (new j), fun _ room => absurd room own, fun _ _ lent' => absurd lent' lent,
      fun _ _ _ => ⟨rfl, old, hv, ho, leads, fun enabled queueRoom => ?_⟩⟩
    rw [taken]
    show _ ∈ (c.report _).link.queue
    exact Controller.report_queued enabled queueRoom

end Sys2Proof.Machine
end

section
/-! The reply to each frame (R200), and what a change of every voice does (R109, R121, R123, R125). -/

namespace Sys2Proof.Machine

/-! ### One reply to each frame -/

/-- The queues of the Link and the line, with one more reply of a tag. -/
def Link.Answered (a b : Link) (tag : Byte) : Prop :=
  ∃ r : Reply, r.tag = tag ∧ b.replies = a.replies ++ [r] ∧ b.input = a.input ∧ b.busy = a.busy ∧ b.line = a.line

namespace Controller

variable (c : Controller)

theorem pushReply_answered {b : Controller} (same : b.link.lines = c.link.lines) (kind tag : Byte) (a : Answer) :
    c.link.Answered (b.pushReply kind tag a).link tag := by
  simp only [Link.lines, Prod.mk.injEq] at same
  obtain ⟨replies, input, busy, line⟩ := same
  exact ⟨_, rfl, congrArg (· ++ _) replies, input, busy, line⟩

/-- R200: a request leaves one reply more, with its tag. -/
theorem handle_answered_once (kind tag : Byte) (shown : Shown) {h : Handler} (hk : h.Keeps) :
    c.link.Answered (c.handle kind tag shown h).link tag := by
  unfold handle
  extract_lets c1 r
  have closed : Keeps [] c c1 := .ite (.refl _ _) c.closeWindow_keeps
  split
  · exact c.pushReply_answered (closed.lines_eq (by simp)) _ _ _
  · exact c.pushReply_answered ((closed.trans (hk c1)).lines_eq (by simp)) _ _ _

theorem refuseLength_answered (kind tag : Byte) (shown : Shown) :
    c.link.Answered (c.refuseLength kind tag shown).link tag := by
  unfold refuseLength
  extract_lets c1
  have closed : Keeps [] c c1 := .ite (.refl _ _) c.closeWindow_keeps
  exact c.pushReply_answered (closed.lines_eq (by simp)) _ _ _

theorem handleFrame_answered (f : RxFrame) : c.link.Answered (c.handleFrame f).link f.tag := by
  unfold handleFrame
  split
  · exact c.pushReply_answered rfl _ _ _
  · split
    · exact c.pushReply_answered rfl _ _ _
    · exact c.refuseLength_answered _ _ _
    · next known => exact c.handle_answered_once _ _ _ (requestOf_keeps known)

end Controller

/-- Settles O13: no rule touches what waits for the line, and each answer adds one reply. -/
theorem eachFrameIsAnsweredOnce : Obligations.EachFrameIsAnsweredOnce := by
  intro f fs s run input free due
  obtain ⟨r, tag, replies, rest, busy, line⟩ :=
    { s.ctl with link := { s.ctl.link with input := fs } }.handleFrame_answered f
  have none : s.ctl.link.replies = [] := by simpa using (Bool.or_eq_false_iff.1 free).1
  refine ⟨_, r, exec_dispatchFrame run, rfl, ?_⟩
  show s.ctl.dispatchFrame.link.replies = _ ∧ _ ∧ s.ctl.dispatchFrame.link.input = _ ∧
    s.ctl.dispatchFrame.link.busy = _ ∧ s.ctl.dispatchFrame.link.line = _
  rw [Controller.dispatchFrame_eq input free due]
  exact ⟨replies.trans (by rw [none]; rfl), tag, rest, busy, line⟩

/-! ### Changing every voice (R109, R121, R123, R125) -/

/-- R121: a retuned voice has the rate it was given, and keeps the rest of its note. -/
theorem Note.retune_rate {n m : Note} {t : Time} {cls : RateClass} {rate : Nat} (h : n.retune t cls rate = some m) :
    m.rateClass = cls ∧ m.rate = rate ∧ m.fading = n.fading := by
  unfold Note.retune at h
  split at h
  · next e =>
    obtain rfl := Option.some.inj h
    exact ⟨rfl, e.symm, rfl⟩
  · dsimp only at h
    split at h
    · cases h
    · obtain rfl := Option.some.inj h
      exact ⟨rfl, rfl, rfl⟩

namespace Controller

variable (c : Controller)

theorem poolEmpty_iff : c.poolEmpty = true ↔ ∀ v ∈ c.pool.voices, v = none := by simp [poolEmpty]

/-- R125: without a pending tone there is nothing to apply. -/
theorem toneCheck_of_none (h : c.pool.pendingTone = none) : c.toneCheck = c := by rw [toneCheck, h]

/-- R125: a pending tone waits for the pool to be empty. -/
theorem toneCheck_of_busy (h : c.poolEmpty = false) : c.toneCheck = c := by
  unfold toneCheck
  split
  · rw [if_neg (by simp [h])]
  · rfl

/-- R125: a pending tone is applied in an empty pool, and reported. -/
theorem toneCheck_applied {t : Nat} (h : c.pool.pendingTone = some t) (empty : c.poolEmpty = true) :
    c.toneCheck = { c with pool := { c.pool with tone := t, pendingTone := none } }.report (.toneApplied t) := by
  rw [toneCheck, h]
  exact if_pos empty

/-- R125: applying a pending tone changes the tones alone. -/
theorem toneCheck_pool : ∃ tone pending, c.toneCheck.pool = { c.pool with tone := tone, pendingTone := pending } := by
  unfold toneCheck
  split
  · split
    · exact ⟨_, _, rfl⟩
    · exact ⟨_, _, rfl⟩
  · exact ⟨_, _, rfl⟩

@[simp] theorem toneCheck_voice (i : Nat) : c.toneCheck.voice i = c.voice i := by
  obtain ⟨_, _, h⟩ := c.toneCheck_pool
  simp only [voice, h]

theorem toneCheck_decay : c.toneCheck.pool.decay = c.pool.decay ∧ c.toneCheck.pool.damperLimit = c.pool.damperLimit := by
  obtain ⟨_, _, h⟩ := c.toneCheck_pool
  simp only [h, and_self]

@[simp] theorem mapVoices_voice (f : Note → Option Note) (i : Nat) : (c.mapVoices f).voice i = (c.voice i).bind f := by
  rw [mapVoices, toneCheck_voice]
  simp only [voice, List.getElem?_map]
  cases c.pool.voices[i]? <;> rfl

theorem mapVoices_decay (f : Note → Option Note) :
    (c.mapVoices f).pool.decay = c.pool.decay ∧ (c.mapVoices f).pool.damperLimit = c.pool.damperLimit :=
  toneCheck_decay _

/-- R118 to R121: what the rate of a voice depends on. -/
theorem rateFor_congr {a b : Controller} (decay : b.pool.decay = a.pool.decay)
    (limit : b.pool.damperLimit = a.pool.damperLimit) (keys : b.keys = a.keys) (pedals : b.pedals = a.pedals)
    (player : b.player = a.player) : b.rateFor = a.rateFor := by
  have state : b.playerState = a.playerState := by simp only [playerState, player]
  have entry : b.decayEntry = a.decayEntry := funext fun k => by simp only [decayEntry, decay]
  have up : b.damperUp = a.damperUp := funext₂ fun src k => by cases src <;> simp only [damperUp, key, keys, player]
  have held : b.inSostenuto = a.inSostenuto := funext₂ fun src k => by
    cases src <;> simp only [inSostenuto, pedals, player]
  have value : b.damperValue = a.damperValue := funext fun src => by
    cases src <;> simp only [damperValue, pedal, pedals, player]
  funext src k
  simp only [rateFor, state, entry, up, held, value, limit]

/-- R121: every SOUNDING voice that a change selects is on its rate. -/
theorem reevaluate_rate {p : Note → Bool} {i : Nat} {n : Note} (h : (c.reevaluate p).voice i = some n)
    (sounding : n.fading = false) (selected : ∀ m, m.source = n.source → m.key = n.key → p m = true) :
    (n.rateClass, n.rate) = c.rateFor n.source n.key := by
  rw [reevaluate, mapVoices_voice] at h
  obtain ⟨m, -, hm⟩ := Option.bind_eq_some_iff.1 h
  split at hm
  · obtain ⟨-, source, key⟩ := Note.retune_same hm
    obtain ⟨cls, rate, -⟩ := Note.retune_rate hm
    rw [cls, rate, source, key]
  · next skipped =>
    obtain rfl := Option.some.inj hm
    exact absurd (by simp [sounding, selected m rfl rfl]) skipped

/-- R121: a re-evaluation moves no rate. -/
theorem reevaluate_rateFor (p : Note → Bool) : (c.reevaluate p).rateFor = c.rateFor :=
  have f := c.reevaluate_frame p
  rateFor_congr (c.mapVoices_decay _).1 (c.mapVoices_decay _).2 (f.keys (by simp)) (f.pedals (by simp)) (f.player (by simp))

end Controller

/-- R123: what the fade of a voice leaves of it. -/
theorem Note.fade_eq (n : Note) (t : Time) : n.fade t =
    if n.fading then some n
    else if n.rate = 19200 then some { n with fading := true, rateClass := .fade }
    else if 960 ≤ n.attenuation t then none
    else some { n with
      fading := true, rateClass := .fade, rate := 19200, aRef := n.attenuation t, tRef := t
      deadline := endDeadline (n.attenuation t) t 19200 } := by
  unfold Note.fade Note.retune
  by_cases fading : n.fading = true
  · simp [fading]
  by_cases rate : n.rate = 19200
  · simp [fading, rate, fadeRate]
  by_cases silent : 960 ≤ n.attenuation t
  · simp [fading, rate, Ne.symm rate, silent, fadeRate, silence]
  · simp [fading, rate, Ne.symm rate, silent, fadeRate, silence]

/-! ### TONE (R123 to R125) -/

theorem toneFields_eq (c : Controller) : toneFields c = codeByte c.pool.tone ++ optLE 1 c.pool.pendingTone := rfl

/-- R125: without a pending tone a change of every voice touches the pool alone. -/
theorem Controller.mapVoices_of_none {c : Controller} (h : c.pool.pendingTone = none) (f : Note → Option Note) :
    c.mapVoices f = { c with pool := { c.pool with voices := c.pool.voices.map fun v => Option.bind v f } } :=
  Controller.toneCheck_of_none _ h

section ToneRules

variable {c : Controller} {t mode : Nat}

/-- The answer of TONE: a code, and the tones as they then are. -/
def toned (code : ResultCode) (c : Controller) : Controller × Answer := (c, { code := code, fields := toneFields c })

theorem toneRequest_bad (bad : 3 < t ∨ 1 < mode) : toneRequest t mode c = toned .badValue c := by
  simp [toneRequest, toned, bad]

theorem toneRequest_same (known : t ≤ 3) (md : mode ≤ 1) (same : t = c.pool.tone) (h : c.pool.pendingTone = none) :
    toneRequest t mode c = toned .already c := by
  subst same
  simp [toneRequest, toned, Nat.not_lt.2 known, Nat.not_lt.2 md, h]

theorem toneRequest_cancel (known : t ≤ 3) (md : mode ≤ 1) (same : t = c.pool.tone) (h : c.pool.pendingTone ≠ none) :
    toneRequest t mode c = toned .ok { c with pool := { c.pool with pendingTone := none } } := by
  obtain ⟨p, hp⟩ := Option.ne_none_iff_exists'.1 h
  subst same
  simp [toneRequest, toned, Nat.not_lt.2 known, Nat.not_lt.2 md, hp]

theorem toneRequest_pending (known : t ≤ 3) (new : t ≠ c.pool.tone) (h : c.pool.pendingTone = some t) :
    toneRequest t 1 c = toned .already c := by
  simp [toneRequest, toned, Nat.not_lt.2 known, new, h]

theorem toneRequest_atRest (known : t ≤ 3) (new : t ≠ c.pool.tone) (h : c.pool.pendingTone ≠ some t)
    (empty : c.poolEmpty = true) : toneRequest t 1 c = toned .ok { c with pool := { c.pool with tone := t } } := by
  simp [toneRequest, toned, Nat.not_lt.2 known, new, h, empty]

theorem toneRequest_accepted (known : t ≤ 3) (new : t ≠ c.pool.tone) (h : c.pool.pendingTone ≠ some t)
    (busy : c.poolEmpty = false) :
    toneRequest t 1 c = toned .accepted { c with pool := { c.pool with pendingTone := some t } } := by
  simp [toneRequest, toned, Nat.not_lt.2 known, new, h, busy]

/-- R123: a tone that applies at once sets every voice fading at its own attenuation. -/
theorem toneRequest_immediate (known : t ≤ 3) (new : t ≠ c.pool.tone) : toneRequest t 0 c =
    toned .ok ({ c with pool := { c.pool with tone := t, pendingTone := none } }.mapVoices fun n => n.fade c.now) := by
  simp [toneRequest, toned, Nat.not_lt.2 known, new, Controller.fadeVoices]
  exact ⟨rfl, rfl⟩

end ToneRules

/-! ### DECAY_LOAD (R127) -/

section DecayRules

variable {c : Controller} {es : List Nat} {limit : Nat}

/-- R127: the lowest key whose entry fails. -/
theorem badEntry_eq_some {k : Nat} (first : 1 ≤ k) (last : k ≤ es.length)
    (fails : es.getD (k - 1) 0 < 1 ∨ 2000 < es.getD (k - 1) 0)
    (lowest : ∀ j, 1 ≤ j → j < k → ¬ (es.getD (j - 1) 0 < 1 ∨ 2000 < es.getD (j - 1) 0)) : badEntry es = some k := by
  have hk : k - 1 < es.length := by omega
  have found : es.findIdx? (fun n => decide (n < 1 ∨ 2000 < n)) = some (k - 1) := by
    refine List.findIdx?_eq_some_iff_getElem.2 ⟨hk, by simpa [hk] using fails, fun j hj => ?_⟩
    have := lowest (j + 1) (by omega) (by omega)
    simpa [hj.trans hk] using this
  rw [badEntry, found, Option.map_some, Nat.sub_add_cancel first]

theorem badEntry_eq_none (good : ∀ k, 1 ≤ k → k ≤ es.length → ¬ (es.getD (k - 1) 0 < 1 ∨ 2000 < es.getD (k - 1) 0)) :
    badEntry es = none := by
  rw [badEntry, List.findIdx?_eq_none_iff.2, Option.map_none]
  intro x hx
  obtain ⟨i, hi, rfl⟩ := List.getElem_of_mem hx
  simpa [hi] using good (i + 1) (by omega) (by omega)

theorem decayLoad_badEntry {k : Nat} (h : badEntry es = some k) :
    decayLoad es limit c = (c, { code := .badValue, fields := codeByte k }) := by rw [decayLoad, h]

theorem decayLoad_badLimit (h : badEntry es = none) (bad : limit < 60 ∨ 88 < limit) :
    decayLoad es limit c = (c, { code := .badValue, fields := codeByte 0 }) := by
  rw [decayLoad, h]
  exact if_pos bad

theorem decayLoad_already (h : badEntry es = none) (low : 60 ≤ limit) (high : limit ≤ 88)
    (same : es = c.pool.decay ∧ limit = c.pool.damperLimit) : decayLoad es limit c = (c, bare .already) := by
  rw [decayLoad, h]
  exact (if_neg (by omega)).trans (if_pos same)

/-- R121, R127: a new table puts every SOUNDING voice on its rate. -/
theorem decayLoad_ok (h : badEntry es = none) (low : 60 ≤ limit) (high : limit ≤ 88)
    (new : ¬ (es = c.pool.decay ∧ limit = c.pool.damperLimit)) : decayLoad es limit c =
      ({ c with pool := { c.pool with decay := es, damperLimit := limit } }.reevaluate fun _ => true, bare .ok) := by
  rw [decayLoad, h]
  exact (if_neg (by omega)).trans (if_neg new)

end DecayRules

/-! ### The end of a voice (R109, R125) -/

namespace Controller

variable {c : Controller} {i : Nat} {n : Note} {d : Time}

/-- R109: a voice at its end deadline becomes FREE. -/
theorem voiceEnd_eq (running : c.clock.suspended = false) (h : c.voice i = some n) (deadline : n.deadline = some d)
    (due : (c.now - d).toNat < 2147483648) : c.voiceEnd i = (c.setVoice i none).toneCheck := by
  have expired : c.expired n.deadline = true := by
    rw [deadline, expired, running]
    exact decide_eq_true due
  rw [voiceEnd, h]
  exact if_pos expired

/-- The pool is empty without a voice where every other is FREE. -/
theorem setVoice_empty (h : c.voice i = some n) :
    (c.setVoice i none).poolEmpty = true ↔ ∀ j m, c.voice j = some m → j = i := by
  rw [poolEmpty_iff]
  have hv := c.setVoice_voice_eq (c.lt_of_voice h) none
  constructor
  · intro empty j m hm
    by_contra ne
    have hj := (hv j).trans (if_neg ne)
    have hj := hj.trans hm
    rw [voice_eq_getElem _ (lt_of_voice _ hj), empty _ (List.getElem_mem _)] at hj
    cases hj
  · intro last v hm
    obtain ⟨j, hj, rfl⟩ := List.getElem_of_mem hm
    rw [← voice_eq_getElem _ hj, hv]
    split
    · rfl
    · next ne =>
      rw [← Option.not_isSome_iff_eq_none, Option.isSome_iff_exists]
      exact fun ⟨m, hm⟩ => ne (last j m hm)

end Controller

/-- R119: the rate of a voice, by the lines of the table. -/
theorem Controller.rateFor_eq (c : Controller) (src : Source) (k : Nat) :
    let own := c.decayEntry k
    let p := if src = .live then (c.pedal 0).value else c.player.damper
    let raised := if src = .live then (c.key k).state ∈ [KeyState.held, .armed, .struck] else k ∈ c.player.keyDown
    let kept := if src = .live then k ∈ c.pedals.sostenuto else k ∈ c.player.held
    c.rateFor src k =
      (if src = .playback ∧ c.playerState = .paused then (RateClass.frozen, 0)
       else if c.pool.damperLimit < k ∨ raised ∨ kept ∨ 192 ≤ p then (.natural, own)
       else if 64 ≤ p then (.part, 8000 - (8000 - own) * (p - 64) / 128)
       else (.damped, 8000)) := by
  intro own p raised kept
  have up : c.damperUp src k = true ↔ raised := by
    cases src
    · show (c.key k).state.up = true ↔ (c.key k).state ∈ _
      cases (c.key k).state <;> simp [KeyState.up]
    · simp [Controller.damperUp, raised]
  have held : c.inSostenuto src k = true ↔ kept := by
    cases src <;> simp [Controller.inSostenuto, kept]
  have value : c.damperValue src = p := by cases src <;> rfl
  unfold Controller.rateFor
  split
  · rfl
  by_cases beyond : c.pool.damperLimit < k
  · simp [beyond, own]
  by_cases free : raised ∨ kept
  · have : raised ∨ kept ∨ 192 ≤ p := by tauto
    simp [beyond, up, held, free, this, own]
  · have line : (c.pool.damperLimit < k ∨ raised ∨ kept ∨ 192 ≤ p) ↔ 192 ≤ p := by tauto
    rw [if_neg beyond, if_neg (by simpa [up, held] using free), value, zoneOf, if_congr line rfl rfl]
    by_cases down : p < 64
    · simp [down, Nat.not_le.2 down, Nat.not_le.2 (down.trans (by decide : 64 < 192)), dampedRate]
    · by_cases half : p < 192
      · simp [down, half, Nat.not_le.2 half, Nat.not_lt.1 down, partRate, dampedRate, own]
      · simp [down, half, Nat.not_lt.1 half, own]

/-- Settles O41: the rules of TONE and DECAY_LOAD case by case, and the end of a voice. -/
theorem tonesDecayAndVoiceEnds : Obligations.TonesDecayAndVoiceEnds := by
  refine ⟨?tone, ?decay, ?ends⟩
  case tone =>
    intro tag t mode s sv c fields replies cur pend empty
    have answers : ∀ {c' code}, toneRequest t mode c = toned code c' →
        replies c' code (fields c'.pool.tone c'.pool.pendingTone) := fun h => .of_rule rfl sv h rfl rfl
    have isEmpty : c.poolEmpty = true ↔ empty := c.poolEmpty_iff
    refine ⟨fun bad => answers (toneRequest_bad bad), fun known md same h => h ▸ answers (toneRequest_same known md same h),
      fun known md same h => answers (toneRequest_cancel known md same h),
      fun known md new h => answers (md ▸ toneRequest_pending known new h), ?atRest,
      fun known md new h e =>
        answers (md ▸ toneRequest_accepted known new h (Bool.eq_false_iff.2 fun b => e (isEmpty.1 b))), ?immediate⟩
    case atRest =>
      intro known md new h e
      have rule := toneRequest_atRest known new h (isEmpty.2 e)
      exact ⟨{ c with pool := { c.pool with tone := t } }, answers (md ▸ rule), c.pool_frame _, rfl, rfl⟩
    case immediate =>
      intro known md new
      subst md
      have rule := toneRequest_immediate known new
      have silent := Controller.mapVoices_of_none (c := { c with pool := { c.pool with tone := t, pendingTone := none } })
        rfl fun n => n.fade c.now
      refine ⟨_, answers rule, ?_, ?_, ?_, fun i => ?_⟩
      · rw [silent]
        exact c.pool_frame _
      · rw [silent]
      · rw [silent]
      · rw [Controller.mapVoices_voice]
        show (c.voice i).bind _ = _
        cases c.voice i with
        | none => rfl
        | some n => exact n.fade_eq c.now
  case decay =>
    intro tag es limit s sv c replies fails
    have answers (size : es.length = 88) : ∀ {c' code fields}, decayLoad es limit c = (c', { code := code, fields := fields }) →
        replies c' code fields := fun h => .of_rule (if_pos size) sv h rfl rfl
    refine ⟨fun size => ?short, fun k size first last fails lowest =>
      answers size (decayLoad_badEntry (badEntry_eq_some first (size ▸ last) fails lowest)), fun size good => ?_⟩
    case short => exact .of_badLength (if_neg size) sv.1 rfl rfl rfl
    have good : badEntry es = none := badEntry_eq_none (size ▸ good)
    refine ⟨fun bad => answers size (decayLoad_badLimit good bad),
      fun low high entries l => answers size (decayLoad_already good low high ⟨entries, l⟩), fun low high new => ?_⟩
    let c1 := { c with pool := { c.pool with decay := es, damperLimit := limit } }
    obtain ⟨decay, damper⟩ := c1.mapVoices_decay _
    refine ⟨_, answers size (decayLoad_ok good low high new),
      ((c.pool_frame _).widen (by simp)).trans (c1.reevaluate_frame _), decay, damper, fun i n h sounding => ?_⟩
    exact (c1.reevaluate_rate h sounding fun _ _ _ => rfl).trans (c1.rateFor_eq n.source n.key)
  case ends =>
    intro i n d s run going hi h deadline due last
    have rule := Controller.voiceEnd_eq going h deadline due
    have voice := s.ctl.setVoice_voice_eq (s.ctl.lt_of_voice h) none
    have empty := Controller.setVoice_empty h
    refine ⟨s.ctl.voiceEnd i, .of_run (if_pos hi) run rfl, s.ctl.voiceEnd_frame i, ?_⟩
    rw [rule]
    refine ⟨by rw [Controller.toneCheck_voice, voice, if_pos rfl],
      fun j hj => by rw [Controller.toneCheck_voice, voice, if_neg hj], fun waits => ?_, fun t pending isLast => ?_⟩
    · have same : (s.ctl.setVoice i none).toneCheck = s.ctl.setVoice i none := by
        rcases waits with none | busy
        · exact Controller.toneCheck_of_none _ none
        · exact Controller.toneCheck_of_busy _ (Bool.eq_false_iff.2 fun e => busy (empty.1 e))
      rw [same]
      exact ⟨rfl, rfl⟩
    · rw [Controller.toneCheck_applied (s.ctl.setVoice i none) (by exact pending) (empty.2 isLast)]
      exact ⟨rfl, rfl, fun enabled room => Controller.report_queued (c := { s.ctl.setVoice i none with
        pool := { (s.ctl.setVoice i none).pool with tone := t, pendingTone := none } }) enabled room⟩

end Sys2Proof.Machine
end

section
/-! The Touch Unit's tables and the Take Store: CURVE_LOAD (R39), the transfer window and the records it takes (R145 to R156). -/

namespace Sys2Proof.Machine

/-! ### Codes of names (R212) -/

theorem curveOf_code (cv : Curve) : curveOf cv.code = some cv := by cases cv <;> rfl

theorem exists_curve {n : Nat} (h : n ≤ 1) : ∃ cv : Curve, cv.code = n := by
  match n with
  | 0 => exact ⟨.acoustic, rfl⟩
  | 1 => exact ⟨.silent, rfl⟩

theorem curveOf_unknown {n : Nat} (h : 1 < n) : curveOf n = none := by
  match n with
  | n + 2 => rfl

theorem slotOf_code (s : Slot) : slotOf s.code = some s := by cases s <;> rfl

theorem slotOf_unknown {n : Nat} (h : 1 < n) : slotOf n = none := by
  match n with
  | n + 2 => rfl

theorem windowModeOf_unknown {n : Nat} (h : 1 < n) : windowModeOf n = none := by
  match n with
  | n + 2 => rfl

/-! ### CURVE_LOAD (R39) -/

/-- R39: an entry of a table fails: it is above 127, or below the entry before it. -/
def EntryFails (before : Nat) (es : List Nat) (i : Nat) : Prop :=
  127 < es.getD i 0 ∨ es.getD i 0 < (before :: es).getD i 0

theorem badLevel_eq_some {before i j : Nat} {es : List Nat} (hj : j < es.length) (fails : EntryFails before es j)
    (lowest : ∀ k, k < j → ¬ EntryFails before es k) : badLevel before i es = some (i + j) := by
  induction es generalizing before i j with
  | nil => cases hj
  | cons e es ih =>
    cases j with
    | zero => exact if_pos fails
    | succ j =>
      have good : ¬ (127 < e ∨ e < before) := lowest 0 j.succ_pos
      rw [badLevel, if_neg good, ih (Nat.lt_of_succ_lt_succ hj) fails fun k hk => lowest (k + 1) (Nat.succ_lt_succ hk)]
      congr 1
      omega

theorem badLevel_eq_none {before i : Nat} {es : List Nat} (good : ∀ k, k < es.length → ¬ EntryFails before es k) :
    badLevel before i es = none := by
  induction es generalizing before i with
  | nil => rfl
  | cons e es ih =>
    have first : ¬ (127 < e ∨ e < before) := good 0 es.length.succ_pos
    rw [badLevel, if_neg first]
    exact ih fun k hk => good (k + 1) (Nat.succ_lt_succ hk)

/-- The first entry of a table follows nothing. -/
theorem entryFails_zero_iff (es : List Nat) (i : Nat) :
    EntryFails 0 es i ↔ 127 < es.getD i 0 ∨ ∃ j, i = j + 1 ∧ es.getD i 0 < es.getD j 0 := by
  cases i with
  | zero => simp [EntryFails]
  | succ i => simp [EntryFails]

namespace Controller

theorem setCurve_frame (c : Controller) (cv : Curve) (es : List Nat) : Frame [.curves] c (c.setCurve cv es) :=
  .of_same fun x => by cases x <;> cases cv <;> simp [Block.same, setCurve]

theorem setCurve_curve (c : Controller) (cv : Curve) (es : List Nat) : (c.setCurve cv es).curve cv = es := by
  cases cv <;> rfl

theorem setCurve_other (c : Controller) {cv other : Curve} (h : other ≠ cv) (es : List Nat) :
    (c.setCurve cv es).curve other = c.curve other := by
  cases cv <;> cases other
  · exact absurd rfl h
  · rfl
  · rfl
  · exact absurd rfl h

end Controller

/-- Settles O30: the table is judged entry by entry, and replaces the curve whole. -/
theorem curveLoadChecksItsTable : Obligations.CurveLoadChecksItsTable := by
  intro tag name es s sv c replies fails
  have judged : ∀ i, fails i ↔ EntryFails 0 es i := fun i => (entryFails_zero_iff es i).symm
  have answers (size : es.length = 25) : ∀ {c' code fields}, curveLoad name es c = (c', { code := code, fields := fields }) →
      replies c' code fields := fun h => .of_rule (if_pos size) sv h rfl rfl
  refine ⟨fun size => .of_badLength (if_neg size) sv.1 (curveShown_eq name c) rfl rfl, fun size unknown => ?name,
    fun i size known hi bad lowest => ?entry, fun cv size code good => ?good⟩
  case name => exact answers size (by rw [curveLoad, curveOf_unknown unknown]; rfl)
  case entry =>
    obtain ⟨cv, rfl⟩ := exists_curve known
    have found : badLevel 0 0 es = some i := by
      rw [badLevel_eq_some (size ▸ hi) ((judged i).1 bad) fun k hk h => lowest k hk ((judged k).2 h), Nat.zero_add]
    exact answers size (by rw [curveLoad, curveOf_code]; dsimp only; rw [found]; rfl)
  case good =>
    subst code
    have none : badLevel 0 0 es = none := badLevel_eq_none fun k hk h => good k (size ▸ hk) ((judged k).2 h)
    have rule : curveLoad cv.code es c = if es = c.curve cv
        then (c, { code := .already, fields := curveFields Option.none (some cv) })
        else (c.setCurve cv es, { code := .ok, fields := curveFields Option.none (some cv) }) := by
      rw [curveLoad, curveOf_code]
      dsimp only
      rw [none]
    exact ⟨fun same => answers size (rule.trans (if_pos same)),
      fun new => ⟨_, answers size (rule.trans (if_neg new)), c.setCurve_frame cv es, c.setCurve_curve cv es,
        fun other h => c.setCurve_other h es⟩⟩

/-! ### The records a TAKE_DATA stores (R145, R151, R152) -/

/-- R145: the subject and the value of a record lie in the ranges of its kind. -/
def KindOk (r : RawRecord) : Prop :=
  (r.kind = 1 ∧ 1 ≤ r.subject ∧ r.subject ≤ 88 ∧ 1 ≤ r.value ∧ r.value ≤ 127) ∨
  ((r.kind = 2 ∨ r.kind = 3) ∧ 1 ≤ r.subject ∧ r.subject ≤ 88 ∧ r.value = 0) ∨
  (r.kind = 4 ∧ r.subject ≤ 2 ∧ r.value ≤ 255) ∨ (r.kind = 5 ∧ r.subject ≤ 15 ∧ r.value = 0)

/-- R213: a stored record carries the fields received. -/
def Stored (r : RawRecord) (t : TakeRec) : Prop :=
  t.time = r.time ∧ t.kind.code = r.kind ∧ t.subject = r.subject ∧ t.value = r.value

/-- The first two checks of a record: its kind, and the ranges of its kind. -/
theorem kindOk_iff (r : RawRecord) :
    KindOk r ↔ ∃ k, recKindOf r.kind = some k ∧ subjectOk k r.subject = true ∧ valueOk k r.value = true := by
  unfold KindOk recKindOf
  split <;> rename_i h <;> simp_all [subjectOk, valueOk, and_assoc]

theorem recKindOf_code {n : Nat} {k : RecKind} (h : recKindOf n = some k) : k.code = n := by
  unfold recKindOf at h
  split at h <;> cases h <;> rfl

/-- R152: a record that passes every check is stored. -/
theorem checkRecord_ok {rs : List TakeRec} {r : RawRecord} (kind : KindOk r) (order : lastTime rs ≤ r.time)
    (room : rs.length < 16384) : ∃ t, checkRecord rs r = (.ok, some t) ∧ Stored r t := by
  obtain ⟨k, hk, hs, hv⟩ := (kindOk_iff r).1 kind
  exact ⟨{ time := r.time, kind := k, subject := r.subject, value := r.value },
    by simp [checkRecord, hk, hs, hv, Nat.not_lt.2 order, slotRoom, Nat.not_le.2 room],
    rfl, recKindOf_code hk, rfl, rfl⟩

/-- R152: the first check that fails gives the code. -/
theorem checkRecord_fails {rs : List TakeRec} {r : RawRecord}
    (fails : ¬ (KindOk r ∧ lastTime rs ≤ r.time ∧ rs.length < 16384)) : ∃ code, checkRecord rs r = (code, none) ∧
      (¬ KindOk r → code = .badValue) ∧ (KindOk r → r.time < lastTime rs → code = .order) ∧
      (KindOk r → ¬ r.time < lastTime rs → code = .full) := by
  by_cases kind : KindOk r
  · obtain ⟨k, hk, hs, hv⟩ := (kindOk_iff r).1 kind
    by_cases early : r.time < lastTime rs
    · exact ⟨.order, by simp [checkRecord, hk, hs, hv, early], fun h => absurd kind h, fun _ _ => rfl,
        fun _ h => absurd early h⟩
    · have full : slotRoom ≤ rs.length := by
        rw [slotRoom]
        by_contra room
        exact fails ⟨kind, Nat.not_lt.1 early, Nat.not_le.1 room⟩
      exact ⟨.full, by simp [checkRecord, hk, hs, hv, early, full], fun h => absurd kind h, fun _ h => absurd h early,
        fun _ _ => rfl⟩
  · refine ⟨.badValue, ?_, fun _ => rfl, fun h => absurd h kind, fun h => absurd h kind⟩
    unfold checkRecord
    cases hk : recKindOf r.kind with
    | none => rfl
    | some k =>
      by_cases hs : subjectOk k r.subject = true
      · have hv : valueOk k r.value = false := Bool.eq_false_iff.2 fun hv => kind ((kindOk_iff r).2 ⟨k, hk, hs, hv⟩)
        simp [hs, hv]
      · simp [hs]

theorem lastTime_eq (rs : List TakeRec) : lastTime rs = (rs.getLast?.map TakeRec.time).getD 0 := by
  unfold lastTime
  cases rs.getLast? <;> rfl

/-- The time of the record before index `i` of those received after the records `old`. -/
def timeBefore (old : List TakeRec) (rs : List RawRecord) (i : Nat) : Nat :=
  ((rs.take i).getLast?.map RawRecord.time).getD ((old.getLast?.map TakeRec.time).getD 0)

theorem timeBefore_zero (old : List TakeRec) (rs : List RawRecord) : timeBefore old rs 0 = lastTime old :=
  (lastTime_eq old).symm

/-- A record stored moves the times on by one. -/
theorem timeBefore_succ (old : List TakeRec) {r : RawRecord} {t : TakeRec} (h : Stored r t) (rs : List RawRecord) (i : Nat) :
    timeBefore old (r :: rs) (i + 1) = timeBefore (old ++ [t]) rs i := by
  simp only [timeBefore, List.take_succ_cons, List.getLast?_cons, List.getLast?_concat, Option.map_some, Option.getD_some]
  cases (rs.take i).getLast? with
  | none => exact h.1.symm
  | some x => rfl

/-- R152: record `i` of those received passes every check, those before it stored. -/
def Passes (old : List TakeRec) (rs : List RawRecord) (i : Nat) : Prop :=
  ∃ r, rs[i]? = some r ∧ KindOk r ∧ timeBefore old rs i ≤ r.time ∧ old.length + i < 16384

theorem passes_succ {old : List TakeRec} {r : RawRecord} {t : TakeRec} (h : Stored r t) {rs : List RawRecord} {i : Nat} :
    Passes old (r :: rs) (i + 1) ↔ Passes (old ++ [t]) rs i := by
  simp only [Passes, List.getElem?_cons_succ, timeBefore_succ old h, List.length_append, List.length_singleton,
    Nat.add_assoc, Nat.add_comm 1 i]

theorem passes_zero {old : List TakeRec} {r : RawRecord} {rs : List RawRecord} :
    Passes old (r :: rs) 0 ↔ KindOk r ∧ lastTime old ≤ r.time ∧ old.length < 16384 := by
  simp [Passes, timeBefore_zero]

/-- R151: past the window's last index every record is ignored. -/
theorem writeRecords_full {last : Nat} {w : Written} (full : last < w.records.length) (rs : List RawRecord) :
    writeRecords last rs w = { w with ignored := w.ignored + rs.length } := by
  induction rs generalizing w with
  | nil => rfl
  | cons r rs ih =>
    rw [writeRecords, if_pos full, ih (by exact full), List.length_cons, Nat.add_assoc, Nat.add_comm 1]

/-- R151: within the window a record that passes is stored. -/
theorem writeRecords_store {last : Nat} {w : Written} {r : RawRecord} {t : TakeRec} (room : ¬ last < w.records.length)
    (ok : checkRecord w.records r = (.ok, some t)) (rs : List RawRecord) : writeRecords last (r :: rs) w =
      writeRecords last rs { w with records := w.records ++ [t], stored := w.stored + 1 } := by
  rw [writeRecords, if_neg room, ok]

/-- R151: records that pass are stored up to the window's last index, and the rest ignored. -/
theorem writeRecords_ok {last n : Nat} {rs : List RawRecord} {old : List TakeRec} (a b : Nat)
    (admitted : n = min rs.length (last + 1 - old.length)) (passes : ∀ i, i < n → Passes old rs i) :
    ∃ ts, List.Forall₂ Stored (rs.take n) ts ∧
      writeRecords last rs { records := old, stored := a, ignored := b, failure := none } =
        { records := old ++ ts, stored := a + n, ignored := b + (rs.length - n), failure := none } := by
  induction rs generalizing old a n with
  | nil =>
    rw [List.length_nil, Nat.zero_min] at admitted
    exact ⟨[], by simp, by simp [writeRecords, admitted]⟩
  | cons r rs ih =>
    rw [List.length_cons] at admitted
    by_cases full : last < old.length
    · obtain rfl : n = 0 := by omega
      exact ⟨[], by simp, by rw [writeRecords_full full]; simp⟩
    · obtain ⟨m, rfl⟩ : ∃ m, n = m + 1 := ⟨n - 1, by omega⟩
      obtain ⟨kind, order, room⟩ := passes_zero.1 (passes 0 m.succ_pos)
      obtain ⟨t, ok, stored⟩ := checkRecord_ok kind order room
      obtain ⟨ts, all, h⟩ := ih (old := old ++ [t]) (n := m) (a + 1)
        (by rw [List.length_append, List.length_singleton]; omega)
        fun i hi => (passes_succ stored).1 (passes (i + 1) (Nat.succ_lt_succ hi))
      refine ⟨t :: ts, .cons stored all, ?_⟩
      rw [writeRecords_store full ok, h]
      simp [Nat.add_assoc, Nat.add_comm 1 m]

/-- R151, R152: the first record that fails ends the request, those before it stored. -/
theorem writeRecords_fails {last n : Nat} {rs : List RawRecord} {old : List TakeRec} (a b : Nat) {r : RawRecord}
    (admitted : n < min rs.length (last + 1 - old.length)) (hr : rs[n]? = some r)
    (passes : ∀ i, i < n → Passes old rs i) (fails : ¬ Passes old rs n) : ∃ ts code,
      List.Forall₂ Stored (rs.take n) ts ∧ writeRecords last rs { records := old, stored := a, ignored := b, failure := none } =
        { records := old ++ ts, stored := a + n, ignored := b, failure := some code } ∧
      (¬ KindOk r → code = .badValue) ∧ (KindOk r → r.time < timeBefore old rs n → code = .order) ∧
      (KindOk r → ¬ r.time < timeBefore old rs n → code = .full) := by
  induction rs generalizing old a n with
  | nil => cases hr
  | cons x rs ih =>
    rw [List.length_cons] at admitted
    have within : ¬ last < old.length := by omega
    cases n with
    | zero =>
      obtain rfl := Option.some.inj hr
      obtain ⟨code, failed, codes⟩ := checkRecord_fails (fun ok => fails (passes_zero.2 ok))
      refine ⟨[], code, .nil, ?_, timeBefore_zero old _ ▸ codes⟩
      rw [writeRecords, if_neg within, failed]
      simp
    | succ n =>
      obtain ⟨kind, order, room⟩ := passes_zero.1 (passes 0 n.succ_pos)
      obtain ⟨t, ok, stored⟩ := checkRecord_ok kind order room
      obtain ⟨ts, code, all, h, codes⟩ := ih (old := old ++ [t]) (a + 1)
        (by rw [List.length_append, List.length_singleton]; omega) hr
        (fun i hi => (passes_succ stored).1 (passes (i + 1) (Nat.succ_lt_succ hi)))
        fun ok => fails ((passes_succ stored).2 ok)
      refine ⟨t :: ts, code, .cons stored all, ?_, (timeBefore_succ old stored rs n).symm ▸ codes⟩
      rw [writeRecords_store within ok, h]
      simp [Nat.add_assoc, Nat.add_comm 1 n]

/-- The time of the last record stored is that of the record before the next. -/
theorem lastTime_stored {old : List TakeRec} {rs : List RawRecord} {n : Nat} {ts : List TakeRec}
    (h : List.Forall₂ Stored (rs.take n) ts) : lastTime (old ++ ts) = timeBefore old rs n := by
  have same : (rs.take n).map RawRecord.time = ts.map TakeRec.time := by
    generalize rs.take n = xs at h
    induction h with
    | nil => rfl
    | cons s _ ih => rw [List.map_cons, List.map_cons, ih, s.1]
  rw [lastTime_eq, timeBefore, List.getLast?_append, ← List.getLast?_map, same, List.getLast?_map]
  cases ts.getLast? <;> rfl

/-! ### The slots and the window (R146, R149) -/

namespace Controller

variable (c : Controller)

theorem setTake_other {s other : Slot} (h : other ≠ s) (t : Option Take) : (c.setTake s t).take other = c.take other := by
  cases s <;> cases other
  · exact absurd rfl h
  · rfl
  · rfl
  · exact absurd rfl h

@[simp] theorem setTake_window (s : Slot) (t : Option Take) : (c.setTake s t).takes.window = c.takes.window := by
  cases s <;> rfl

/-- The controller with another transfer window. -/
def withWindow (w : Option Window) : Controller := { c with takes := { c.takes with window := w } }

@[simp] theorem withWindow_take (w : Option Window) (s : Slot) : (c.withWindow w).take s = c.take s := by cases s <;> rfl

@[simp] theorem withWindow_window (w : Option Window) : (c.withWindow w).takes.window = w := rfl

theorem withWindow_frame (w : Option Window) : Frame [.takes] c (c.withWindow w) :=
  .of_same fun x => by cases x <;> simp [Block.same, withWindow]

/-- A slot's records and length are those of the take it holds. -/
theorem records_eq (s : Slot) : c.records s = ((c.take s).map Take.records).getD [] := by
  unfold records
  cases c.take s <;> rfl

theorem length_eq (s : Slot) : c.length s = ((c.take s).map Take.length).getD 0 := by
  unfold length
  cases c.take s <;> rfl

@[simp] theorem withWindow_count (w : Option Window) (s : Slot) : (c.withWindow w).count s = c.count s := by
  simp [count, records_eq]

/-- R149: a WRITE window that closes settles its slot. -/
theorem closeWindow_write {w : Window} (h : c.takes.window = some w) (write : w.mode = .write) : c.closeWindow =
    (c.withWindow none).setTake w.slot (settledTake .uploaded (c.records w.slot) (lastTime (c.records w.slot))) := by
  have same : (c.withWindow none).records w.slot = c.records w.slot := by simp [records_eq]
  rw [closeWindow, h]
  dsimp only
  rw [write]
  exact congrArg (fun rs => (c.withWindow none).setTake w.slot (settledTake .uploaded rs (lastTime rs))) same

end Controller

/-- R146: what a settled slot holds. -/
theorem settledTake_records (o : TakeOrigin) (rs : List TakeRec) (n : Nat) :
    ((settledTake o rs n).map Take.records).getD [] = rs := by
  cases rs <;> rfl

theorem settledTake_length (o : TakeOrigin) (rs : List TakeRec) :
    ((settledTake o rs (lastTime rs)).map Take.length).getD 0 = lastTime rs := by
  cases rs <;> rfl

theorem settledTake_isSome (o : TakeOrigin) (rs : List TakeRec) (n : Nat) :
    (settledTake o rs n).isSome = decide (0 < rs.length) := by
  cases rs <;> simp [settledTake]

theorem settledTake_origin {o : TakeOrigin} {rs : List TakeRec} {n : Nat} {t : Take} (h : settledTake o rs n = some t) :
    t.origin = o := by
  cases rs with
  | nil => cases h
  | cons r rs => exact Option.some.inj h ▸ rfl

/-! ### TAKE_WINDOW (R150) -/

section WindowRules

variable {c : Controller} {s : Slot} {mode first last : Nat}

theorem takeWindow_unknown {n : Nat} (h : 1 < n) :
    takeWindow n mode first last c = (c, { code := .badValue, fields := absent 3 }) := by
  rw [takeWindow, slotOf_unknown h, slotShown, slotOf_unknown h]

theorem takeWindow_bad (h : 1 < mode ∨ last < first) :
    takeWindow s.code mode first last c = (c, { code := .badValue, fields := slotFields c s }) := by
  rw [takeWindow, slotOf_code]
  dsimp only
  rcases h with unknown | order
  · rw [windowModeOf_unknown unknown]
  · cases windowModeOf mode with
    | none => rfl
    | some m => exact if_pos order

theorem takeWindow_recorder (known : mode ≤ 1) (order : first ≤ last) (user : c.recorderUses s = true) :
    takeWindow s.code mode first last c =
      (c, { code := .inUse, fields := Config.userCode .recorder :: slotFields c s }) := by
  match mode with
  | 0 | 1 => simp [takeWindow, slotOf_code, windowModeOf, Nat.not_lt.2 order, Controller.userOf, user]

theorem takeWindow_player (order : first ≤ last) (free : c.recorderUses s = false) (user : c.playerUses s = true) :
    takeWindow s.code 1 first last c =
      (c, { code := .inUse, fields := Config.userCode .player :: slotFields c s }) := by
  simp [takeWindow, slotOf_code, windowModeOf, Nat.not_lt.2 order, Controller.userOf, free, user]

theorem takeWindow_writePast (order : first ≤ last) (free : c.recorderUses s = false) (idle : c.playerUses s = false)
    (past : c.count s < first) :
    takeWindow s.code 1 first last c = (c, { code := .badValue, fields := slotFields c s }) := by
  simp [takeWindow, slotOf_code, windowModeOf, Nat.not_lt.2 order, Controller.userOf, free, idle, past]

/-- R150: a WRITE window truncates its slot at its first index. -/
theorem takeWindow_write (order : first ≤ last) (free : c.recorderUses s = false) (idle : c.playerUses s = false)
    (within : first ≤ c.count s) : takeWindow s.code 1 first last c =
      ((c.setTake s (some { origin := .uploaded, records := (c.records s).take first, length := 0 })).withWindow
        (some { slot := s, mode := .write, first := first, last := last, cursor := first }),
       { code := .ok, fields := codeByte s.code ++ codeByte WindowMode.write.code ++ bytesLE 2 first ++ bytesLE 2 last
          ++ bytesLE 2 first ++ bytesLE 2 first ++ absent 2 }) := by
  obtain ⟨c', hc⟩ : ∃ c', c' = (c.setTake s
      (some { origin := .uploaded, records := (c.records s).take first, length := 0 })).withWindow
        (some { slot := s, mode := .write, first := first, last := last, cursor := first }) := ⟨_, rfl⟩
  have count : c'.count s = first := by
    simp only [hc, Controller.count, Controller.records_eq, Controller.withWindow_take, Controller.setTake_take,
      Option.map_some, Option.getD_some, List.length_take]
    exact Nat.min_eq_left (Controller.records_eq c s ▸ within)
  have rule : takeWindow s.code 1 first last c =
      (c', { code := .ok, fields := codeByte s.code ++ codeByte WindowMode.write.code ++ bytesLE 2 first ++ bytesLE 2 last
        ++ bytesLE 2 first ++ bytesLE 2 (c'.count s) ++ absent 2 }) := by
    subst hc
    simp [takeWindow, slotOf_code, windowModeOf, Nat.not_lt.2 order, Controller.userOf, free, idle, Nat.not_lt.2 within,
      Controller.withWindow]
  rw [rule, count, hc]

theorem takeWindow_readPast (order : first ≤ last) (free : c.recorderUses s = false) (past : c.count s ≤ first) :
    takeWindow s.code 0 first last c = (c, { code := .badValue, fields := slotFields c s }) := by
  simp [takeWindow, slotOf_code, windowModeOf, Nat.not_lt.2 order, free, past]

theorem takeWindow_read (order : first ≤ last) (free : c.recorderUses s = false) (within : first < c.count s) :
    takeWindow s.code 0 first last c =
      (c.withWindow (some { slot := s, mode := .read, first := first, last := last, cursor := first }),
       { code := .ok, fields := codeByte s.code ++ codeByte WindowMode.read.code ++ bytesLE 2 first ++ bytesLE 2 last
          ++ bytesLE 2 first ++ bytesLE 2 (c.count s) ++ bytesLE 2 (min last (c.count s - 1)) }) := by
  have count := c.withWindow_count (some { slot := s, mode := .read, first := first, last := last, cursor := first }) s
  simp only [Controller.withWindow] at count
  simp [takeWindow, slotOf_code, windowModeOf, Nat.not_lt.2 order, free, Nat.not_le.2 within, Controller.withWindow, count]

end WindowRules

/-! ### TAKE_DATA (R151, R153) -/

section DataRules

variable {c : Controller} {rs : List RawRecord} {w : Window}

theorem takeData_noWindow (h : ∀ w, c.takes.window = some w → w.mode = .read) : takeData rs c = (c, bare .badState) := by
  unfold takeData
  split
  · rfl
  · next w hw => rw [h w hw]

/-- R151: what TAKE_DATA makes of the slot and the window. -/
def written (c : Controller) (w : Window) (out : Written) : Controller :=
  (c.setTake w.slot (some { origin := .uploaded, records := out.records, length := 0 })).withWindow
    (some { w with cursor := out.records.length })

theorem written_take (out : Written) :
    (written c w out).take w.slot = some { origin := .uploaded, records := out.records, length := 0 } := by
  simp [written]

theorem written_records (out : Written) : (written c w out).records w.slot = out.records := by
  rw [Controller.records_eq, written_take]
  rfl

theorem written_other (out : Written) {other : Slot} (h : other ≠ w.slot) : (written c w out).take other = c.take other := by
  rw [written, Controller.withWindow_take, c.setTake_other h]

theorem written_frame (out : Written) : Controller.Frame [.takes] c (written c w out) :=
  (c.setTake_frame _ _).trans (Controller.withWindow_frame _ _)

theorem takeData_ok {out : Written} (open' : c.takes.window = some w) (write : w.mode = .write)
    (h : writeRecords w.last rs { records := c.records w.slot, stored := 0, ignored := 0, failure := none } = out)
    (good : out.failure = none) : takeData rs c =
      (written c w out,
       { code := .ok, fields := codeByte out.stored ++ codeByte out.ignored
          ++ bytesLE 2 out.records.length ++ bytesLE 2 out.records.length }) := by
  have count : (written c w out).count w.slot = out.records.length := congrArg List.length (written_records out)
  have rule : takeData rs c = (written c w out,
      { code := .ok, fields := codeByte out.stored ++ codeByte out.ignored
          ++ bytesLE 2 ((written c w out).count w.slot) ++ bytesLE 2 out.records.length }) := by
    obtain ⟨slot, mode, first, last, cursor⟩ := w
    obtain rfl : mode = .write := write
    rw [takeData, open']
    dsimp only
    rw [show writeRecords last rs _ = out from h, good]
    rfl
  rw [rule, count]

/-- R153: a record that fails closes the window, which settles the slot. -/
theorem takeData_fails {out : Written} {code : ResultCode} (open' : c.takes.window = some w) (write : w.mode = .write)
    (h : writeRecords w.last rs { records := c.records w.slot, stored := 0, ignored := 0, failure := none } = out)
    (bad : out.failure = some code) : takeData rs c =
      ((written c w out).closeWindow,
       { code := code, fields := codeByte out.stored ++ codeByte out.ignored
          ++ codeByte (rs.length - out.stored - out.ignored) ++ bytesLE 2 (out.stored + out.ignored + 1)
          ++ bytesLE 2 ((written c w out).closeWindow.count w.slot)
          ++ [Config.slotStateCode ((written c w out).closeWindow.take w.slot).isSome] }) := by
  obtain ⟨slot, mode, first, last, cursor⟩ := w
  obtain rfl : mode = .write := write
  rw [takeData, open']
  dsimp only
  rw [show writeRecords last rs _ = out from h, bad]
  rfl

/-- R146: the slot that a failed TAKE_DATA leaves is settled. -/
theorem written_settled (out : Written) (write : w.mode = .write) : (written c w out).closeWindow =
    ((written c w out).withWindow none).setTake w.slot
      (settledTake .uploaded out.records (lastTime out.records)) := by
  rw [(written c w out).closeWindow_write (w := { w with cursor := out.records.length }) rfl write]
  show ((written c w out).withWindow none).setTake w.slot (settledTake .uploaded ((written c w out).records w.slot)
    (lastTime ((written c w out).records w.slot))) = _
  rw [written_records]

end DataRules

/-- Settles O45: the checks of TAKE_WINDOW one by one, and the records of a TAKE_DATA one by one. -/
theorem windowAndWrittenRecords : Obligations.WindowAndWrittenRecords := by
  refine ⟨?window, ?data⟩
  case window =>
    intro tag n mode first last s sv c replies shown
    have answers : ∀ {c' code fields}, takeWindow n mode first last c = (c', { code := code, fields := fields }) →
        replies c' code fields := fun h => .of_rule rfl sv h rfl rfl
    refine ⟨fun unknown => answers (takeWindow_unknown unknown), ?_⟩
    rintro sl rfl opened head
    refine ⟨fun bad => answers (takeWindow_bad bad), fun known order user => answers (takeWindow_recorder known order user),
      ?player, ?write, ?read⟩
    case player =>
      rintro rfl order free user
      exact answers (takeWindow_player order free user)
    case write =>
      rintro rfl order free idle
      refine ⟨fun past => answers (takeWindow_writePast order free idle past), fun within =>
        ⟨_, answers (takeWindow_write order free idle within), ?_, rfl, ?_, fun other h => ?_⟩⟩
      · exact (c.setTake_frame _ _).trans (Controller.withWindow_frame _ _)
      · simp
      · rw [Controller.withWindow_take, c.setTake_other h]
    case read =>
      rintro rfl order free
      exact ⟨fun past => answers (takeWindow_readPast order free past),
        fun within => answers (takeWindow_read order free within)⟩
  case data =>
    intro tag rs s sv c replies kindOk stored
    have answers (least : 1 ≤ rs.length) (most : rs.length ≤ 40) : ∀ {c' code fields},
        takeData rs c = (c', { code := code, fields := fields }) → replies c' code fields := fun h =>
      .of_kept_rule (if_pos ⟨least, most⟩) sv h rfl rfl
    refine ⟨fun wrong => .of_keptBadLength (if_neg (by omega)) sv.1 rfl rfl rfl,
      fun least most none => answers least most (takeData_noWindow none), ?_⟩
    intro w least most open' write old admitted before passes written'
    refine ⟨fun good => ?ok, fun n r hn hr good bad => ?fails⟩
    case ok =>
      obtain ⟨ts, all, h⟩ := writeRecords_ok (last := w.last) 0 0 rfl good
      rw [Nat.zero_add, Nat.zero_add] at h
      let out : Written :=
        { records := old ++ ts, stored := admitted, ignored := rs.length - admitted, failure := none }
      have length : out.records.length = old.length + admitted := by
        rw [List.length_append, ← all.length_eq, List.length_take, Nat.min_eq_left (Nat.min_le_left _ _)]
      refine ⟨written c w out, ⟨written_frame _, ?_, fun other h => written_other _ h, ⟨ts, all, written_records out⟩, ?_, ?_⟩,
        answers least most ?_⟩
      · exact congrArg (fun n => some { w with cursor := n }) length
      · rw [Controller.length_eq, written_take]
        rfl
      · intro t ht
        rw [written_take, Option.some.injEq] at ht
        rw [← ht]
      · rw [takeData_ok open' write (out := out) h rfl, length]
    case fails =>
      obtain ⟨ts, code, all, h, badKind, order, full⟩ := writeRecords_fails (last := w.last) 0 0 hn hr good bad
      rw [Nat.zero_add] at h
      let out : Written := { records := old ++ ts, stored := n, ignored := 0, failure := some code }
      have length : out.records.length = old.length + n := by
        rw [List.length_append, ← all.length_eq, List.length_take,
          Nat.min_eq_left (Nat.le_of_lt (Nat.lt_of_lt_of_le hn (Nat.min_le_left _ _)))]
      have settled := written_settled (c := c) (w := w) out write
      have slot : (written c w out).closeWindow.take w.slot = settledTake .uploaded out.records (lastTime out.records) := by
        rw [settled, Controller.setTake_take]
      have records : (written c w out).closeWindow.records w.slot = out.records := by
        rw [Controller.records_eq, slot, settledTake_records]
      have count : (written c w out).closeWindow.count w.slot = old.length + n :=
        (congrArg List.length records).trans length
      intro code'
      have same : code' = code := by
        simp only [code']
        split
        · next k => exact (badKind k).symm
        · next k =>
          split
          · next early => exact (order (not_not.1 k) early).symm
          · next late => exact (full (not_not.1 k) late).symm
      refine ⟨(written c w out).closeWindow, ⟨(written_frame _).trans (Controller.closeWindow_frame _), ?_, ?_,
        ⟨ts, all, records⟩, ?_, fun t ht => settledTake_origin (slot.symm.trans ht)⟩, same ▸ answers least most ?_⟩
      · rw [settled, Controller.setTake_window, Controller.withWindow_window]
      · intro other h
        rw [settled, Controller.setTake_other _ h, Controller.withWindow_take, written_other _ h]
      · rw [Controller.length_eq, slot, settledTake_length]
        exact lastTime_stored all
      · rw [takeData_fails open' write (out := out) h rfl, count, slot, settledTake_isSome, length]
        rfl

/-! ### TAKE_READ and TAKE_CLEAR (R154, R156) -/

section ReadRules

variable {c : Controller} {w : Window} {s : Slot}

theorem takeRead_noWindow (h : ∀ w, c.takes.window = some w → w.mode = .write) : takeRead c = (c, bare .badState) := by
  unfold takeRead
  split
  · rfl
  · next w hw => rw [h w hw]

/-- R154: at most 40 records, up to the read end. -/
def readCount (c : Controller) (w : Window) : Nat := min 40 (min (w.last + 1) (c.count w.slot) - w.cursor)

theorem sent_length (c : Controller) (w : Window) :
    (((c.records w.slot).drop w.cursor).take (readCount c w)).length = readCount c w := by
  rw [List.length_take, List.length_drop]
  have : c.count w.slot = (c.records w.slot).length := rfl
  unfold readCount
  omega

theorem takeRead_ok (open' : c.takes.window = some w) (read : w.mode = .read) : takeRead c =
    (c.withWindow (some { w with cursor := w.cursor + readCount c w }),
     { code := .ok, fields := bytesLE 2 w.cursor ++ codeByte (readCount c w)
        ++ bytesLE 2 (min (w.last + 1) (c.count w.slot) - (w.cursor + readCount c w))
        ++ flagByte (decide (readCount c w = 0))
        ++ (((c.records w.slot).drop w.cursor).take (readCount c w)).flatMap TakeRec.bytes }) := by
  obtain ⟨sent, hs⟩ : ∃ sent, sent = ((c.records w.slot).drop w.cursor).take (readCount c w) := ⟨_, rfl⟩
  have length : sent.length = readCount c w := hs ▸ sent_length c w
  have empty : sent.isEmpty = decide (readCount c w = 0) := by
    rw [Bool.eq_iff_iff, List.isEmpty_iff, decide_eq_true_iff, ← length, List.length_eq_zero_iff]
  have rule : takeRead c = (c.withWindow (some { w with cursor := w.cursor + sent.length }),
     { code := .ok, fields := bytesLE 2 w.cursor ++ codeByte sent.length
        ++ bytesLE 2 (min (w.last + 1) (c.count w.slot) - (w.cursor + sent.length))
        ++ flagByte sent.isEmpty ++ sent.flatMap TakeRec.bytes }) := by
    subst hs
    obtain ⟨slot, mode, first, last, cursor⟩ := w
    obtain rfl : mode = .read := read
    rw [takeRead, open']
    rfl
  rw [rule, empty, length, hs]

theorem takeClear_unknown {n : Nat} (h : 1 < n) : takeClear n c = (c, { code := .badValue, fields := absent 3 }) := by
  rw [takeClear, slotOf_unknown h, slotShown, slotOf_unknown h]

theorem takeClear_recorder (user : c.recorderUses s = true) : takeClear s.code c =
    (c, { code := .inUse, fields := Config.userCode .recorder :: slotFields c s }) := by
  simp [takeClear, slotOf_code, Controller.userOf, user]

theorem takeClear_player (free : c.recorderUses s = false) (user : c.playerUses s = true) : takeClear s.code c =
    (c, { code := .inUse, fields := Config.userCode .player :: slotFields c s }) := by
  simp [takeClear, slotOf_code, Controller.userOf, free, user]

theorem takeClear_empty (free : c.recorderUses s = false) (idle : c.playerUses s = false) (empty : c.take s = none) :
    takeClear s.code c = (c, { code := .already, fields := slotFields c s }) := by
  simp [takeClear, slotOf_code, Controller.userOf, free, idle, empty]

theorem takeClear_ok (free : c.recorderUses s = false) (idle : c.playerUses s = false) (full : c.take s ≠ none) :
    takeClear s.code c = (c.setTake s none,
      { code := .ok, fields := [Config.slotStateCode false] ++ bytesLE 2 0 }) := by
  obtain ⟨t, ht⟩ := Option.ne_none_iff_exists'.1 full
  simp [takeClear, slotOf_code, Controller.userOf, free, idle, ht, slotFields_eq]

end ReadRules

/-- Settles O46: the records sent, and the slot cleared. -/
theorem takeReadAndClear : Obligations.TakeReadAndClear := by
  refine ⟨?read, ?clear⟩
  case read =>
    intro tag s sv c
    exact ⟨fun none => .of_kept_rule rfl sv (takeRead_noWindow none) rfl rfl,
      fun w open' read => ⟨sent_length c w, .of_kept_rule rfl sv (takeRead_ok open' read) rfl rfl⟩⟩
  case clear =>
    intro tag n s sv c replies shown
    have answers : ∀ {c' code fields}, takeClear n c = (c', { code := code, fields := fields }) →
        replies c' code fields := fun h => .of_rule rfl sv h rfl rfl
    refine ⟨fun unknown => answers (takeClear_unknown unknown), ?_⟩
    rintro sl rfl
    have shows : slotFields c sl = shown sl := rfl
    exact ⟨fun user => answers (takeClear_recorder user), fun free user => answers (takeClear_player free user),
      fun free idle empty => answers (takeClear_empty free idle empty), fun free idle full => answers (takeClear_ok free idle full)⟩

end Sys2Proof.Machine
end

section
/-! How far the report queue grows, and the Recorder (chapter 9): record times, records written, and the ends of a recording. -/

namespace Sys2Proof.Machine

/-- From `a` to `b` the state of the Link and the class mask stand, and at most `n` reports join the queue. -/
structure Controller.Tells (n : Nat) (a b : Controller) : Prop where
  state : b.link.state = a.link.state
  mask : b.link.mask = a.link.mask
  grows : b.link.queue.length ≤ a.link.queue.length + n

namespace Controller.Tells

variable {a b c : Controller} {n m : Nat}

theorem refl (n : Nat) (a : Controller) : Tells n a a := ⟨rfl, rfl, Nat.le_add_right _ _⟩

theorem of_link (h : b.link = a.link) : Tells n a b := ⟨by rw [h], by rw [h], by rw [h]; exact Nat.le_add_right _ _⟩

theorem of_frame {bs : List Block} (f : Frame bs a b) (away : Block.link ∉ bs) : Tells n a b := .of_link (f.link away)

theorem trans (h : Tells n a b) (k : Tells m b c) : Tells (n + m) a c :=
  ⟨k.state.trans h.state, k.mask.trans h.mask, by have := h.grows; have := k.grows; omega⟩

theorem weaken (h : Tells n a b) (le : n ≤ m) : Tells m a b := ⟨h.state, h.mask, by have := h.grows; omega⟩

theorem ite {p : Prop} [Decidable p] (h : Tells n a b) (k : Tells n a c) : Tells n a (if p then b else c) := by
  split
  · exact h
  · exact k

/-- A report made from there joins the queue while it had that much more room. -/
theorem queued (h : Tells n a b) {t : Time} {r : Report} (on : a.link.mask.getLsbD r.class.code = true)
    (room : a.link.queue.length + n < 64) : { time := t, report := r } ∈ (b.reportAt t r).link.queue :=
  reportAt_queued (by rw [h.mask]; exact on) (Nat.lt_of_le_of_lt h.grows room)

/-- The same for a report made now. -/
theorem queuedNow (h : Tells n a b) {r : Report} (now : b.now = a.now) (on : a.link.mask.getLsbD r.class.code = true)
    (room : a.link.queue.length + n < 64) : { time := a.now, report := r } ∈ (b.report r).link.queue := by
  rw [← now]
  exact h.queued on room

end Controller.Tells

namespace Controller

variable (c : Controller)

theorem reportAt_tells (t : Time) (r : Report) : Tells 1 c (c.reportAt t r) := by
  refine ⟨by simp, by simp, ?_⟩
  rw [reportAt_link]
  unfold Link.place
  split
  · split
    · simp
    · exact Nat.le_succ _
  · exact Nat.le_succ _

theorem report_tells (r : Report) : Tells 1 c (c.report r) := c.reportAt_tells _ r

/-- A queued report stays queued when another is made. -/
theorem mem_report {c : Controller} {q : QueuedReport} (h : q ∈ c.link.queue) (r : Report) : q ∈ (c.report r).link.queue :=
  (c.report_keeps (skip := []) r).queued h (by simp)

theorem withPool_tells (p : VoicePool) : Tells 0 c { c with pool := p } := .of_link rfl

theorem toneCheck_tells : Tells 1 c c.toneCheck := by
  unfold toneCheck
  split
  · exact .ite ((c.withPool_tells _).trans (report_tells _ _)) (.refl _ _)
  · exact .refl _ _

theorem mapVoices_tells (f : Note → Option Note) : Tells 1 c (c.mapVoices f) :=
  (c.withPool_tells _).trans (toneCheck_tells _)

theorem reevaluate_tells (p : Note → Bool) : Tells 1 c (c.reevaluate p) := c.mapVoices_tells _

theorem poolStrike_tells (src : Source) (k l : Nat) : Tells 1 c (c.poolStrike src k l) := by
  obtain e | ⟨i, owner, e⟩ | ⟨r, i, e⟩ := c.poolStrike_cases src k l
  · rw [e]
    exact .refl _ _
  · rw [e]
    exact .of_frame (c.begin_frame i src owner k l) (by simp)
  · rw [e]
    exact (c.report_tells r).trans (m := 0) (.of_frame (begin_frame _ i src src k l) (by simp))

theorem liveStrike_tells (k l : Nat) : Tells 1 c (c.liveStrike k l) := .ite (c.poolStrike_tells _ _ _) (.refl _ _)

/-! ### The Recorder's writing (R148, R160, R163) -/

theorem recEnd_tells (j : RecJob) (n : Nat) : Tells 0 c (c.recEnd j n) := .of_frame (c.recEnd_frame j n) (by simp)

theorem recStop_tells (j : RecJob) (x : StopCause) (n : Nat) : Tells 1 c (c.recStop j x n) :=
  (c.recEnd_tells j n).trans (report_tells _ _)

theorem recAppend_tells (j : RecJob) (r : TakeRec) : Tells 1 c (c.recAppend j r) := by
  have set (t : Option Take) : Tells 0 c (c.setTake j.target t) := .of_frame (c.setTake_frame _ _) (by simp)
  exact .ite ((set _).trans (recStop_tells _ _ _ _)) ((set _).weaken (Nat.zero_le _))

theorem recWrite_tells (k : RecKind) (s v : Nat) : Tells 1 c (c.recWrite k s v) := by
  unfold recWrite
  split
  · split
    · exact c.recAppend_tells _ _
    · exact .refl _ _
  · exact .refl _ _

theorem recPedal_tells (p v : Nat) : Tells 1 c (c.recPedal p v) := by
  unfold recPedal
  split
  · split
    · exact .ite ((Tells.of_frame (c.recorder_frame _) (by simp)).trans (n := 0) (recWrite_tells _ _ _ _)) (.refl _ _)
    · exact .refl _ _
  · exact .refl _ _

/-- What the slots hold is the Take Store's alone. -/
theorem take_congr {a b : Controller} (h : b.takes = a.takes) : b.take = a.take :=
  funext fun s => by cases s <;> simp only [take, h]

theorem records_congr {a b : Controller} (h : b.takes = a.takes) : b.records = a.records :=
  funext fun s => by rw [records_eq, records_eq, take_congr h]

theorem length_congr {a b : Controller} (h : b.takes = a.takes) : b.length = a.length :=
  funext fun s => by rw [length_eq, length_eq, take_congr h]

/-- R160: the record time is of the clock and the Player. -/
theorem recTime_congr {a b : Controller} (clock : b.clock = a.clock) (player : b.player = a.player) :
    b.recTime = a.recTime := by
  funext j
  simp only [recTime, takeMs, now, clock, player]

section Ends

variable (j : RecJob) (n : Nat)

/-- R146: an ended recording settles its slot. -/
theorem recEnd_take : (c.recEnd j n).take j.target = settledTake .recorded (c.records j.target) n := by
  rw [recEnd]
  exact (take_congr (a := c.setTake j.target _) rfl ▸ c.setTake_take _ _)

theorem recEnd_other {other : Slot} (h : other ≠ j.target) : (c.recEnd j n).take other = c.take other :=
  (congrFun (take_congr (a := c.setTake j.target (settledTake .recorded (c.records j.target) n))
    (b := c.recEnd j n) rfl) other).trans (c.setTake_other h _)

theorem recEnd_window : (c.recEnd j n).takes.window = c.takes.window := c.setTake_window _ _

theorem recEnd_records : (c.recEnd j n).records j.target = c.records j.target := by
  rw [records_eq, recEnd_take, settledTake_records]

theorem recEnd_length : (c.recEnd j n).length j.target = if (c.records j.target).isEmpty then 0 else n := by
  rw [length_eq, recEnd_take, settledTake]
  split <;> rfl

/-- Section 9.4: the STOPPED report of an ended recording carries what its slot then holds. -/
theorem recStop_eq (x : StopCause) : c.recStop j x n =
    (c.recEnd j n).report (.recStopped j.target x (c.count j.target)
      (if (c.records j.target).isEmpty then 0 else n) (!(c.records j.target).isEmpty)) := by
  have held : (settledTake .recorded (c.records j.target) n).isSome = !(c.records j.target).isEmpty := by
    rw [settledTake]
    split <;> simp_all
  rw [recStop, count, recEnd_records, recEnd_length, recEnd_take, held]
  rfl

variable (x : StopCause)

theorem recStop_takes : (c.recStop j x n).takes = (c.recEnd j n).takes := (report_frame _ _).takes (by simp)

theorem recStop_take : (c.recStop j x n).take j.target = settledTake .recorded (c.records j.target) n :=
  (congrFun (take_congr (c.recStop_takes j n x)) _).trans (c.recEnd_take j n)

theorem recStop_other {other : Slot} (h : other ≠ j.target) : (c.recStop j x n).take other = c.take other :=
  (congrFun (take_congr (c.recStop_takes j n x)) _).trans (c.recEnd_other j n h)

theorem recStop_job : (c.recStop j x n).recorder.job = none :=
  congrArg Recorder.job ((report_frame _ _).recorder (by simp))

theorem recStop_queued (on : c.link.mask.getLsbD 6 = true) (room : c.link.queue.length < 64) :
    { time := c.now, report := .recStopped j.target x (c.count j.target)
        (if (c.records j.target).isEmpty then 0 else n) (!(c.records j.target).isEmpty) }
      ∈ (c.recStop j x n).link.queue := by
  rw [recStop_eq]
  exact (c.recEnd_tells j n).queuedNow (congrArg StageClock.time ((c.recEnd_frame j n).clock (by simp))) on room

end Ends

/-! ### Writing a record -/

/-- The slot of a recording with a record appended. -/
def withRecord (j : RecJob) (r : TakeRec) : Controller :=
  c.setTake j.target (some { origin := .recorded, records := c.records j.target ++ [r], length := 0 })

section Append

variable (j : RecJob) (r : TakeRec)

theorem withRecord_records : (c.withRecord j r).records j.target = c.records j.target ++ [r] := by
  rw [records_eq, withRecord, setTake_take]
  rfl

theorem recAppend_room (h : c.count j.target + 1 < 16384) : c.recAppend j r = c.withRecord j r := by
  have : ¬ 16384 ≤ (c.records j.target ++ [r]).length := by
    rw [List.length_append]
    exact Nat.not_le.2 h
  exact if_neg this

/-- R148, R167: the record that fills the slot ends the recording. -/
theorem recAppend_fills (h : 16384 ≤ c.count j.target + 1) :
    c.recAppend j r = (c.withRecord j r).recStop j .full r.time := by
  have : 16384 ≤ (c.records j.target ++ [r]).length := by
    rw [List.length_append]
    exact h
  exact if_pos this

theorem recAppend_records : (c.recAppend j r).records j.target = c.records j.target ++ [r] := by
  by_cases h : c.count j.target + 1 < 16384
  · rw [recAppend_room c j r h, withRecord_records]
  · rw [recAppend_fills c j r (Nat.le_of_not_lt h), records_eq, recStop_take, settledTake_records, withRecord_records]

theorem recAppend_other {other : Slot} (h : other ≠ j.target) : (c.recAppend j r).take other = c.take other := by
  by_cases room : c.count j.target + 1 < 16384
  · rw [recAppend_room c j r room]
    exact c.setTake_other h _
  · rw [recAppend_fills c j r (Nat.le_of_not_lt room), recStop_other _ _ _ _ h]
    exact c.setTake_other h _

end Append

/-- R163: in RECORDING a record is written at the record time of now. -/
theorem recWrite_eq {j : RecJob} {run : RecRun} (h : c.recorder.job = some j) (hr : j.run = some run)
    (kind : RecKind) (subject value : Nat) : c.recWrite kind subject value =
      c.recAppend j { time := c.recTime j, kind := kind, subject := subject, value := value } := by
  obtain ⟨target, mode, run⟩ := j
  obtain rfl : run = some _ := hr
  rw [recWrite, h]

theorem recWrite_of_idle (h : ∀ j, c.recorder.job = some j → j.run = none) (kind : RecKind) (subject value : Nat) :
    c.recWrite kind subject value = c := by
  unfold recWrite
  split
  · next j hj =>
    split
    · next hr => exact absurd hr (by rw [h j hj]; simp)
    · rfl
  · rfl

/-! ### The start of a recording (R162) -/

theorem mem_upKeys (k : Nat) : k ∈ c.upKeys ↔ 1 ≤ k ∧ k ≤ 88 ∧ (c.key k).state ∈ [KeyState.held, .armed, .struck] := by
  have up (s : KeyState) : s.up = true ↔ s ∈ [KeyState.held, .armed, .struck] := by cases s <;> decide
  simp only [upKeys, List.mem_filter, up, allKeys, List.mem_map, List.mem_range, ← and_assoc]
  refine and_congr_left fun _ => ⟨?_, fun ⟨h, h'⟩ => ⟨k - 1, by omega, by omega⟩⟩
  rintro ⟨i, hi, rfl⟩
  omega

theorem upKeys_sorted : c.upKeys.Pairwise (· < ·) := by
  refine List.Pairwise.filter _ ?_
  rw [allKeys, List.pairwise_map]
  exact List.pairwise_lt_range.imp fun h => Nat.succ_lt_succ h

/-- R162: the records that a recording opens with at a record time. -/
def openingAt (t : Nat) : List TakeRec :=
  ([0, 1, 2].map fun p => { time := t, kind := .pedal, subject := p, value := (c.pedal p).value })
    ++ c.upKeys.map fun k => { time := t, kind := .damperUp, subject := k, value := 0 }

theorem openingAt_length (t : Nat) : (c.openingAt t).length = 3 + c.upKeys.length := by
  simp [openingAt]
  omega

/-- R162: the run that a recording starts with. -/
def openingRun (start : Option Time) (t : Nat) : RecRun :=
  { start := start, startTime := t, lastDamper := (c.pedal 0).value, lastSostenuto := (c.pedal 1).value
    lastSoft := (c.pedal 2).value, limit := start.map fun s => after s 4200000000 }

/-- The controller in which a recording has started, its report not yet made. -/
def opened (j : RecJob) (start : Option Time) (t : Nat) : Controller :=
  { c.setTake j.target (some { origin := .recorded, records := c.records j.target ++ c.openingAt t, length := 0 }) with
    recorder := { job := some { j with run := some (c.openingRun start t) } } }

theorem recStart_free (j : RecJob) (s : Time) :
    c.recStart j (some s) = (c.opened j (some s) 0).report (.recStarted j.target j.mode 0 (c.openingAt 0).length) := rfl

theorem recStart_sync (j : RecJob) :
    c.recStart j none = (c.opened j none c.takeMs).report (.recStarted j.target j.mode c.takeMs (c.openingAt c.takeMs).length) :=
  rfl

theorem opened_tells (j : RecJob) (start : Option Time) (t : Nat) : Tells 0 c (c.opened j start t) :=
  .of_link (c.setTake_link _ _)

theorem opened_take (j : RecJob) (start : Option Time) (t : Nat) : (c.opened j start t).take j.target =
    some { origin := .recorded, records := c.records j.target ++ c.openingAt t, length := 0 } :=
  (congrFun (take_congr (a := c.setTake j.target _) (b := c.opened j start t) rfl) _).trans (c.setTake_take _ _)

theorem opened_other (j : RecJob) (start : Option Time) (t : Nat) {other : Slot} (h : other ≠ j.target) :
    (c.opened j start t).take other = c.take other :=
  (congrFun (take_congr (a := c.setTake j.target _) (b := c.opened j start t) rfl) _).trans (c.setTake_other h _)

/-- R174, R194: the take time in ms as it stands in a session. -/
theorem takeMs_session {x : Session} (h : c.player.session = some x) : c.takeMs =
    (if x.phase = .playing then x.time + (elapsed c.now x.since * c.player.tempo + x.remainder) / 100 else x.time) / 1000 := by
  obtain ⟨phase⟩ := x
  rw [takeMs, h]
  cases phase <;> rfl

theorem takeMs_stopped (h : c.player.session = none) : c.takeMs = 0 := by rw [takeMs, h]

/-- R189: the loop has passes left. -/
theorem syncOpen_iff : c.syncOpen = true ↔
    ∃ x, c.player.session = some x ∧ ∀ l, x.loop = some l → ¬ (l.count = 0 ∨ l.passes < l.count) := by
  unfold syncOpen
  split
  · next h => simp [h]
  · next x h =>
    rw [h]
    simp only [Option.some.injEq, exists_eq_left']
    split
    · next hl => simp [hl]
    · next l hl => simp [hl]

end Controller

/-! ### REC_ARM (R161) -/

theorem clockModeOf_unknown {n : Nat} (h : 1 < n) : clockModeOf n = none := by
  match n with
  | n + 2 => rfl

theorem clockModeOf_code (m : ClockMode) : clockModeOf m.code = some m := by cases m <;> rfl

namespace Controller

/-- R161: the slot emptied and the Recorder ARMED. -/
def armed (c : Controller) (s : Slot) (m : ClockMode) : Controller :=
  { c.setTake s (some { origin := .recorded, records := [], length := 0 }) with
    recorder := { job := some { target := s, mode := m, run := none } } }

variable (c : Controller) (s : Slot) (m : ClockMode)

theorem armed_tells : Tells 0 c (c.armed s m) := .of_link (c.setTake_link _ _)

theorem armed_frame : Frame [.takes, .recorder] c (c.armed s m) :=
  ((c.setTake_frame _ _).widen (by simp)).trans ((recorder_frame _ _).widen (by simp))

theorem armed_take : (c.armed s m).take s = some { origin := .recorded, records := [], length := 0 } :=
  (congrFun (take_congr (a := c.setTake s _) (b := c.armed s m) rfl) _).trans (c.setTake_take _ _)

theorem armed_other {other : Slot} (h : other ≠ s) : (c.armed s m).take other = c.take other :=
  (congrFun (take_congr (a := c.setTake s _) (b := c.armed s m) rfl) _).trans (c.setTake_other h _)

/-- R161, R170: the Recorder ARMED and reported so. -/
def armedReported : Controller := (c.armed s m).report (.recArmed s m)

theorem armedReported_frame : Frame [.takes, .recorder, .link] c (c.armedReported s m) :=
  ((c.armed_frame s m).widen (by simp)).trans ((report_frame _ _).widen (by simp))

theorem armedReported_take : (c.armedReported s m).take = (c.armed s m).take :=
  take_congr ((report_frame _ _).takes (by simp))

theorem armedReported_tells : Tells 1 c (c.armedReported s m) := (c.armed_tells s m).trans (report_tells _ _)

theorem armedReported_queued (on : c.link.mask.getLsbD 6 = true) (room : c.link.queue.length < 64) :
    { time := c.now, report := .recArmed s m } ∈ (c.armedReported s m).link.queue :=
  (c.armed_tells s m).queuedNow (congrArg StageClock.time ((c.armed_frame s m).clock (by simp))) on room

end Controller

section Arm

variable {n m : Nat} {c : Controller} {s : Slot} {md : ClockMode}

theorem recArm_unknown (h : 1 < n ∨ 1 < m) : recArm n m c = (c, { code := .badValue, fields := recFields c }) := by
  unfold recArm
  split
  · next hs hm =>
    rcases h with h | h
    · exact absurd hs (by simp [slotOf_unknown h])
    · exact absurd hm (by simp [clockModeOf_unknown h])
  · rfl

theorem recArm_busy (busy : c.recState ≠ .idle) :
    recArm s.code md.code c = (c, { code := .badState, fields := recFields c }) := by
  simp [recArm, slotOf_code, clockModeOf_code, busy]

theorem recArm_inUse (idle : c.recState = .idle) (used : c.playerUses s = true) :
    recArm s.code md.code c = (c, { code := .inUse, fields := Config.userCode .player :: recFields c }) := by
  simp [recArm, slotOf_code, clockModeOf_code, idle, used]

theorem recArm_syncClosed (idle : c.recState = .idle) (free : c.playerUses s = false) (h : c.syncOpen = false) :
    recArm s.code ClockMode.sync.code c = (c, { code := .badState, fields := recFields c }) := by
  simp [recArm, slotOf_code, clockModeOf_code, idle, free, h]

theorem recArm_free (idle : c.recState = .idle) (free : c.playerUses s = false) :
    recArm s.code ClockMode.free.code c = (c.armedReported s .free,
      { code := .accepted, fields := codeByte s.code ++ codeByte 0 ++ recFields (c.armedReported s .free) }) := by
  rw [recArm, slotOf_code, clockModeOf_code]
  exact ((if_neg (not_not.2 idle)).trans (if_neg (ne_true_of_eq_false free))).trans (if_neg fun h => nomatch h.1)

theorem recArm_sync (idle : c.recState = .idle) (free : c.playerUses s = false) (h : c.syncOpen = true) :
    recArm s.code ClockMode.sync.code c =
      let c' := (c.armedReported s .sync).recStart { target := s, mode := .sync, run := none } none
      (c', { code := .accepted, fields := codeByte s.code ++ codeByte 1 ++ recFields c' }) := by
  rw [recArm, slotOf_code, clockModeOf_code]
  exact ((if_neg (not_not.2 idle)).trans (if_neg (ne_true_of_eq_false free))).trans (if_neg fun k => by simp [h] at k)

end Arm

/-- A slot and a clock mode by their codes. -/
theorem exists_slot {n : Nat} (h : n ≤ 1) : ∃ s : Slot, s.code = n := by
  match n with
  | 0 => exact ⟨.a, rfl⟩
  | 1 => exact ⟨.b, rfl⟩

theorem exists_clockMode {n : Nat} (h : n ≤ 1) : ∃ m : ClockMode, m.code = n := by
  match n with
  | 0 => exact ⟨.free, rfl⟩
  | 1 => exact ⟨.sync, rfl⟩

namespace Controller

variable (c : Controller) (sl : Slot)

/-- R162: what a SYNC start leaves of the controller in which REC_ARM arms. -/
def syncStarted : Controller := (c.armedReported sl .sync).recStart { target := sl, mode := .sync, run := none } none

/-- The controller of a SYNC start, its STARTED report not yet made. -/
def syncOpened : Controller :=
  (c.armedReported sl .sync).opened { target := sl, mode := .sync, run := none } none c.takeMs

theorem armedReported_upKeys : (c.armedReported sl .sync).upKeys = c.upKeys := by
  have f := c.armedReported_frame sl .sync
  simp only [upKeys, key, f.keys (by simp)]

theorem armedReported_pedal : (c.armedReported sl .sync).pedal = c.pedal := by
  funext p
  simp only [pedal, (c.armedReported_frame sl .sync).pedals (by simp)]

theorem armedReported_takeMs : (c.armedReported sl .sync).takeMs = c.takeMs := by
  have f := c.armedReported_frame sl .sync
  simp only [takeMs, now, f.player (by simp), f.clock (by simp)]

theorem armedReported_openingAt (t : Nat) : (c.armedReported sl .sync).openingAt t = c.openingAt t := by
  simp only [openingAt, armedReported_pedal, armedReported_upKeys]

theorem syncStarted_eq : c.syncStarted sl =
    (c.syncOpened sl).report (.recStarted sl .sync c.takeMs (3 + c.upKeys.length)) := by
  rw [syncStarted, recStart_sync, armedReported_takeMs, openingAt_length, armedReported_upKeys]
  rfl

theorem syncStarted_job : (c.syncStarted sl).recorder.job =
    some { target := sl, mode := .sync, run := some (c.openingRun none c.takeMs) } := by
  have run (t : Nat) : (c.armedReported sl .sync).openingRun none t = c.openingRun none t := by
    simp only [openingRun, armedReported_pedal, Option.map_none]
  rw [syncStarted_eq, (report_frame _ _).recorder (by simp), ← run]
  rfl

theorem syncStarted_take : (c.syncStarted sl).take sl =
    some { origin := .recorded, records := c.openingAt c.takeMs, length := 0 } := by
  rw [syncStarted_eq, congrFun (take_congr ((report_frame _ _).takes (by simp))) sl]
  have h := (c.armedReported sl .sync).opened_take { target := sl, mode := .sync, run := none } none c.takeMs
  rw [armedReported_openingAt, records_eq, armedReported_take, armed_take] at h
  exact h

theorem syncStarted_other {other : Slot} (h : other ≠ sl) : (c.syncStarted sl).take other = c.take other := by
  rw [syncStarted_eq, congrFun (take_congr ((report_frame _ _).takes (by simp))) other]
  refine (opened_other _ { target := sl, mode := .sync, run := none } _ _ h).trans ?_
  rw [armedReported_take, armed_other _ _ _ h]

theorem syncStarted_queued (on : c.link.mask.getLsbD 6 = true) (room : c.link.queue.length < 60) :
    { time := c.now, report := .recArmed sl .sync } ∈ (c.syncStarted sl).link.queue ∧
    { time := c.now, report := .recStarted sl .sync c.takeMs (3 + c.upKeys.length) } ∈ (c.syncStarted sl).link.queue := by
  have opens : Tells 1 c (c.syncOpened sl) := (c.armedReported_tells sl .sync).trans (opened_tells _ _ _ _)
  have now : (c.syncOpened sl).now = c.now :=
    congrArg StageClock.time ((setTake_clock _ _ _).trans ((c.armedReported_frame sl .sync).clock (by simp)))
  have same : (c.syncOpened sl).link = (c.armedReported sl .sync).link := setTake_link _ _ _
  rw [syncStarted_eq]
  refine ⟨?_, opens.queuedNow now on (Nat.lt_trans (Nat.succ_lt_succ room) (by decide))⟩
  have armed := c.armedReported_queued sl .sync on (Nat.lt_trans room (by decide))
  rw [← same] at armed
  exact mem_report armed _

end Controller

/-- R149: closed, no window is left. -/
theorem Controller.closeWindow_window (c : Controller) : c.closeWindow.takes.window = none := by
  unfold closeWindow
  split
  · next h => exact h
  · split
    · rfl
    · exact setTake_window _ _ _

/-- Settles O47: each check of R161 in turn, and the two starts. -/
theorem recArmEmptiesItsSlot : Obligations.RecArmEmptiesItsSlot := by
  intro tag n m s sv c replies shown active syncOpen ms
  have answers : ∀ {c' code fields}, recArm n m c = (c', { code := code, fields := fields }) → replies c' code fields :=
    fun h => .of_rule rfl sv h rfl rfl
  refine ⟨fun h => answers (recArm_unknown h), ?busy, ?idle⟩
  case busy =>
    intro slot mode busy
    obtain ⟨sl, rfl⟩ := exists_slot slot
    obtain ⟨md, rfl⟩ := exists_clockMode mode
    exact answers (recArm_busy busy)
  case idle =>
    rintro sl rfl mode idle
    refine ⟨?inUse, ?closed, ?free, ?sync⟩
    case inUse =>
      obtain ⟨md, rfl⟩ := exists_clockMode mode
      exact fun used => answers (recArm_inUse idle used)
    case closed =>
      rintro unused rfl shut
      exact answers (recArm_syncClosed idle unused (Bool.eq_false_iff.2 (mt c.syncOpen_iff.1 shut)))
    case free =>
      rintro unused rfl
      have job : (c.armedReported sl .free).recorder.job = some { target := sl, mode := .free, run := none } :=
        congrArg Recorder.job ((Controller.report_frame _ _).recorder (by simp))
      have fields : recFields (c.armedReported sl .free) = codeByte 1 := by
        simp only [recFields, Controller.recState, job]
        rfl
      refine ⟨_, answers (fields ▸ recArm_free idle unused), c.armedReported_frame sl .free, ?window, job,
        ?emptied, ?other, fun on room => c.armedReported_queued sl .free on room⟩
      case window =>
        rw [Controller.armedReported, (Controller.report_frame _ _).takes (by simp)]
        exact (c.setTake_window _ _).trans s.ctl.closeWindow_window
      case emptied => rw [Controller.armedReported_take, Controller.armed_take]
      case other =>
        intro other ne
        rw [Controller.armedReported_take, c.armed_other _ _ ne]
    case sync =>
      rintro x unused rfl isOpen session
      have time : ms x = c.takeMs := (c.takeMs_session session).symm
      have fields : recFields (c.syncStarted sl) = codeByte 2 := by
        simp only [recFields, Controller.recState, c.syncStarted_job]
        rfl
      rw [time]
      exact ⟨c.syncStarted sl, c.openingRun none c.takeMs, c.upKeys,
        answers (fields ▸ recArm_sync idle unused (c.syncOpen_iff.2 isOpen)),
        (c.armedReported_frame sl .sync).trans (Controller.recStart_frame _ _ _), c.syncStarted_job sl, rfl, rfl, rfl, rfl,
        c.mem_upKeys, c.upKeys_sorted, c.syncStarted_take sl, fun _ ne => c.syncStarted_other sl ne,
        c.syncStarted_queued sl⟩


/-! ### REC_MARK, REC_STOP and the limit timer (R165, R166, R168) -/

namespace Controller

variable {c : Controller} {j : RecJob} {run : RecRun}

/-- R160: the record time of a FREE recording is the ms since its start. -/
theorem recTime_free {t0 : Time} (hr : j.run = some run) (free : j.mode = .free) (h : run.start = some t0) :
    c.recTime j = (c.now - t0).toNat / 1000 := by
  obtain ⟨target, mode, r⟩ := j
  obtain ⟨start⟩ := run
  obtain rfl : mode = .free := free
  obtain rfl : r = some _ := hr
  obtain rfl : start = some t0 := h
  rfl

/-- R160: the record time of a SYNC recording is the Player's take time. -/
theorem recTime_sync (sync : j.mode = .sync) : c.recTime j = c.takeMs := by rw [recTime, sync]

theorem recState_ne_recording (h : c.recState ≠ .recording) : ∀ j, c.recorder.job = some j → j.run = none := by
  intro j hj
  by_contra running
  exact h (by rw [recState, hj]; exact if_pos (Option.ne_none_iff_isSome.1 running))

end Controller

section Mark

variable {c : Controller} {j : RecJob} {run : RecRun} {n : Nat}

theorem recMark_bad (h : 15 < n) : recMark n c = (c, bare .badValue) := if_pos h

theorem recMark_idle (small : n ≤ 15) (h : ∀ j, c.recorder.job = some j → j.run = none) :
    recMark n c = (c, bare .badState) := by
  rw [recMark, if_neg (Nat.not_lt.2 small)]
  split
  · next j hj =>
    rw [h j hj]
  · rfl

/-- The record of a mark at a record time. -/
def markAt (t n : Nat) : TakeRec := { time := t, kind := .mark, subject := n, value := 0 }

theorem recMark_writes (small : n ≤ 15) (hj : c.recorder.job = some j) (hr : j.run = some run) : recMark n c =
    (c.recAppend j (markAt (c.recTime j) n),
      { code := .ok, fields := bytesLE 2 n ++ bytesLE 3 (c.recTime j) ++ bytesLE 2 (c.count j.target + 1) }) := by
  have written : c.recWrite .mark n 0 = c.recAppend j (markAt (c.recTime j) n) := c.recWrite_eq hj hr _ _ _
  have counted : (c.recAppend j (markAt (c.recTime j) n)).count j.target = c.count j.target + 1 := by
    rw [Controller.count, Controller.recAppend_records]
    exact List.length_append
  rw [← counted, ← written]
  obtain ⟨target, mode, r⟩ := j
  obtain rfl : r = some run := hr
  rw [recMark, if_neg (Nat.not_lt.2 small), hj]

theorem recStopRequest_idle (h : c.recorder.job = none) : recStopRequest c = (c, bare .already) := by
  rw [recStopRequest, h]

theorem stopLength_eq (c : Controller) (j : RecJob) : c.stopLength j = if j.run.isSome then c.recTime j else 0 := by
  rw [Controller.stopLength]
  cases j.run <;> rfl

theorem recStopRequest_stops (h : c.recorder.job = some j) : recStopRequest c =
    let c' := c.recStop j .request (c.stopLength j)
    (c', { code := .ok, fields := codeByte j.target.code ++ slotFields c' j.target ++ bytesLE 3 (c'.length j.target) }) := by
  rw [recStopRequest, h]

theorem recTimeLimit_stops {t0 : Time} (running : c.clock.suspended = false) (hj : c.recorder.job = some j)
    (hr : j.run = some run) (start : run.start = some t0) (due : 4200000000 ≤ (c.now - t0).toNat) :
    c.recTimeLimit = c.recStop j .timeLimit 4200000 := by
  obtain ⟨target, mode, r⟩ := j
  obtain ⟨st⟩ := run
  obtain rfl : r = some _ := hr
  obtain rfl : st = some t0 := start
  rw [Controller.recTimeLimit, hj]
  exact if_pos ⟨running, due⟩

end Mark

/-- What a stopped recording's slot shows of it. -/
theorem Controller.recStop_shows (c : Controller) (j : RecJob) (x : StopCause) (n : Nat) :
    let kept := settledTake .recorded (c.records j.target) n
    let c' := c.recStop j x n
    slotFields c' j.target = [Config.slotStateCode kept.isSome] ++ bytesLE 2 (c.count j.target) ∧
      c'.length j.target = if kept.isSome then n else 0 := by
  dsimp only
  rw [slotFields_eq, length_eq, recStop_take, count, settledTake]
  cases c.records j.target <;> exact ⟨rfl, rfl⟩

theorem settledTake_held (o : TakeOrigin) (rs : List TakeRec) (n : Nat) :
    (settledTake o rs n).isSome = !rs.isEmpty ∧
      (if (settledTake o rs n).isSome then n else 0) = if rs.isEmpty then 0 else n := by
  cases rs <;> exact ⟨rfl, rfl⟩

/-- Settles O48: a mark is one record appended, and each end is the one stop of section 9.4. -/
theorem marksAndRecorderStops : Obligations.MarksAndRecorderStops := by
  refine ⟨?mark, ?stop, ?limit⟩
  case mark =>
    intro tag n s sv c replies
    have answers : ∀ {c' code fields}, recMark n c = (c', { code := code, fields := fields }) → replies c' code fields :=
      fun h => .of_rule rfl sv h rfl rfl
    refine ⟨fun h => answers (recMark_bad h),
      fun small idle => answers (recMark_idle small (Controller.recState_ne_recording idle)),
      fun j run t0 hr free start => Controller.recTime_free hr free start, ?sync, ?writes⟩
    case sync =>
      intro j sync
      rw [Controller.recTime_sync sync]
      split
      · next x h => exact c.takeMs_session h
      · next h => exact c.takeMs_stopped h
    case writes =>
      intro j run small hj hr ms mark
      refine ⟨_, answers (recMark_writes small hj hr), c.recAppend_frame j mark, c.recAppend_records j mark,
        fun _ ne => c.recAppend_other j mark ne, ?room, ?fills⟩
      case room =>
        intro room
        have eq : c.recAppend j mark = c.withRecord j mark := c.recAppend_room j mark room
        refine ⟨eq ▸ Controller.setTake_recorder _ _ _, ?_⟩
        show (c.recAppend j mark).length j.target = 0
        rw [eq, Controller.length_eq, Controller.withRecord, Controller.setTake_take]
        rfl
      case fills =>
        intro full
        have eq : c.recAppend j mark = (c.withRecord j mark).recStop j .full ms := c.recAppend_fills j mark full
        have records := c.withRecord_records j mark
        have filled : ((c.withRecord j mark).records j.target).isEmpty = false := by simp [records]
        have counted : (c.withRecord j mark).count j.target = c.count j.target + 1 := by
          rw [Controller.count, records, List.length_append]
          rfl
        show (c.recAppend j mark).recorder.job = none ∧ (c.recAppend j mark).length j.target = ms ∧ (_ → _ → _ ∈ (c.recAppend j mark).link.queue)
        rw [eq]
        refine ⟨Controller.recStop_job _ _ _ _, ?_, fun on room => ?_⟩
        · rw [Controller.length_eq, Controller.recStop_take, settledTake, filled]
          rfl
        · have stopped := (c.withRecord j mark).recStop_queued j ms .full
            (by rw [Controller.withRecord, Controller.setTake_link]; exact on)
            (by rw [Controller.withRecord, Controller.setTake_link]; exact room)
          rw [filled, counted] at stopped
          have now : (c.withRecord j mark).now = c.now := congrArg StageClock.time (Controller.setTake_clock _ _ _)
          rw [now] at stopped
          exact stopped
  case stop =>
    intro tag s sv c
    refine ⟨fun h => .of_rule rfl sv (recStopRequest_idle h) rfl rfl, ?_⟩
    intro j hj length kept
    have length_stop : length = c.stopLength j := (stopLength_eq c j).symm
    obtain ⟨shown, lengthShown⟩ := c.recStop_shows j .request length
    obtain ⟨held, heldLength⟩ := settledTake_held .recorded (c.records j.target) length
    refine ⟨c.recStop j .request length, .of_rule rfl sv ?_ rfl rfl, c.recStop_frame j .request length,
      Controller.recStop_job _ _ _ _, c.recStop_take j length .request, fun _ ne => c.recStop_other j length .request ne, ?_⟩
    · rw [recStopRequest_stops hj, ← length_stop]
      dsimp only
      rw [shown, lengthShown, ← List.append_assoc (codeByte _)]
    · intro on room
      have stopped := c.recStop_queued j length .request on room
      rw [← heldLength, ← held] at stopped
      exact stopped
  case limit =>
    intro j run t0 s running awake hj hr start due
    refine ⟨_, .of_run rfl running (recTimeLimit_stops awake hj hr start due), s.ctl.recStop_frame j .timeLimit 4200000,
      Controller.recStop_job _ _ _ _, s.ctl.recStop_take j 4200000 .timeLimit,
      fun _ ne => s.ctl.recStop_other j 4200000 .timeLimit ne, ?_⟩
    intro on room held
    have stopped := s.ctl.recStop_queued j 4200000 .timeLimit on room
    have same : (if held then 4200000 else 0) = if (s.ctl.records j.target).isEmpty then 0 else 4200000 := by
      by_cases h : (s.ctl.records j.target).isEmpty = true
      · simp [held, h]
      · simp [held, h]
    rw [same]
    exact stopped

end Sys2Proof.Machine
end

section
/-! The LIVE voices on their rates (R119, R121), and the Pedal Unit (chapter 4): what a value, a fault and the sostenuto do. -/

namespace Sys2Proof.Machine

theorem RecRun.setLast_start (run : RecRun) (p v : Nat) : (run.setLast p v).start = run.start := by
  unfold RecRun.setLast
  split <;> rfl

namespace Controller

variable {a b c : Controller} {sel : Nat → Prop}

/-- R121: the SOUNDING LIVE voices on the selected keys are at the rates of their lines. -/
def LiveOnRate (sel : Nat → Prop) (c : Controller) : Prop :=
  ∀ i n, c.voice i = some n → n.fading = false → n.source = .live → sel n.key → (n.rateClass, n.rate) = c.rateFor .live n.key

/-- R119: the rate of a LIVE voice is of the pool's lines, the damper of its key, the value of pedal 0 and the sostenuto set. -/
theorem rateFor_live_congr {k : Nat} (decay : b.pool.decay = a.pool.decay)
    (limit : b.pool.damperLimit = a.pool.damperLimit) (up : (b.key k).state.up = (a.key k).state.up)
    (value : (b.pedal 0).value = (a.pedal 0).value) (held : b.pedals.sostenuto = a.pedals.sostenuto) :
    b.rateFor .live k = a.rateFor .live k := by
  simp only [rateFor, reduceCtorEq, false_and, if_false, decayEntry, decay, limit, damperUp, up, inSostenuto, held,
    damperValue, value]
  rfl

theorem LiveOnRate.congr (h : LiveOnRate sel a) (pool : b.pool = a.pool)
    (up : ∀ k, sel k → (b.key k).state.up = (a.key k).state.up)
    (value : (b.pedal 0).value = (a.pedal 0).value) (held : b.pedals.sostenuto = a.pedals.sostenuto) :
    LiveOnRate sel b := by
  intro i n hn sounding live hk
  rw [rateFor_live_congr (by rw [pool]) (by rw [pool]) (up _ hk) value held]
  refine h i n ?_ sounding live hk
  rw [← hn, voice, voice, pool]

/-- What touches neither the pool, the keys nor the pedals leaves the LIVE voices on their rates. -/
theorem LiveOnRate.of_frame {bs : List Block} (h : LiveOnRate sel a) (f : Frame bs a b) (pool : Block.pool ∉ bs)
    (keys : Block.keys ∉ bs) (pedals : Block.pedals ∉ bs) : LiveOnRate sel b :=
  h.congr (f.pool pool) (fun _ _ => by rw [key, key, f.keys keys]) (by rw [pedal, pedal, f.pedals pedals])
    (by rw [f.pedals pedals])

theorem reevaluate_onRate (c : Controller) {p : Note → Bool} (h : ∀ n : Note, n.source = .live → sel n.key → p n = true) :
    LiveOnRate sel (c.reevaluate p) := by
  intro i n hn sounding live hk
  rw [reevaluate_rateFor, c.reevaluate_rate hn sounding fun m source key => h m (source.trans live) (key ▸ hk), live]

theorem reevaluateKeys_onRate (c : Controller) (ks : List Nat) : LiveOnRate (· ∈ ks) (c.reevaluateKeys .live ks) :=
  c.reevaluate_onRate fun n live mem => by simp [live, mem]

theorem reevaluateSource_onRate (c : Controller) : LiveOnRate (fun _ => True) (c.reevaluateSource .live) :=
  c.reevaluate_onRate fun n live _ => by simp [live]

/-! ### A change of a pedal's value in the recording (R164) -/


variable (c)

theorem recWrite_records {j : RecJob} {run : RecRun} (hj : c.recorder.job = some j) (hr : j.run = some run)
    (kind : RecKind) (subject value : Nat) : (c.recWrite kind subject value).records j.target =
      c.records j.target ++ [{ time := c.recTime j, kind := kind, subject := subject, value := value }] := by
  rw [c.recWrite_eq hj hr, recAppend_records]

/-- R160: the record time is of the start of the recording. -/
theorem recTime_of_start (target : Slot) (mode : ClockMode) {r r' : RecRun} (h : r'.start = r.start) :
    c.recTime ⟨target, mode, some r'⟩ = c.recTime ⟨target, mode, some r⟩ := by
  obtain ⟨start⟩ := r
  obtain ⟨start'⟩ := r'
  obtain rfl : start' = start := h
  cases mode <;> cases start' <;> rfl

/-- R164: a value that the test passes is written, one that it does not pass is not. -/
theorem recPedal_records {j : RecJob} {run : RecRun} {p v : Nat} (hj : c.recorder.job = some j) (hr : j.run = some run)
    (passes : valueTest (run.lastOf p) v = true) : (c.recPedal p v).records j.target =
      c.records j.target ++ [{ time := c.recTime j, kind := .pedal, subject := p, value := v }] := by
  obtain ⟨target, mode, r⟩ := j
  obtain rfl : r = some run := hr
  rw [recPedal, hj]
  dsimp only
  rw [if_pos passes]
  have written := { c with recorder := { job := some ⟨target, mode, some (run.setLast p v)⟩ } }.recWrite_records
    (j := ⟨target, mode, some (run.setLast p v)⟩) rfl rfl .pedal p v
  have time := c.recTime_of_start target mode (run.setLast_start p v)
  rw [← time]
  exact written

end Controller

theorem valueTest_iff (earlier v : Nat) : valueTest earlier v = true ↔
    earlier + 4 ≤ v ∨ v + 4 ≤ earlier ∨ ((v = 0 ∨ v = 255) ∧ v ≠ earlier) := by
  simp [valueTest, or_assoc]

namespace Controller

variable (c : Controller)

/-! ### Writing a pedal -/

theorem setPedal_other {p q : Nat} (h : q ≠ p) (r : PedalRec) : (c.setPedal p r).pedal q = c.pedal q := by
  rw [pedal, setPedal, List.getElem?_set_ne h.symm]
  rfl


theorem setPedal_setPedal (p : Nat) (r r' : PedalRec) : (c.setPedal p r).setPedal p r' = c.setPedal p r' := by
  simp only [setPedal, List.set_set]

/-- Writing a pedal back as it stands changes nothing. -/
theorem setPedal_self (p : Nat) : c.setPedal p (c.pedal p) = c := by
  have same : c.pedals.recs.set p (c.pedal p) = c.pedals.recs := by
    refine List.ext_getElem? fun q => ?_
    rw [List.getElem?_set]
    split
    · next e =>
      subst e
      rw [pedal]
      split
      · next lt => simp [lt]
      · next ge => simp [ge]
    · rfl
  exact congrArg (fun l => { c with pedals := { c.pedals with recs := l } }) same

/-! ### The sostenuto (R70, R71, R73) -/

/-- R73: the sostenuto disengaged, not yet reported. -/
def released : Controller := { c with pedals := { c.pedals with engaged := false, sostenuto := [] } }

theorem released_tells : Tells 0 c c.released := .of_link rfl

theorem sostenutoOff_eq : c.sostenutoOff =
    (c.released.report (.sostenutoOff c.pedals.sostenuto.length)).reevaluateKeys .live c.pedals.sostenuto := rfl

theorem sostenutoOff_pedals : c.sostenutoOff.pedals = { c.pedals with engaged := false, sostenuto := [] } :=
  ((reevaluateKeys_frame _ _ _).pedals (by simp)).trans ((report_frame _ _).pedals (by simp))

theorem sostenutoOff_onRate : LiveOnRate (· ∈ c.pedals.sostenuto) c.sostenutoOff := reevaluateKeys_onRate _ _

theorem sostenutoOff_tells : Tells 2 c c.sostenutoOff := by
  rw [sostenutoOff_eq]
  exact (c.released_tells.trans (report_tells _ _)).trans (reevaluate_tells _ _)

theorem sostenutoOff_queued (on : c.link.mask.getLsbD 1 = true) (room : c.link.queue.length < 64) :
    { time := c.now, report := .sostenutoOff c.pedals.sostenuto.length } ∈ c.sostenutoOff.link.queue :=
  (reevaluate_keeps (skip := []) _ _).queued (report_queued (c := c.released) on room) (by simp)

/-- R70, R73: what a comparison leaves of the Pedal Unit. -/
theorem sostenutoCompare_pedals (v : Nat) : (c.sostenutoCompare v).pedals =
    { c.pedals with
      engaged := c.pedals.engaged && decide (96 ≤ v)
      hold := if c.pedals.engaged then c.pedals.hold else if 128 ≤ v then some (c.pedals.hold.getD (after c.now 15000)) else none
      sostenuto := if c.pedals.engaged = true ∧ v < 96 then [] else c.pedals.sostenuto } := by
  unfold sostenutoCompare
  split
  · next on =>
    split
    · next low => simp [sostenutoOff_pedals, on, low, Nat.not_le.2 low]
    · next high => simp [← on, high, Nat.not_lt.1 high]
  · next off =>
    have off := Bool.eq_false_iff.2 off
    split
    · simp [off]
    · simp [off]

/-- R73: an engaged sostenuto disengages below the release level. -/
theorem sostenutoCompare_releases {v : Nat} (on : c.pedals.engaged = true) (low : v < 96) :
    c.sostenutoCompare v = c.sostenutoOff := by
  rw [sostenutoCompare, if_pos on, if_pos low]

theorem sostenutoCompare_quiet {v : Nat} (h : ¬ (c.pedals.engaged = true ∧ v < 96)) :
    Frame [.pedals] c (c.sostenutoCompare v) := by
  unfold sostenutoCompare
  split
  · next on =>
    rw [if_neg fun low => h ⟨on, low⟩]
    exact .refl _ _
  · split
    · exact c.pedals_frame _
    · exact c.pedals_frame _

theorem sostenutoCompare_tells (v : Nat) : Tells 2 c (c.sostenutoCompare v) := by
  by_cases h : c.pedals.engaged = true ∧ v < 96
  · rw [c.sostenutoCompare_releases h.1 h.2]
    exact c.sostenutoOff_tells
  · exact .of_frame (c.sostenutoCompare_quiet h) (by simp)

/-! ### Handing a value on (R65) and the value report (R75) -/

section Hand

variable (p v : Nat)

theorem handValue_tells : Tells 2 c (c.handValue p v) :=
  (Tells.ite (c.reevaluate_tells _) (.refl _ _)).trans (recPedal_tells _ _ _)

theorem handValue_onRate : LiveOnRate (fun _ => True) (c.handValue 0 v) :=
  c.reevaluateSource_onRate.of_frame (recPedal_frame _ _ _) (by simp) (by simp) (by simp)

/-- Pedals 1 and 2 hand nothing to the pool. -/
theorem handValue_frame_other {p : Nat} (h : p ≠ 0) : Frame [.takes, .recorder, .link] c (c.handValue p v) := by
  rw [handValue, if_neg h]
  exact c.recPedal_frame p v

theorem handValue_records {j : RecJob} {run : RecRun} (hj : c.recorder.job = some j) (hr : j.run = some run)
    (passes : valueTest (run.lastOf p) v = true) : (c.handValue p v).records j.target =
      c.records j.target ++ [{ time := c.recTime j, kind := .pedal, subject := p, value := v }] := by
  obtain ⟨c', hc⟩ : ∃ c', c' = if p = 0 then c.reevaluateSource .live else c := ⟨_, rfl⟩
  have f : Frame [.pool, .link] c c' := by
    rw [hc]
    split
    · exact c.reevaluateSource_frame _
    · exact .refl _ _
  rw [handValue, ← hc, c'.recPedal_records (by rw [f.recorder (by simp), hj]) hr passes,
    records_congr (f.takes (by simp)), recTime_congr (f.clock (by simp)) (f.player (by simp))]

theorem valueReport_passes (h : valueTest (c.pedal p).lastReported v = true) :
    c.valueReport p v = (c.setPedal p { c.pedal p with lastReported := v }).report (.pedalValue p v) := if_pos h

theorem valueReport_silent (h : ¬ valueTest (c.pedal p).lastReported v = true) : c.valueReport p v = c := if_neg h

theorem valueReport_frame : Frame [.pedals, .link] c (c.valueReport p v) := by
  by_cases h : valueTest (c.pedal p).lastReported v = true
  · rw [c.valueReport_passes p v h]
    exact ((c.setPedal_frame _ _).widen (by simp)).trans ((report_frame _ _).widen (by simp))
  · rw [c.valueReport_silent p v h]
    exact .refl _ _

/-- R75: the value report check changes only the value last reported. -/
theorem valueReport_pedals : (c.valueReport p v).pedals = (c.setPedal p { c.pedal p with
    lastReported := if valueTest (c.pedal p).lastReported v then v else (c.pedal p).lastReported }).pedals := by
  by_cases h : valueTest (c.pedal p).lastReported v = true
  · rw [c.valueReport_passes p v h, (report_frame _ _).pedals (by simp), if_pos h]
  · rw [c.valueReport_silent p v h, if_neg h]
    exact congrArg pedals (c.setPedal_self p).symm

theorem valueReport_queued (passes : valueTest (c.pedal p).lastReported v = true) (on : c.link.mask.getLsbD 1 = true)
    (room : c.link.queue.length < 64) :
    { time := c.now, report := .pedalValue p v } ∈ (c.valueReport p v).link.queue := by
  rw [c.valueReport_passes p v passes]
  exact report_queued (c := c.setPedal _ _) on room

end Hand

/-! ### A value taken: compared and handed on (R65, R66, R70, R73) -/

section PassOn

variable (p v old : Nat)

/-- R70, R73: a value of the sostenuto pedal is compared. -/
def compared : Controller := if p = 1 then c.sostenutoCompare v else c

/-- R65: a value compared, and handed on where it is new. -/
def passOn : Controller := if v = old then c.compared p v else (c.compared p v).handValue p v

theorem compared_frame : Frame [.pool, .pedals, .link] c (c.compared p v) := by
  unfold compared
  split
  · exact c.sostenutoCompare_frame v
  · exact .refl _ _

theorem compared_tells : Tells 2 c (c.compared p v) := .ite (c.sostenutoCompare_tells v) (.refl _ _)

theorem passOn_tells : Tells 4 c (c.passOn p v old) :=
  .ite ((c.compared_tells p v).weaken (by decide)) ((c.compared_tells p v).trans (handValue_tells _ _ _))

theorem passOn_frame : Frame [.pedals, .pool, .takes, .recorder, .link] c (c.passOn p v old) := by
  have compares := c.compared_frame p v
  unfold passOn
  split
  · exact compares.widen (by simp)
  · exact (compares.widen (by simp)).trans ((handValue_frame _ _ _).widen (by simp))

/-- What is handed on touches no pedal. -/
theorem passOn_pedals : (c.passOn p v old).pedals = (c.compared p v).pedals := by
  unfold passOn
  split
  · rfl
  · exact (handValue_frame _ _ _).pedals (by simp)

theorem compared_recs : (c.compared p v).pedals.recs = c.pedals.recs := by
  unfold compared
  split
  · rw [sostenutoCompare_pedals]
  · rfl

theorem passOn_recs : (c.passOn p v old).pedals.recs = c.pedals.recs := by rw [passOn_pedals, compared_recs]

theorem passOn_pedal : (c.passOn p v old).pedal = c.pedal := by
  funext q
  rw [pedal, pedal, passOn_pedals, compared_recs]

variable {p v old}

theorem passOn_of_other (h : p ≠ 1) : (c.passOn p v old).pedals = c.pedals := by
  rw [passOn_pedals, compared, if_neg h]

theorem passOn_of_same (same : v = old) (h : p ≠ 1) : c.passOn p v old = c := by
  rw [passOn, if_pos same, compared, if_neg h]

theorem passOn_quiet_takes (same : v = old) : (c.passOn p v old).takes = c.takes ∧
    (c.passOn p v old).recorder = c.recorder := by
  rw [passOn, if_pos same]
  exact ⟨(c.compared_frame p v).takes (by simp), (c.compared_frame p v).recorder (by simp)⟩

theorem passOn_pool (other : p ≠ 0) (quiet : ¬ (p = 1 ∧ c.pedals.engaged = true ∧ v < 96)) :
    (c.passOn p v old).pool = c.pool := by
  have compares : (c.compared p v).pool = c.pool := by
    unfold compared
    split
    · next e => exact (c.sostenutoCompare_quiet fun h => quiet ⟨e, h⟩).pool (by simp)
    · rfl
  unfold passOn
  split
  · exact compares
  · exact ((handValue_frame_other _ _ other).pool (by simp)).trans compares

theorem compared_off (on : c.pedals.engaged = true) (low : v < 96) : c.compared 1 v = c.sostenutoOff :=
  (if_pos rfl).trans (c.sostenutoCompare_releases on low)

theorem passOn_off_onRate (on : c.pedals.engaged = true) (low : v < 96) :
    LiveOnRate (· ∈ c.pedals.sostenuto) (c.passOn 1 v old) := by
  rw [passOn, c.compared_off on low]
  split
  · exact c.sostenutoOff_onRate
  · exact c.sostenutoOff_onRate.of_frame (handValue_frame_other _ _ (by decide)) (by simp) (by simp) (by simp)

theorem passOn_off_queued (engaged : c.pedals.engaged = true) (low : v < 96) (on : c.link.mask.getLsbD 1 = true)
    (room : c.link.queue.length < 64) :
    { time := c.now, report := .sostenutoOff c.pedals.sostenuto.length } ∈ (c.passOn 1 v old).link.queue := by
  rw [passOn, c.compared_off engaged low]
  split
  · exact c.sostenutoOff_queued on room
  · exact (handValue_keeps (skip := []) _ _ _).queued (c.sostenutoOff_queued on room) (by simp)

theorem passOn_damper_onRate (new : v ≠ old) : LiveOnRate (fun _ => True) (c.passOn 0 v old) := by
  rw [passOn, if_neg new]
  exact handValue_onRate _ _

theorem passOn_records {j : RecJob} {run : RecRun} (new : v ≠ old) (hj : c.recorder.job = some j) (hr : j.run = some run)
    (passes : valueTest (run.lastOf p) v = true) : (c.passOn p v old).records j.target =
      c.records j.target ++ [{ time := c.recTime j, kind := .pedal, subject := p, value := v }] := by
  have f := c.compared_frame p v
  rw [passOn, if_neg new, handValue_records _ p v (by rw [f.recorder (by simp), hj]) hr passes,
    records_congr (f.takes (by simp)), recTime_congr (f.clock (by simp)) (f.player (by simp))]

end PassOn

/-! ### A sample and a fault -/

theorem takeValue_eq (p v : Nat) : c.takeValue p v =
    let c' := (c.setPedal p { c.pedal p with value := v }).passOn p v (c.pedal p).value
    if v = (c.pedal p).value then c' else c'.valueReport p v := by
  by_cases same : v = (c.pedal p).value
  · have stands : c.setPedal p { c.pedal p with value := v } = c := by
      subst same
      exact c.setPedal_self p
    rw [stands, passOn, if_pos same, if_pos same, compared]
    simp [takeValue, same]
  · simp [takeValue, passOn, compared, same]

/-- R3, R66, R67: the record of pedal p after a reading, its value aside. -/
def watched (p raw : Nat) : PedalRec := { (c.pedal p).watch c.now raw with latest := some (c.now, raw) }

theorem watched_eq (p raw : Nat) : c.watched p raw =
    { c.pedal p with
      latest := some (c.now, raw)
      faultTimer := if (c.pedal p).fault then (c.pedal p).faultTimer
        else if inRange raw then none else some ((c.pedal p).faultTimer.getD (c.now + 50000#32))
      recovery := if (c.pedal p).fault = false then (c.pedal p).recovery
        else if inRange raw then some ((c.pedal p).recovery.getD (c.now + 500000#32)) else none } := by
  unfold watched PedalRec.watch
  split
  · next h => simp [h]; rfl
  · next h => simp [h]; rfl

theorem watched_kept (p raw : Nat) : (c.watched p raw).fault = (c.pedal p).fault ∧
    (c.watched p raw).value = (c.pedal p).value ∧ (c.watched p raw).valueAt = (c.pedal p).valueAt := by
  rw [watched_eq]
  exact ⟨rfl, rfl, rfl⟩

/-- R64: a sample takes its value where the pedal is well and the reading in range. -/
theorem pedalSample_eq {p raw : Nat} (active : c.link.state = .active) : c.pedalSample p raw =
    if (c.pedal p).fault = false ∧ inRange raw = true then
      (c.setPedal p (c.watched p raw)).takeValue p ((c.pedal p).valueAt raw)
    else c.setPedal p (c.watched p raw) := by
  obtain ⟨fault, -, valueAt⟩ := c.watched_kept p raw
  rw [← fault, ← valueAt, pedalSample, if_pos active]
  rfl

theorem pedalSample_kept {p raw : Nat} (active : c.link.state = .active)
    (out : ¬ ((c.pedal p).fault = false ∧ inRange raw = true)) :
    c.pedalSample p raw = c.setPedal p (c.watched p raw) := by
  rw [pedalSample_eq c active, if_neg out]

/-- What a value leaves before the value report check. -/
def handedOn (p raw : Nat) : Controller :=
  (c.setPedal p { c.watched p raw with value := (c.pedal p).valueAt raw }).passOn p ((c.pedal p).valueAt raw)
    (c.pedal p).value

/-- R75: a changed value is checked for a report. -/
def valueChecked (p v old : Nat) : Controller := if v = old then c else c.valueReport p v

theorem pedalSample_value {p raw : Nat} (active : c.link.state = .active) (sized : p < c.pedals.recs.length)
    (well : (c.pedal p).fault = false) (within : inRange raw = true) : c.pedalSample p raw =
      (c.handedOn p raw).valueChecked p ((c.pedal p).valueAt raw) (c.pedal p).value := by
  obtain ⟨-, value, -⟩ := c.watched_kept p raw
  rw [pedalSample_eq c active, if_pos ⟨well, within⟩, takeValue_eq, c.setPedal_pedal sized, setPedal_setPedal, value]
  rfl

section Report

variable {p v old : Nat}

/-- A value taken touches what its handing on touches. -/
theorem valueReport_pedal (sized : p < c.pedals.recs.length) : (c.valueReport p v).pedal p =
    { c.pedal p with lastReported := if valueTest (c.pedal p).lastReported v then v else (c.pedal p).lastReported } := by
  rw [pedal, valueReport_pedals]
  exact c.setPedal_pedal sized _

theorem valueReport_pedal_other {q : Nat} (h : q ≠ p) : (c.valueReport p v).pedal q = c.pedal q := by
  rw [pedal, valueReport_pedals]
  exact c.setPedal_other h _

theorem valueReport_value (q : Nat) : ((c.valueReport p v).pedal q).value = (c.pedal q).value := by
  by_cases h : q = p
  · subst h
    by_cases sized : q < c.pedals.recs.length
    · rw [c.valueReport_pedal sized]
    · have same (r : PedalRec) : c.setPedal q r = c := by
        rw [setPedal, List.set_eq_of_length_le (Nat.le_of_not_lt sized)]
      rw [pedal, valueReport_pedals, same]
      rfl
  · rw [c.valueReport_pedal_other h]

theorem LiveOnRate.valueReport {sel : Nat → Prop} {c : Controller} (h : LiveOnRate sel c) (p v : Nat) :
    LiveOnRate sel (c.valueReport p v) :=
  have f := c.valueReport_frame p v
  h.congr (f.pool (by simp)) (fun _ _ => by rw [key, key, f.keys (by simp)]) (c.valueReport_value 0) (by rw [valueReport_pedals]; rfl)

theorem valueChecked_frame : Frame [.pedals, .link] c (c.valueChecked p v old) := by
  unfold valueChecked
  split
  · exact .refl _ _
  · exact c.valueReport_frame p v

theorem LiveOnRate.valueChecked {sel : Nat → Prop} {c : Controller} (h : LiveOnRate sel c) :
    LiveOnRate sel (c.valueChecked p v old) := by
  unfold Controller.valueChecked
  split
  · exact h
  · exact h.valueReport p v

theorem mem_valueChecked {q : QueuedReport} (h : q ∈ c.link.queue) : q ∈ (c.valueChecked p v old).link.queue := by
  unfold valueChecked
  split
  · exact h
  · exact (c.valueReport_keeps (skip := []) p v).queued h (by simp)

theorem valueChecked_pedal (sized : p < c.pedals.recs.length) : (c.valueChecked p v old).pedal p =
    { c.pedal p with
      lastReported := if v ≠ old ∧ valueTest (c.pedal p).lastReported v then v else (c.pedal p).lastReported } := by
  unfold valueChecked
  split
  · next same => simp [same]
  · next new => simp [c.valueReport_pedal sized, new]

theorem valueChecked_other {q : Nat} (h : q ≠ p) : (c.valueChecked p v old).pedal q = c.pedal q := by
  unfold valueChecked
  split
  · rfl
  · exact c.valueReport_pedal_other h

/-- The value report check leaves the sostenuto and the cut. -/
theorem valueChecked_unit : (c.valueChecked p v old).pedals.softCut = c.pedals.softCut ∧
    (c.valueChecked p v old).pedals.engaged = c.pedals.engaged ∧ (c.valueChecked p v old).pedals.hold = c.pedals.hold ∧
    (c.valueChecked p v old).pedals.sostenuto = c.pedals.sostenuto := by
  unfold valueChecked
  split
  · exact ⟨rfl, rfl, rfl, rfl⟩
  · rw [valueReport_pedals]
    exact ⟨rfl, rfl, rfl, rfl⟩

end Report

/-- R70, R73: what taking a value leaves of the sostenuto and the cut. -/
theorem passOn_unit (p v old : Nat) : let u := c.pedals
    (c.passOn p v old).pedals.softCut = u.softCut ∧
    ((c.passOn p v old).pedals.engaged, (c.passOn p v old).pedals.hold, (c.passOn p v old).pedals.sostenuto) =
      (if p ≠ 1 then (u.engaged, u.hold, u.sostenuto)
       else if u.engaged then (if v < 96 then (false, u.hold, []) else (true, u.hold, u.sostenuto))
       else if 128 ≤ v then (false, some (u.hold.getD (c.now + 15000#32)), u.sostenuto)
       else (false, none, u.sostenuto)) := by
  dsimp only
  by_cases h : p = 1
  · subst h
    rw [passOn_pedals, compared, if_pos rfl, sostenutoCompare_pedals, if_neg (not_not.2 rfl)]
    refine ⟨rfl, ?_⟩
    by_cases on : c.pedals.engaged = true
    · by_cases low : v < 96
      · simp [on, low, Nat.not_le.2 low]
      · simp [on, low, Nat.not_lt.1 low]
    · by_cases high : 128 ≤ v
      · simp [on, high]
        rfl
      · simp [on, high]
  · rw [passOn_of_other _ h, if_pos h]
    exact ⟨rfl, rfl⟩

end Controller

/-- Settles O35: the value, its comparison and its handing on, and the value report check, in this order. -/
theorem pedalSampleTakesItsValue : Obligations.PedalSampleTakesItsValue := by
  intro p raw s sv sized hp hraw r inR v passes
  have len : p < s.ctl.pedals.recs.length := by rw [sized.pedals]; exact hp
  have within : inR ↔ Machine.inRange raw = true := (decide_eq_true_iff).symm
  have leaves : ∀ {c}, s.ctl.pedalSample p raw = c → Leaves (.pedalSample p raw) s c := fun h =>
    .of_run (by rw [exec, execPedalSample, runReading, if_pos hraw, State.runPedal, if_pos hp]) sv.1 h
  have tests (e : Nat) : passes e ↔ valueTest e v = true := (valueTest_iff e v).symm
  have watched := s.ctl.watched_eq p raw
  by_cases taken : r.fault = false ∧ Machine.inRange raw = true
  case neg =>
    have value : v = r.value := if_neg (by rw [within]; exact taken)
    refine ⟨_, leaves (s.ctl.pedalSample_kept sv.2 taken), (s.ctl.setPedal_frame _ _).widen (by simp), ?_,
      fun q _ ne => s.ctl.setPedal_other ne _, rfl, ?_, ?_, fun _ _ => rfl, fun _ _ => ⟨rfl, rfl, rfl, rfl⟩,
      fun ne => absurd value ne, fun ne => absurd value ne, fun ne => absurd value ne⟩
    · rw [s.ctl.setPedal_pedal len, watched]
      simp only [within, value, ne_eq, not_true_eq_false, false_and, if_false]
      rfl
    · rw [if_pos]
      · rfl
      · rw [within]
        by_cases well : r.fault = false
        · exact .inr (.inr fun inside => taken ⟨well, inside⟩)
        · exact .inr (.inl (Bool.not_eq_false _ ▸ well))
    · exact fun _ well inside => absurd ⟨well, within.1 inside⟩ taken
  case pos =>
    obtain ⟨well, inside⟩ := taken
    have value : v = r.valueAt raw := if_pos ⟨well, within.2 inside⟩
    obtain ⟨c0, hc0⟩ : ∃ c0, c0 = s.ctl.setPedal p { s.ctl.watched p raw with value := v } := ⟨_, rfl⟩
    obtain ⟨c1, hc1⟩ : ∃ c1, c1 = c0.passOn p v r.value := ⟨_, rfl⟩
    obtain ⟨c2, hc2⟩ : ∃ c2, c2 = c1.valueChecked p v r.value := ⟨_, rfl⟩
    have rule : s.ctl.pedalSample p raw = c2 := by
      rw [s.ctl.pedalSample_value sv.2 len well inside, Controller.handedOn, hc2, hc1, hc0, value]
    have f0 : Controller.Frame [.pedals] s.ctl c0 := hc0 ▸ s.ctl.setPedal_frame _ _
    have f1 : Controller.Frame [.pedals, .pool, .takes, .recorder, .link] c0 c1 := hc1 ▸ c0.passOn_frame p v r.value
    have f2 : Controller.Frame [.pedals, .link] c1 c2 := hc2 ▸ c1.valueChecked_frame
    have now0 : c0.now = s.ctl.now := congrArg StageClock.time (f0.clock (by simp))
    have pedal0 : c0.pedal p = { s.ctl.watched p raw with value := v } := hc0 ▸ s.ctl.setPedal_pedal len _
    have unit0 : c0.pedals.engaged = s.ctl.pedals.engaged ∧ c0.pedals.hold = s.ctl.pedals.hold ∧
        c0.pedals.sostenuto = s.ctl.pedals.sostenuto ∧ c0.pedals.softCut = s.ctl.pedals.softCut := hc0 ▸ ⟨rfl, rfl, rfl, rfl⟩
    refine ⟨c2, leaves rule, ((f0.widen (by simp)).trans f1).trans (f2.widen (by simp)), ?sampled, ?other, ?cut, ?unit,
      ?off, ?pool, ?same, ?damper, ?record, ?report⟩
    case sampled =>
      have len1 : p < c1.pedals.recs.length := by
        rw [hc1, Controller.passOn_recs, hc0, Controller.setPedal, List.length_set]
        exact len
      rw [hc2, c1.valueChecked_pedal len1, hc1, Controller.passOn_pedal, pedal0, watched]
      simp only [within, tests]
      rfl
    case other =>
      intro q _ ne
      rw [hc2, c1.valueChecked_other ne, hc1, Controller.passOn_pedal, hc0, s.ctl.setPedal_other ne]
    case cut =>
      rw [hc2, c1.valueChecked_unit.1, hc1, (c0.passOn_unit p v r.value).1, unit0.2.2.2]
    case unit =>
      obtain ⟨-, engaged, hold, sostenuto⟩ := c1.valueChecked_unit (p := p) (v := v) (old := r.value)
      obtain ⟨engaged0, hold0, sostenuto0, -⟩ := unit0
      rw [hc2, engaged, hold, sostenuto, hc1, (c0.passOn_unit p v r.value).2, engaged0, hold0, sostenuto0, now0]
      simp only [within, well, inside, Bool.false_eq_true, not_true_eq_false, or_false]
    case off =>
      rintro rfl - - on low keys
      have keys0 : keys = c0.pedals.sostenuto := unit0.2.2.1.symm
      have on0 : c0.pedals.engaged = true := unit0.1.trans on
      refine ⟨?_, fun enabled room => ?_⟩
      · rw [hc2, hc1, keys0]
        exact (c0.passOn_off_onRate on0 low).valueChecked
      · rw [hc2, hc1, keys0]
        have link0 := f0.link (by simp)
        have queued := c0.passOn_off_queued (old := r.value) on0 low (by rw [link0]; exact enabled)
          (by rw [link0]; exact Nat.lt_trans room (by decide))
        rw [now0] at queued
        exact Controller.mem_valueChecked _ queued
    case pool =>
      intro ne quiet
      rw [f2.pool (by simp), hc1, c0.passOn_pool ne fun ⟨e, on, low⟩ =>
        quiet ⟨e, well, within.2 inside, unit0.1.symm.trans on, low⟩, f0.pool (by simp)]
    case same =>
      intro same ne
      have stands : c2 = c0 := by rw [hc2, Controller.valueChecked, if_pos same, hc1, Controller.passOn_of_same _ same ne]
      rw [stands]
      exact ⟨f0.pool (by simp), f0.takes (by simp), f0.recorder (by simp), f0.link (by simp)⟩
    case damper =>
      rintro new rfl i n hn sounding live
      have onRate : Controller.LiveOnRate (fun _ => True) c2 := by
        rw [hc2, hc1]
        exact (c0.passOn_damper_onRate new).valueChecked
      exact onRate i n hn sounding live trivial
    case record =>
      intro new j run hj hr pass
      rw [Controller.records_congr (f2.takes (by simp)), hc1,
        c0.passOn_records new (by rw [f0.recorder (by simp), hj]) hr ((tests _).1 pass),
        Controller.records_congr (f0.takes (by simp)), Controller.recTime_congr (f0.clock (by simp)) (f0.player (by simp))]
    case report =>
      intro new pass on room
      have tells : Controller.Tells 4 s.ctl c1 := by
        rw [hc1]
        exact (Controller.Tells.of_frame (n := 0) f0 (by simp)).trans (c0.passOn_tells p v r.value)
      have last : (c1.pedal p).lastReported = r.lastReported := by
        rw [hc1, Controller.passOn_pedal, pedal0, watched]
      have now : c1.now = s.ctl.now := (congrArg StageClock.time (f1.clock (by simp))).trans now0
      rw [hc2, Controller.valueChecked, if_neg new, ← now]
      have := tells.grows
      exact c1.valueReport_queued p v (by rw [last]; exact (tests _).1 pass) (by rw [tells.mask]; exact on) (by omega)

namespace Controller

/-- R2: a timer whose deadline is reached expires while the clock runs. -/
theorem expired_of_due {c : Controller} {timer : Option Time} {d : Time} (running : c.clock.suspended = false)
    (h : timer = some d) (due : (c.now - d).toNat < 2147483648) : c.expired timer = true := by
  rw [h, expired, running]
  exact (Bool.true_and _).trans (decide_eq_true due)

variable (c : Controller)

/-- R66: the record of a pedal that enters FAULT. -/
def faulted (p : Nat) : PedalRec :=
  { c.pedal p with fault := true, faultTimer := none, recovery := none, value := 0, lastReported := 0 }

/-- R66: the reading that a fault reports, 0 without a sample. -/
def lastRaw (p : Nat) : Nat := ((c.pedal p).latest.map Prod.snd).getD 0

theorem pedalFault_eq {p : Nat} (well : (c.pedal p).fault = false) (due : c.expired (c.pedal p).faultTimer = true) :
    c.pedalFault p = ((c.setPedal p (c.faulted p)).passOn p 0 (c.pedal p).value).report
      (.pedalFault p (c.lastRaw p)) := by
  rw [pedalFault, if_pos ⟨well, due⟩, lastRaw, faulted]
  simp only [passOn, eq_comm (a := 0)]
  cases (c.pedal p).latest <;> rfl

theorem pedalClear_eq {p : Nat} (faulty : (c.pedal p).fault = true) (due : c.expired (c.pedal p).recovery = true) :
    c.pedalClear p = (c.setPedal p { c.pedal p with fault := false, recovery := none }).report (.pedalClear p) :=
  if_pos ⟨faulty, due⟩

/-- R71: the sostenuto engaged over the keys whose dampers are up, not yet reported. -/
def engagedOver : Controller :=
  { c with pedals := { c.pedals with engaged := true, hold := none, sostenuto := c.upKeys } }

theorem sostenutoOn_eq (due : c.expired c.pedals.hold = true) : c.sostenutoOn =
    (c.engagedOver.report (.sostenutoOn c.upKeys.length)).reevaluateKeys .live c.upKeys := if_pos due

end Controller

/-- Settles O36: a fault passes the value 0 on as a sample would; the sostenuto engages over the keys then up. -/
theorem pedalTimers : Obligations.PedalTimers := by
  intro s run sized running due
  refine ⟨?fault, ?clear, ?engage⟩
  case fault =>
    intro p d hp well timer elapsed
    have len : p < s.ctl.pedals.recs.length := by rw [sized.pedals]; exact hp
    obtain ⟨c0, hc0⟩ : ∃ c0, c0 = s.ctl.setPedal p (s.ctl.faulted p) := ⟨_, rfl⟩
    obtain ⟨c1, hc1⟩ : ∃ c1, c1 = c0.passOn p 0 (s.ctl.pedal p).value := ⟨_, rfl⟩
    have rule : s.ctl.pedalFault p = c1.report (.pedalFault p (s.ctl.lastRaw p)) := by
      rw [s.ctl.pedalFault_eq well (Controller.expired_of_due running timer elapsed), hc1, hc0]
    have f0 : Controller.Frame [.pedals] s.ctl c0 := hc0 ▸ s.ctl.setPedal_frame _ _
    have f1 : Controller.Frame [.pedals, .pool, .takes, .recorder, .link] c0 c1 := hc1 ▸ c0.passOn_frame p 0 _
    have f2 := c1.report_frame (.pedalFault p (s.ctl.lastRaw p))
    have link0 := f0.link (by simp)
    have now0 : c0.now = s.ctl.now := congrArg StageClock.time (f0.clock (by simp))
    have unit0 : c0.pedals.engaged = s.ctl.pedals.engaged ∧ c0.pedals.hold = s.ctl.pedals.hold ∧
        c0.pedals.sostenuto = s.ctl.pedals.sostenuto := hc0 ▸ ⟨rfl, rfl, rfl⟩
    obtain ⟨engaged0, hold0, sostenuto0⟩ := unit0
    obtain ⟨-, unit1⟩ := c0.passOn_unit p 0 (s.ctl.pedal p).value
    rw [← hc1] at unit1
    obtain ⟨c2, hc2⟩ : ∃ c2, c2 = c1.report (.pedalFault p (s.ctl.lastRaw p)) := ⟨_, rfl⟩
    rw [← hc2] at rule f2
    have pedals2 : c2.pedals = c1.pedals := f2.pedals (by simp)
    have leaves : Leaves (.pedalFault p) s c2 := .of_run (by rw [exec, execPedalFault, State.runPedal, if_pos hp]) run rule
    refine ⟨c2, leaves, ((f0.widen (by simp)).trans f1).trans (f2.widen (by simp)), ?faulted, ?other, ?sostenuto, ?kept,
      ?off, ?damper, ?record, ?quiet, ?report⟩
    case faulted =>
      rw [Controller.pedal, pedals2]
      show c1.pedal p = _
      rw [hc1, Controller.passOn_pedal, hc0, s.ctl.setPedal_pedal len]
      rfl
    case other =>
      intro q _ ne
      rw [Controller.pedal, pedals2]
      show c1.pedal q = _
      rw [hc1, Controller.passOn_pedal, hc0, s.ctl.setPedal_other ne]
    case sostenuto =>
      rintro rfl
      rw [engaged0, hold0, sostenuto0] at unit1
      rw [pedals2]
      by_cases on : s.ctl.pedals.engaged = true
      · simp_all
      · simp_all
    case kept =>
      intro ne
      rw [pedals2, hc1, Controller.passOn_of_other _ ne]
      exact ⟨engaged0, hold0, sostenuto0⟩
    case off =>
      rintro rfl on keys
      have keys0 : keys = c0.pedals.sostenuto := sostenuto0.symm
      have on0 : c0.pedals.engaged = true := engaged0.trans on
      rw [keys0]
      refine ⟨?_, fun enabled room => ?_⟩
      · have onRate : Controller.LiveOnRate (· ∈ c0.pedals.sostenuto) c1 := hc1 ▸ c0.passOn_off_onRate on0 (by decide)
        exact onRate.of_frame f2 (by simp) (by simp) (by simp)
      · have queued := c0.passOn_off_queued (v := 0) (old := (s.ctl.pedal 1).value) on0 (by decide)
          (by rw [link0]; exact enabled) (by rw [link0]; exact Nat.lt_trans room (by decide))
        rw [now0, ← hc1] at queued
        rw [hc2]
        exact Controller.mem_report queued _
    case damper =>
      rintro rfl new i n hn sounding live
      have onRate : Controller.LiveOnRate (fun _ => True) c1 := hc1 ▸ c0.passOn_damper_onRate new.symm
      exact onRate.of_frame f2 (by simp) (by simp) (by simp) i n hn sounding live trivial
    case record =>
      intro j run new hj hr nonzero
      rw [Controller.records_congr (f2.takes (by simp)), hc1,
        c0.passOn_records new.symm (by rw [f0.recorder (by simp), hj]) hr ((valueTest_iff _ _).2 (by omega)),
        Controller.records_congr (f0.takes (by simp)), Controller.recTime_congr (f0.clock (by simp)) (f0.player (by simp))]
    case quiet =>
      intro zero
      obtain ⟨takes, recorder⟩ := c0.passOn_quiet_takes (p := p) (v := 0) zero.symm
      rw [f2.takes (by simp), f2.recorder (by simp), hc1, takes, recorder, f0.takes (by simp), f0.recorder (by simp)]
      exact ⟨rfl, rfl⟩
    case report =>
      intro on room
      have tells : Controller.Tells 4 s.ctl c1 := by
        rw [hc1]
        exact (Controller.Tells.of_frame (n := 0) f0 (by simp)).trans (c0.passOn_tells p 0 _)
      have now1 : c1.now = s.ctl.now := (congrArg StageClock.time (f1.clock (by simp))).trans now0
      refine ⟨s.ctl.lastRaw p, hc2 ▸ tells.queuedNow now1 on (by omega), fun t x h => ?_⟩
      rw [Controller.lastRaw, h]
      rfl
  case clear =>
    intro p d hp faulty timer elapsed
    exact .of_run (by rw [exec, execPedalClear, State.runPedal, if_pos hp]) run
      (s.ctl.pedalClear_eq faulty (Controller.expired_of_due running timer elapsed))
  case engage =>
    intro d timer elapsed
    refine ⟨_, s.ctl.upKeys, .of_run rfl run (s.ctl.sostenutoOn_eq (Controller.expired_of_due running timer elapsed)),
      ?_, ?_, s.ctl.mem_upKeys, s.ctl.upKeys_sorted, ?_, ?_⟩
    · exact (((s.ctl.pedals_frame _).widen (by simp)).trans ((Controller.report_frame _ _).widen (by simp))).trans
        ((Controller.reevaluateKeys_frame _ _ _).widen (by simp))
    · exact ((Controller.reevaluateKeys_frame _ _ _).pedals (by simp)).trans ((Controller.report_frame _ _).pedals (by simp))
    · exact Controller.reevaluateKeys_onRate _ _
    · intro on room
      exact (Controller.reevaluate_keeps (skip := []) _ _).queued
        (Controller.report_queued (c := s.ctl.engagedOver) on room) (by simp)

end Sys2Proof.Machine
end

section
/-! What the Player does leaves the SOUNDING LIVE voices on their rates (R119, R121). -/

namespace Sys2Proof.Machine

/-- From `a` to `b` the SOUNDING LIVE voices that were on their rates stay on them. -/
def Controller.LiveSafe (a b : Controller) : Prop := ∀ sel : Nat → Prop, LiveOnRate sel a → LiveOnRate sel b

namespace Controller.LiveSafe

variable {a b c : Controller}

theorem refl (a : Controller) : LiveSafe a a := fun _ h => h

theorem trans (h : LiveSafe a b) (k : LiveSafe b c) : LiveSafe a c := fun sel x => k sel (h sel x)

theorem ite {p : Prop} [Decidable p] (h : LiveSafe a b) (k : LiveSafe a c) : LiveSafe a (if p then b else c) := by
  split
  · exact h
  · exact k

theorem of_frame {bs : List Block} (f : Frame bs a b) (pool : Block.pool ∉ bs) (keys : Block.keys ∉ bs)
    (pedals : Block.pedals ∉ bs) : LiveSafe a b := fun _ h => h.of_frame f pool keys pedals

end Controller.LiveSafe

namespace Controller

variable (c : Controller)

theorem mapVoices_rateFor (f : Note → Option Note) : (c.mapVoices f).rateFor = c.rateFor :=
  have frame := c.mapVoices_frame f
  rateFor_congr (c.mapVoices_decay _).1 (c.mapVoices_decay _).2 (frame.keys (by simp)) (frame.pedals (by simp))
    (frame.player (by simp))

/-- A voice that a re-evaluation does not select is as it was, one that it selects is on its rate. -/
theorem reevaluate_safe (p : Note → Bool) : LiveSafe c (c.reevaluate p) := by
  intro sel h i n hn sounding live hk
  rw [reevaluate_rateFor]
  rw [reevaluate, mapVoices_voice] at hn
  obtain ⟨m, hm, changed⟩ := Option.bind_eq_some_iff.1 hn
  split at changed
  · obtain ⟨-, source, key⟩ := Note.retune_same changed
    obtain ⟨cls, rate, -⟩ := Note.retune_rate changed
    rw [cls, rate, ← source, live, key]
  · obtain rfl := Option.some.inj changed
    exact h i m hm sounding live hk

/-- A fade of PLAYBACK voices leaves every LIVE voice. -/
theorem fadePlayback_safe : LiveSafe c c.fadePlayback := by
  intro sel h i n hn sounding live hk
  rw [fadePlayback, fadeVoices, mapVoices_rateFor]
  rw [fadePlayback, fadeVoices, mapVoices_voice] at hn
  obtain ⟨m, hm, changed⟩ := Option.bind_eq_some_iff.1 hn
  split at changed
  · next playback =>
    have source : n.source = .playback := (Note.fade_same changed).2.1.trans (by simpa using playback)
    exact absurd (live.symm.trans source) (by decide)
  · obtain rfl := Option.some.inj changed
    exact h i m hm sounding live hk

/-- A note begins on its rate. -/
theorem begin_safe (i : Nat) (src owner : Source) (k l : Nat) : LiveSafe c (c.begin i src owner k l) := by
  intro sel h j n hn sounding live hk
  have rate : (c.begin i src owner k l).rateFor = c.rateFor := rateFor_congr rfl rfl rfl rfl rfl
  rw [rate]
  by_cases hi : i < c.pool.voices.length
  · rw [begin, c.setVoice_voice_eq hi] at hn
    split at hn
    · obtain rfl := Option.some.inj hn
      obtain rfl : src = .live := live
      rfl
    · exact h j n hn sounding live hk
  · refine h j n ?_ sounding live hk
    rw [← hn, begin, voice, voice, setVoice, List.set_eq_of_length_le (Nat.le_of_not_lt hi)]

theorem poolStrike_safe (src : Source) (k l : Nat) : LiveSafe c (c.poolStrike src k l) := by
  obtain e | ⟨i, owner, e⟩ | ⟨r, i, e⟩ := c.poolStrike_cases src k l
  · rw [e]
    exact .refl _
  · rw [e]
    exact c.begin_safe i src owner k l
  · rw [e]
    exact (LiveSafe.of_frame (c.report_frame r) (by simp) (by simp) (by simp)).trans (begin_safe _ _ _ _ _ _)

/-! ### The Player -/

theorem player_safe {b : Controller} (f : Frame [.player] c b) : LiveSafe c b := .of_frame f (by simp) (by simp) (by simp)

theorem report_safe (r : Report) : LiveSafe c (c.report r) := .of_frame (c.report_frame r) (by simp) (by simp) (by simp)

theorem withPlayer_safe (p : Player) (q : Note → Bool) : LiveSafe c ({ c with player := p }.reevaluate q) :=
  (c.player_safe (c.player_frame p)).trans (reevaluate_safe _ _)

theorem playSostenuto_safe (v : Nat) : LiveSafe c (c.playSostenuto v) :=
  .ite (c.withPlayer_safe _ _) (.ite (c.withPlayer_safe _ _) (c.player_safe (c.player_frame _)))

theorem playPedal_safe (p v : Nat) : LiveSafe c (c.playPedal p v) := by
  unfold playPedal
  split
  · exact c.withPlayer_safe _ _
  · exact c.playSostenuto_safe v
  · exact c.player_safe (c.player_frame _)

theorem applyRecord_safe (s : Session) (r : TakeRec) : LiveSafe c (c.applyRecord s r) := by
  unfold applyRecord
  split
  · exact .ite (.refl c) (.ite (c.player_safe (c.formWait_frame _ _ _))
      ((c.withPlayer_safe _ _).trans (poolStrike_safe _ _ _ _)))
  · exact .ite (.refl c) (c.withPlayer_safe _ _)
  · exact .ite (.refl c) (c.withPlayer_safe _ _)
  · exact c.playPedal_safe _ _
  · exact c.report_safe _

theorem applyBatch_safe (rs : List TakeRec) : LiveSafe c (applyBatch rs c) := by
  induction rs generalizing c with
  | nil => exact .refl c
  | cons r rs ih =>
    unfold applyBatch
    split
    · exact .refl c
    · next s _ =>
      have moved : LiveSafe c (c.setSession (some { s with cursor := s.cursor + 1 })) := c.player_safe (c.setSession_frame _)
      exact .ite (.ite ((moved.trans (player_safe _ (player_frame _ _))).trans (ih _))
        ((moved.trans (applyRecord_safe _ _ _)).trans (ih _))) (.refl c)

theorem runBatch_safe : LiveSafe c c.runBatch := by
  unfold runBatch
  split
  · exact .refl c
  · extract_lets c1
    have batch : LiveSafe c c1 := c.applyBatch_safe _
    split
    · exact batch
    · exact .ite batch ((batch.trans (player_safe _ (setSession_frame _ _))).trans (report_safe _ _))

theorem syncStop_safe (ms : Nat) : LiveSafe c (c.syncStop ms) := .of_frame (c.syncStop_frame ms) (by simp) (by simp) (by simp)

theorem setPlayPedals_safe (d n f : Nat) : LiveSafe c (c.setPlayPedals d n f) := c.player_safe (c.setPlayPedals_frame d n f)

theorem naturalEnd_safe (s : Session) : LiveSafe c (c.naturalEnd s) :=
  ((((c.setPlayPedals_safe 0 0 0).trans (player_safe _ (setSession_frame _ _))).trans (reevaluate_safe _ _)).trans
    (report_safe _ _)).trans (syncStop_safe _ _)

theorem endOrDue_safe : LiveSafe c c.endOrDue := by
  unfold endOrDue
  split
  · exact .ite (c.naturalEnd_safe _) (c.player_safe c.setDue_frame)
  · exact .refl c

theorem loopJump_safe (s : Session) (l : Loop) : LiveSafe c (c.loopJump s l) :=
  (((c.fadePlayback_safe.trans (setPlayPedals_safe _ _ _ _)).trans (player_safe _ (setSession_frame _ _))).trans
    (report_safe _ _)).trans (runBatch_safe _)

theorem takeReached_safe : LiveSafe c c.takeReached := by
  unfold takeReached
  refine .ite ?_ (.refl c)
  dsimp only
  split
  · exact c.runBatch_safe
  · split
    · exact (c.runBatch_safe.trans (loopJump_safe _ _ _)).trans (endOrDue_safe _)
    · exact c.runBatch_safe.trans (endOrDue_safe _)

theorem endWait_safe (s : Session) : LiveSafe c (c.endWait s) :=
  ((c.player_safe (c.setSession_frame _)).trans (report_safe _ _)).trans (takeReached_safe _)

theorem guideStrike_safe (k : Nat) : LiveSafe c (c.guideStrike k) := by
  unfold guideStrike
  extract_lets c1 _ c2
  have up : LiveSafe c c1 := c.player_safe c.bringUp_frame
  have left : LiveSafe c c2 := up.trans (player_safe _ (player_frame _ _))
  split
  · exact up
  · split
    · exact .ite (.ite (left.trans (endWait_safe _ _)) left) (up.trans (report_safe _ _))
    · exact up.trans (takeReached_safe _)
    · exact up.trans (takeReached_safe _)

/-- A strike handed on begins its own voice on its rate. -/
theorem handStrike_safe (k flight : Nat) (again : Bool) (t : Time) : LiveSafe c (c.handStrike k flight again t) :=
  ((LiveSafe.ite (c.poolStrike_safe _ _ _) (.refl c)).trans
    (LiveSafe.of_frame (recStrike_frame _ _ _) (by simp) (by simp) (by simp))).trans
    ((guideStrike_safe _ _).trans (LiveSafe.of_frame (reportAt_frame _ _ _) (by simp) (by simp) (by simp)))

end Controller
end Sys2Proof.Machine
end

section
/-! The passage of a key (sections 1.3 to 1.5): the transitions that a sample takes, what they leave in the key's record, and what a rising or falling damper hands on. -/

namespace Sys2Proof.Machine

namespace KeyRec

/-- R10 to R14: the record of a key after a crossing, its samples as given. -/
def crossed (t : Thresholds) (previous : Option Sample) (current : Sample) (r : KeyRec) : Crossing → KeyRec
  | .restRise => { r with state := .shallow }
  | .restFall => { r with state := .rest, holdOff := false }
  | .dampRise => { r with state := .held }
  | .dampFall => { r with state := .shallow, sounded := false, liftSpent := false }
  | .liftRise =>
    { r with
      state := .armed, tLift := some (risingTime previous current t.lift)
      flight := some (after (risingTime previous current t.lift) 120000) }
  | .retreat => { r with state := .held, flight := none, tLift := none }
  | .strike => { r with state := .struck, flight := none, tLift := none, sounded := true }
  | .liftFall => { r with state := .held }

/-- R6: the crossings that a sample takes, one after another. -/
def path (t : Thresholds) (previous : Option Sample) (current : Sample) : Nat → KeyRec → List Crossing
  | 0, _ => []
  | n + 1, r =>
    match crossingAt t r current.depth with
    | some x => x :: path t previous current n (r.crossed t previous current x)
    | none => []

/-- The record of a key after the crossings of a list. -/
def crossedAll (t : Thresholds) (previous : Option Sample) (current : Sample) (r : KeyRec) (l : List Crossing) : KeyRec :=
  l.foldl (crossed t previous current) r

end KeyRec

/-- A crossing at which no damper moves and no note strikes. -/
def Crossing.silent : Crossing → Bool
  | .dampRise | .dampFall | .strike => false
  | .restRise | .restFall | .liftRise | .retreat | .liftFall => true

namespace Controller

variable (c : Controller) {k : Nat} (p : Option Sample) (s : Sample)

/-- The crossings of a list, one after another. -/
def crossAll (k : Nat) (l : List Crossing) : Controller := l.foldl (fun c x => c.cross k x p s) c

theorem cross_keys (x : Crossing) :
    (c.cross k x p s).keys = (c.setKey k ((c.key k).crossed c.thresholds p s x)).keys := by
  cases x
  case dampRise => exact (handDamperUp_frame _ _).keys (by simp)
  case dampFall =>
    exact ((reportAt_frame _ _ _).keys (by simp)).trans ((handDamperDown_frame _ _).keys (by simp))
  case strike => exact (handStrike_frame _ _ _ _ _).keys (by simp)
  all_goals rfl

theorem cross_thresholds (x : Crossing) : (c.cross k x p s).thresholds = c.thresholds :=
  (c.cross_frame k x p s).thresholds (by simp)

variable {c} (hk : 1 ≤ k ∧ k ≤ c.keys.length)

include hk in
theorem cross_key (x : Crossing) : (c.cross k x p s).key k = (c.key k).crossed c.thresholds p s x := by
  rw [key, cross_keys]
  exact c.setKey_key hk _

theorem cross_length (x : Crossing) : (c.cross k x p s).keys.length = c.keys.length := by
  rw [cross_keys, setKey_length]

theorem cross_other {j : Nat} (hj : 1 ≤ j) (hk : 1 ≤ k) (ne : j ≠ k) (x : Crossing) :
    (c.cross k x p s).key j = c.key j := by
  rw [key, cross_keys]
  exact c.setKey_key_other hj hk ne _

include hk in
theorem compare_eq (n : Nat) :
    Controller.compare k p s n c = c.crossAll p s k ((c.key k).path c.thresholds p s n) := by
  induction n generalizing c with
  | zero => rfl
  | succ n ih =>
    rw [Controller.compare, KeyRec.path]
    cases crossingAt c.thresholds (c.key k) s.depth with
    | none => rfl
    | some x =>
      dsimp only
      rw [ih (by rw [cross_length]; exact hk), cross_key p s hk, cross_thresholds]
      rfl

include hk in
theorem crossAll_key (l : List Crossing) : (c.crossAll p s k l).key k = (c.key k).crossedAll c.thresholds p s l := by
  induction l generalizing c with
  | nil => rfl
  | cons x l ih =>
    refine (ih (c := c.cross k x p s) (by rw [cross_length]; exact hk)).trans ?_
    rw [cross_key p s hk, cross_thresholds]
    rfl

theorem crossAll_frame (l : List Crossing) : Frame keyParts c (c.crossAll p s k l) := by
  induction l generalizing c with
  | nil => exact .refl _ _
  | cons x l ih => exact (c.cross_frame k x p s).trans ih

theorem crossAll_other {j : Nat} (hj : 1 ≤ j) (hk : 1 ≤ k) (ne : j ≠ k) (l : List Crossing) :
    (c.crossAll p s k l).key j = c.key j := by
  induction l generalizing c with
  | nil => rfl
  | cons x l ih => exact ih.trans (cross_other p s hj hk ne x)

theorem crossAll_append (l m : List Crossing) : c.crossAll p s k (l ++ m) = (c.crossAll p s k l).crossAll p s k m :=
  List.foldl_append

theorem crossAll_length (l : List Crossing) : (c.crossAll p s k l).keys.length = c.keys.length := by
  induction l generalizing c with
  | nil => rfl
  | cons x l ih => exact ih.trans (cross_length p s x)

theorem setKey_setKey (r r' : KeyRec) : (c.setKey k r).setKey k r' = c.setKey k r' := by
  simp only [setKey, List.set_set]

include hk in
theorem setKey_self : c.setKey k (c.key k) = c := by
  have same : c.keys.set (k - 1) (c.key k) = c.keys := by
    rw [key, List.getElem?_eq_getElem (by omega)]
    exact List.set_getElem_self _
  exact congrArg (fun l => { c with keys := l }) same

theorem cross_silent {x : Crossing} (h : x.silent = true) :
    c.cross k x p s = c.setKey k ((c.key k).crossed c.thresholds p s x) := by
  cases x with
  | dampRise | dampFall | strike => cases h
  | restRise | restFall | liftRise | retreat | liftFall => rfl

include hk in
/-- Silent crossings change the record of the key alone. -/
theorem crossAll_silent {l : List Crossing} (h : l.all Crossing.silent = true) :
    c.crossAll p s k l = c.setKey k ((c.key k).crossedAll c.thresholds p s l) := by
  induction l generalizing c with
  | nil => exact (setKey_self hk).symm
  | cons x l ih =>
    obtain ⟨hx, hl⟩ : x.silent = true ∧ l.all Crossing.silent = true := by simpa using h
    refine (ih (c := c.cross k x p s) (by rw [cross_length]; exact hk) hl).trans ?_
    rw [cross_key p s hk, cross_thresholds, cross_silent p s hx, setKey_setKey]
    rfl

end Controller

/-! ### The crossings by the state and the depth (R6, R9 to R14) -/

namespace KeyRec

variable {t : Thresholds} (ok : t.ok = true) (p : Option Sample) (s : Sample) (r : KeyRec)

/-- The crossings that rise from ARMED, HELD and SHALLOW, and those that fall from SHALLOW and HELD. -/
def risesArmed (t : Thresholds) (d : Nat) : List Crossing := if t.strike ≤ d then [.strike] else []

def risesHeld (t : Thresholds) (d : Nat) (r : KeyRec) : List Crossing :=
  if t.lift ≤ d ∧ r.holdOff = false ∧ r.liftSpent = false then .liftRise :: risesArmed t d else []

def risesShallow (t : Thresholds) (d : Nat) (r : KeyRec) : List Crossing :=
  if t.damp ≤ d ∧ r.holdOff = false then .dampRise :: r.risesHeld t d else []

def fallsShallow (t : Thresholds) (d : Nat) : List Crossing := if d + 8 < t.rest then [.restFall] else []

def fallsHeld (t : Thresholds) (d : Nat) : List Crossing := if d + 8 < t.damp then .dampFall :: fallsShallow t d else []

theorem ok_order (ok : t.ok = true) :
    16 ≤ t.rest ∧ t.rest + 16 ≤ t.damp ∧ t.damp + 16 ≤ t.lift ∧ t.lift + 64 ≤ t.strike := by
  have h := of_decide_eq_true ok
  omega

/-- No comparison holds. -/
theorem path_none {n : Nat} (h : crossingAt t r s.depth = none) : r.path t p s n = [] := by
  cases n with
  | zero => rfl
  | succ n => rw [path, h]

theorem path_some {n : Nat} {x : Crossing} (h : crossingAt t r s.depth = some x) :
    r.path t p s (n + 1) = x :: (r.crossed t p s x).path t p s n := by rw [path, h]

theorem path_struck {n : Nat} (state : r.state = .struck) (above : t.lift ≤ s.depth + 8) : r.path t p s n = [] :=
  r.path_none p s (by simp [crossingAt, state, hysteresis, Nat.not_lt.2 above])

theorem path_armed_rising {n : Nat} (state : r.state = .armed) (above : t.lift ≤ s.depth + 8) :
    r.path t p s (n + 2) = risesArmed t s.depth := by
  unfold risesArmed
  split
  · next h =>
    rw [r.path_some p s (x := .strike) (by simp [crossingAt, state, hysteresis, Nat.not_lt.2 above, h]),
      path_struck p s _ rfl above]
  · next h => exact r.path_none p s (by simp [crossingAt, state, hysteresis, Nat.not_lt.2 above, h])

theorem path_held_rising {n : Nat} (state : r.state = .held) (above : t.damp ≤ s.depth + 8) :
    r.path t p s (n + 3) = r.risesHeld t s.depth := by
  unfold risesHeld
  split
  · next h =>
    rw [r.path_some p s (x := .liftRise) (by simp [crossingAt, state, hysteresis, Nat.not_lt.2 above, h]),
      path_armed_rising p s _ rfl (by omega)]
  · next h => exact r.path_none p s (by simp [crossingAt, state, hysteresis, Nat.not_lt.2 above]; simpa using h)

theorem path_shallow_rising {n : Nat} (state : r.state = .shallow) (above : t.rest ≤ s.depth + 8) :
    r.path t p s (n + 4) = r.risesShallow t s.depth := by
  unfold risesShallow
  split
  · next h =>
    rw [r.path_some p s (x := .dampRise) (by simp [crossingAt, state, hysteresis, Nat.not_lt.2 above, h]),
      path_held_rising p s _ rfl (by omega)]
    rfl
  · next h => exact r.path_none p s (by simp [crossingAt, state, hysteresis, Nat.not_lt.2 above]; simpa using h)

theorem path_rest (state : r.state = .rest) :
    r.path t p s 5 = if t.rest ≤ s.depth then .restRise :: r.risesShallow t s.depth else [] := by
  split
  · next h =>
    rw [r.path_some p s (x := .restRise) (by simp [crossingAt, state, h]), path_shallow_rising p s _ rfl (by omega)]
    rfl
  · next h => exact r.path_none p s (by simp [crossingAt, state, h])

theorem path_shallow_falling {n : Nat} (state : r.state = .shallow) (below : s.depth + 8 < t.damp) :
    r.path t p s (n + 2) = fallsShallow t s.depth := by
  unfold fallsShallow
  split
  · next h =>
    rw [r.path_some p s (x := .restFall) (by simp [crossingAt, state, hysteresis, h]), path_none]
    exact if_neg (by omega)
  · next h => exact r.path_none p s (by simp [crossingAt, state, hysteresis, h]; omega)

theorem path_held_falling {n : Nat} (state : r.state = .held) (below : s.depth + 8 < t.lift) :
    r.path t p s (n + 3) = fallsHeld t s.depth := by
  unfold fallsHeld
  split
  · next h =>
    rw [r.path_some p s (x := .dampFall) (by simp [crossingAt, state, hysteresis, h]),
      path_shallow_falling p s _ rfl h]
  · next h => exact r.path_none p s (by simp [crossingAt, state, hysteresis, h]; omega)

include ok in
theorem path_shallow (state : r.state = .shallow) : r.path t p s 5 =
    if s.depth + 8 < t.rest then [.restFall] else r.risesShallow t s.depth := by
  have order := ok_order ok
  split
  · next h =>
    rw [path_shallow_falling p s r state (by omega), fallsShallow, if_pos h]
  · next h => exact path_shallow_rising p s r state (by omega)

include ok in
theorem path_held (state : r.state = .held) : r.path t p s 5 =
    if s.depth + 8 < t.damp then fallsHeld t s.depth else r.risesHeld t s.depth := by
  have order := ok_order ok
  split
  · next h => exact path_held_falling p s r state (by omega)
  · next h => exact path_held_rising p s r state (by omega)

theorem path_armed (state : r.state = .armed) : r.path t p s 5 =
    if s.depth + 8 < t.lift then .retreat :: fallsHeld t s.depth else risesArmed t s.depth := by
  split
  · next h =>
    rw [r.path_some p s (x := .retreat) (by simp [crossingAt, state, hysteresis, h]), path_held_falling p s _ rfl h]
  · next h => exact path_armed_rising p s r state (by omega)

theorem path_struck_falling (state : r.state = .struck) : r.path t p s 5 =
    if s.depth + 8 < t.lift then .liftFall :: fallsHeld t s.depth else [] := by
  split
  · next h =>
    rw [r.path_some p s (x := .liftFall) (by simp [crossingAt, state, hysteresis, h]), path_held_falling p s _ rfl h]
  · next h => exact path_struck p s r state (by omega)

theorem path_condition (state : r.state = .uncal ∨ r.state = .fault ∨ r.state = .muted) {n : Nat} : r.path t p s n = [] := by
  refine r.path_none p s ?_
  rcases state with h | h | h <;> simp [crossingAt, h]

end KeyRec

/-! ### What a passage leaves in the record -/

namespace KeyRec

variable {t : Thresholds} (p : Option Sample) (s : Sample) (r : KeyRec)

/-- The record after the crossings that rise from ARMED, HELD and SHALLOW, and after those that fall from SHALLOW and HELD. -/
def roseArmed (t : Thresholds) : KeyRec := if t.strike ≤ s.depth then r.crossed t p s .strike else r

def roseHeld (t : Thresholds) : KeyRec :=
  if t.lift ≤ s.depth ∧ r.holdOff = false ∧ r.liftSpent = false then (r.crossed t p s .liftRise).roseArmed p s t else r

def roseShallow (t : Thresholds) : KeyRec :=
  if t.damp ≤ s.depth ∧ r.holdOff = false then (r.crossed t p s .dampRise).roseHeld p s t else r

def fellShallow (t : Thresholds) : KeyRec := if s.depth + 8 < t.rest then r.crossed t p s .restFall else r

def fellHeld (t : Thresholds) : KeyRec :=
  if s.depth + 8 < t.damp then (r.crossed t p s .dampFall).fellShallow p s t else r

theorem crossedAll_risesArmed : r.crossedAll t p s (risesArmed t s.depth) = r.roseArmed p s t := by
  unfold risesArmed roseArmed
  split <;> rfl

theorem crossedAll_risesHeld : r.crossedAll t p s (r.risesHeld t s.depth) = r.roseHeld p s t := by
  unfold risesHeld roseHeld
  split
  · exact crossedAll_risesArmed p s (r.crossed t p s .liftRise)
  · rfl

theorem crossedAll_risesShallow : r.crossedAll t p s (r.risesShallow t s.depth) = r.roseShallow p s t := by
  unfold risesShallow roseShallow
  split
  · exact crossedAll_risesHeld p s (r.crossed t p s .dampRise)
  · rfl

theorem crossedAll_fallsShallow : r.crossedAll t p s (fallsShallow t s.depth) = r.fellShallow p s t := by
  unfold fallsShallow fellShallow
  split <;> rfl

theorem crossedAll_fallsHeld : r.crossedAll t p s (fallsHeld t s.depth) = r.fellHeld p s t := by
  unfold fallsHeld fellHeld
  split
  · exact crossedAll_fallsShallow p s (r.crossed t p s .dampFall)
  · rfl

section States

variable {p s r}

theorem roseArmed_state (h : r.state = .armed) :
    (r.roseArmed p s t).state = if s.depth < t.strike then .armed else .struck := by
  unfold roseArmed
  split_ifs
  · omega
  · rfl
  · exact h
  · omega

theorem roseHeld_state (h : r.state = .held) : (r.roseHeld p s t).state =
    if s.depth < t.lift ∨ r.holdOff = true ∨ r.liftSpent = true then .held
    else if s.depth < t.strike then .armed else .struck := by
  unfold roseHeld
  by_cases rises : t.lift ≤ s.depth ∧ r.holdOff = false ∧ r.liftSpent = false
  · rw [if_pos rises, if_neg (by simp [rises]), roseArmed_state rfl]
  · rw [if_neg rises, if_pos, h]
    by_contra kept
    exact rises (by simpa using kept)

theorem roseShallow_state (h : r.state = .shallow) : (r.roseShallow p s t).state =
    if s.depth < t.damp ∨ r.holdOff = true then .shallow
    else if s.depth < t.lift ∨ r.holdOff = true ∨ r.liftSpent = true then .held
    else if s.depth < t.strike then .armed else .struck := by
  unfold roseShallow
  by_cases rises : t.damp ≤ s.depth ∧ r.holdOff = false
  · rw [if_pos rises, if_neg (by simp [rises]), roseHeld_state rfl]
    rfl
  · rw [if_neg rises, if_pos, h]
    by_contra kept
    exact rises (by simpa using kept)

theorem fellShallow_state (h : r.state = .shallow) :
    (r.fellShallow p s t).state = if s.depth + 8 < t.rest then .rest else .shallow := by
  unfold fellShallow
  split
  · rfl
  · exact h

theorem fellHeld_state (h : r.state = .held) : (r.fellHeld p s t).state =
    if s.depth + 8 < t.damp then (if s.depth + 8 < t.rest then .rest else .shallow) else .held := by
  unfold fellHeld
  split
  · exact fellShallow_state rfl
  · exact h

end States

/-- The record of a key after every crossing of a sample. -/
def passed (t : Thresholds) : KeyRec := r.crossedAll t p s (r.path t p s 5)

variable {r} (ok : t.ok = true)

theorem passed_rest (h : r.state = .rest) : r.passed p s t =
    if t.rest ≤ s.depth then (r.crossed t p s .restRise).roseShallow p s t else r := by
  rw [passed, path_rest p s r h]
  split
  · exact crossedAll_risesShallow p s (r.crossed t p s .restRise)
  · rfl

include ok in
theorem passed_shallow (h : r.state = .shallow) : r.passed p s t =
    if s.depth + 8 < t.rest then r.crossed t p s .restFall else r.roseShallow p s t := by
  rw [passed, path_shallow ok p s r h]
  split
  · rfl
  · exact crossedAll_risesShallow p s r

include ok in
theorem passed_held (h : r.state = .held) : r.passed p s t =
    if s.depth + 8 < t.damp then r.fellHeld p s t else r.roseHeld p s t := by
  rw [passed, path_held ok p s r h]
  split
  · exact crossedAll_fallsHeld p s r
  · exact crossedAll_risesHeld p s r

theorem passed_armed (h : r.state = .armed) : r.passed p s t =
    if s.depth + 8 < t.lift then (r.crossed t p s .retreat).fellHeld p s t else r.roseArmed p s t := by
  rw [passed, path_armed p s r h]
  split
  · exact crossedAll_fallsHeld p s (r.crossed t p s .retreat)
  · exact crossedAll_risesArmed p s r

theorem passed_struck (h : r.state = .struck) : r.passed p s t =
    if s.depth + 8 < t.lift then (r.crossed t p s .liftFall).fellHeld p s t else r := by
  rw [passed, path_struck_falling p s r h]
  split
  · exact crossedAll_fallsHeld p s (r.crossed t p s .liftFall)
  · rfl

theorem passed_condition (h : r.state = .uncal ∨ r.state = .fault ∨ r.state = .muted) : r.passed p s t = r := by
  rw [passed, path_condition p s r h]
  rfl

end KeyRec
/-! ### Where a damper rises or falls (R14) -/

namespace KeyRec

variable {t : Thresholds} {p : Option Sample} {s : Sample} {r : KeyRec} (ok : t.ok = true)

/-- A list of crossings whose one damper crossing is `x`. -/
def Around (x : Crossing) (l : List Crossing) : Prop :=
  ∃ pre post, l = pre ++ x :: post ∧ pre.all Crossing.silent = true ∧ post.all Crossing.silent = true

theorem Around.cons {x y : Crossing} {l : List Crossing} (h : Around x l) (silent : y.silent = true) : Around x (y :: l) := by
  obtain ⟨pre, post, rfl, hpre, hpost⟩ := h
  exact ⟨y :: pre, post, rfl, by simp [silent, hpre], hpost⟩

theorem around_risesShallow (h : r.state = .shallow)
    (final : (r.roseShallow p s t).state = .held ∨ (r.roseShallow p s t).state = .armed) :
    Around .dampRise (r.risesShallow t s.depth) := by
  rw [roseShallow_state h] at final
  have rises : t.damp ≤ s.depth ∧ r.holdOff = false := by
    by_contra kept
    rw [if_pos (by by_contra rises; exact kept (by simpa using rises))] at final
    simp at final
  refine ⟨[], r.risesHeld t s.depth, if_pos rises, rfl, ?_⟩
  unfold risesHeld risesArmed
  split_ifs with lifts strikes
  · rw [if_neg (by simp [rises]), if_neg (by simp [lifts]), if_neg (Nat.not_lt.2 strikes)] at final
    simp at final
  · rfl
  · rfl

theorem roseArmed_up (h : r.state = .armed) : (r.roseArmed p s t).state.up = true := by
  rw [roseArmed_state h]
  split <;> rfl

theorem roseHeld_up (h : r.state = .held) : (r.roseHeld p s t).state.up = true := by
  rw [roseHeld_state h]
  split_ifs <;> rfl

include ok in
/-- R14: a passage to HELD or ARMED from below has the one damper crossing DAMPER_UP. -/
theorem around_dampRise (down : r.state.up = false)
    (final : (r.passed p s t).state = .held ∨ (r.passed p s t).state = .armed) :
    Around .dampRise (r.path t p s 5) := by
  cases h : r.state with
  | rest =>
    rw [passed_rest p s h] at final
    rw [path_rest p s r h]
    split
    · next rises =>
      rw [if_pos rises] at final
      exact (around_risesShallow (r := r.crossed t p s .restRise) rfl final).cons rfl
    · next stays => simp [stays, h] at final
  | shallow =>
    rw [passed_shallow p s ok h] at final
    rw [path_shallow ok p s r h]
    split
    · next falls =>
      rw [if_pos falls] at final
      simp [crossed] at final
    · next stays =>
      rw [if_neg stays] at final
      exact around_risesShallow h final
  | held | armed | struck => simp [h, KeyState.up] at down
  | uncal | fault | muted =>
    rw [passed_condition p s (by simp [h])] at final
    simp [h] at final

/-- A crossing by its comparison keeps the damper up or down, but for the two damper crossings. -/
theorem crossing_up {x : Crossing} {d : Nat} (h : crossingAt t r d = some x) :
    (x = .dampRise ∧ (r.crossed t p s x).state.up = true) ∨ (x = .dampFall ∧ (r.crossed t p s x).state.up = false) ∨
      (x ≠ .dampRise ∧ x ≠ .dampFall ∧ (r.crossed t p s x).state.up = r.state.up) := by
  cases state : r.state with
  | uncal | fault | muted => simp [crossingAt, state] at h
  | rest | shallow | held | armed | struck =>
    simp only [crossingAt, state] at h
    split_ifs at h <;> cases h <;> simp [crossed, KeyState.up]

theorem of_dampFall {d : Nat} (h : crossingAt t r d = some .dampFall) : r.state = .held ∧ d + 8 < t.damp := by
  cases state : r.state with
  | uncal | fault | muted => simp [crossingAt, state] at h
  | held =>
    simp only [crossingAt, state] at h
    split_ifs at h <;> cases h
    exact ⟨rfl, ‹_›⟩
  | rest | shallow | armed | struck =>
    simp only [crossingAt, state] at h
    split_ifs at h <;> cases h

theorem of_dampRise {d : Nat} (h : crossingAt t r d = some .dampRise) : r.state = .shallow ∧ t.damp ≤ d := by
  cases state : r.state with
  | uncal | fault | muted => simp [crossingAt, state] at h
  | shallow =>
    simp only [crossingAt, state] at h
    split_ifs at h <;> cases h
    exact ⟨rfl, ‹t.damp ≤ d ∧ _›.1⟩
  | rest | held | armed | struck =>
    simp only [crossingAt, state] at h
    split_ifs at h <;> cases h

theorem of_strike {d : Nat} (h : crossingAt t r d = some .strike) : r.state = .armed ∧ t.lift ≤ d + 8 ∧ t.strike ≤ d := by
  cases state : r.state with
  | uncal | fault | muted => simp [crossingAt, state] at h
  | armed =>
    simp only [crossingAt, state] at h
    split_ifs at h <;> cases h
    exact ⟨rfl, Nat.not_lt.1 ‹_›, ‹t.strike ≤ d›⟩
  | rest | shallow | held | struck =>
    simp only [crossingAt, state] at h
    split_ifs at h <;> cases h

/-- A damper that is up at a depth from which it does not fall stays up. -/
theorem path_stays_up {n : Nat} (high : t.damp ≤ s.depth + 8) (up : r.state.up = true) :
    (r.crossedAll t p s (r.path t p s n)).state.up = true := by
  induction n generalizing r with
  | zero => exact up
  | succ n ih =>
    rw [path]
    cases h : crossingAt t r s.depth with
    | none => exact up
    | some x =>
      refine ih ?_
      rcases crossing_up (p := p) (s := s) h with ⟨-, up⟩ | ⟨rfl, -⟩ | ⟨-, -, same⟩
      · exact up
      · exact absurd (of_dampFall h).2 (Nat.not_lt.2 high)
      · exact same.trans up

/-- A strike leaves the key STRUCK at a depth from which it does not fall. -/
theorem path_after_strike {n : Nat} (h : crossingAt t r s.depth = some .strike) :
    ((r.crossed t p s .strike).crossedAll t p s ((r.crossed t p s .strike).path t p s n)).state.up = true := by
  rw [path_struck p s (r.crossed t p s .strike) rfl (of_strike h).2.1]
  rfl

/-- R14: a passage that leaves the damper down is silent where it was down, and has the one damper crossing DAMPER_DOWN where it was up. -/
theorem path_to_down {n : Nat} (final : (r.crossedAll t p s (r.path t p s n)).state.up = false) :
    (r.state.up = false → (r.path t p s n).all Crossing.silent = true) ∧
    (r.state.up = true → Around .dampFall (r.path t p s n)) := by
  induction n generalizing r with
  | zero => exact ⟨fun _ => rfl, fun up => absurd up (ne_true_of_eq_false final)⟩
  | succ n ih =>
    rw [path] at final ⊢
    cases h : crossingAt t r s.depth with
    | none =>
      rw [h] at final
      exact ⟨fun _ => rfl, fun up => absurd up (ne_true_of_eq_false final)⟩
    | some x =>
      rw [h] at final
      obtain ⟨quiet, falls⟩ := ih (r := r.crossed t p s x) final
      rcases crossing_up (p := p) (s := s) h with ⟨rfl, up⟩ | ⟨rfl, down⟩ | ⟨notRise, notFall, same⟩
      · have stays := path_stays_up (p := p) (n := n) (Nat.le_add_right_of_le (of_dampRise h).2) up
        exact absurd stays (ne_true_of_eq_false final)
      · refine ⟨fun wasDown => ?_, fun _ => ⟨[], _, rfl, rfl, quiet down⟩⟩
        rw [(of_dampFall h).1] at wasDown
        cases wasDown
      · have silent : x.silent = true := by
          cases x with
          | strike => exact absurd (path_after_strike h) (ne_true_of_eq_false final)
          | dampRise => exact absurd rfl notRise
          | dampFall => exact absurd rfl notFall
          | restRise | restFall | liftRise | retreat | liftFall => rfl
        refine ⟨fun down => ?_, fun up => (falls (same.trans up)).cons silent⟩
        exact (List.all_cons ..).trans (by rw [silent, quiet (same.trans down)]; rfl)

/-- R14: a passage from HELD, ARMED or STRUCK to below has the one damper crossing DAMPER_DOWN. -/
theorem around_dampFall (up : r.state.up = true) (final : (r.passed p s t).state.up = false) :
    Around .dampFall (r.path t p s 5) := (path_to_down final).2 up

theorem crossedAll_sounded {l : List Crossing} (h : l.all Crossing.silent = true) :
    (r.crossedAll t p s l).sounded = r.sounded := by
  induction l generalizing r with
  | nil => rfl
  | cons x l ih =>
    obtain ⟨hx, hl⟩ : x.silent = true ∧ l.all Crossing.silent = true := by simpa using h
    refine (ih (r := r.crossed t p s x) hl).trans ?_
    cases x with
    | dampRise | dampFall | strike => cases hx
    | restRise | restFall | liftRise | retreat | liftFall => rfl

end KeyRec
end Sys2Proof.Machine
end

section
/-! The sample of a key (R3, R4, R18, R19, R24): its record, its passage, and what follows in the Trim Engine and the Rail Drive. -/

namespace Sys2Proof.Machine

namespace Controller

variable {c : Controller} {k : Nat} (p : Option Sample) (s : Sample) (hk : 1 ≤ k ∧ k ≤ c.keys.length)

/-! ### The dampers handed on -/

theorem LiveOnRate.setKey {c : Controller} (h : LiveOnRate (· = k) c) (hk : 1 ≤ k ∧ k ≤ c.keys.length) {r : KeyRec}
    (up : r.state.up = (c.key k).state.up) : LiveOnRate (· = k) (c.setKey k r) :=
  h.congr rfl (fun j e => by
    subst e
    rw [setKey_key _ hk, up]) rfl rfl

theorem handDamper_onRate (c : Controller) (kind : RecKind) :
    LiveOnRate (· = k) ((c.reevaluateKeys .live [k]).recWrite kind k 0) := by
  have rated := (c.reevaluateKeys_onRate [k]).of_frame (recWrite_frame _ kind k 0) (by simp) (by simp) (by simp)
  exact fun i n hn sounding live e => rated i n hn sounding live (List.mem_singleton.2 e)

theorem handDamper_records (c : Controller) {j : RecJob} {run : RecRun} (hj : c.recorder.job = some j)
    (hr : j.run = some run) (kind : RecKind) : ((c.reevaluateKeys .live [k]).recWrite kind k 0).records j.target =
      c.records j.target ++ [{ time := c.recTime j, kind := kind, subject := k, value := 0 }] := by
  have f := c.reevaluateKeys_frame .live [k]
  rw [recWrite_records _ (by rw [f.recorder (by simp), hj]) hr, records_congr (f.takes (by simp)),
    recTime_congr (f.clock (by simp)) (f.player (by simp))]

theorem handDamper_tells (c : Controller) (kind : RecKind) :
    Tells 2 c ((c.reevaluateKeys .live [k]).recWrite kind k 0) :=
  (c.reevaluate_tells _).trans (recWrite_tells _ _ _ _)

include hk in
/-- A crossing that keeps the damper keeps the LIVE voices of the key on their rates; one that moves it puts them there. -/
theorem cross_onRate {x : Crossing} (h : crossingAt c.thresholds (c.key k) s.depth = some x)
    (from_ : LiveOnRate (· = k) c ∨ (c.key k).state.up ≠ ((c.key k).crossed c.thresholds p s x).state.up) :
    LiveOnRate (· = k) (c.cross k x p s) := by
  rcases KeyRec.crossing_up (p := p) (s := s) h with ⟨rfl, -⟩ | ⟨rfl, -⟩ | ⟨notRise, notFall, same⟩
  · exact handDamper_onRate _ .damperUp
  · exact (handDamper_onRate _ .damperDown).of_frame (reportAt_frame _ _ _) (by simp) (by simp) (by simp)
  · have rated : LiveOnRate (· = k) c := from_.resolve_right (not_not.2 same.symm)
    have written := rated.setKey hk same
    cases x with
    | dampRise => exact absurd rfl notRise
    | dampFall => exact absurd rfl notFall
    | strike => exact handStrike_safe _ _ _ _ _ _ written
    | restRise | restFall | liftRise | retreat | liftFall => exact written

include hk in
/-- R121: after a passage that moves the damper of the key, its LIVE voices are on their rates. -/
theorem passage_onRate (n : Nat)
    (from_ : LiveOnRate (· = k) c ∨ (c.key k).state.up ≠
      ((c.key k).crossedAll c.thresholds p s ((c.key k).path c.thresholds p s n)).state.up) :
    LiveOnRate (· = k) (c.crossAll p s k ((c.key k).path c.thresholds p s n)) := by
  induction n generalizing c with
  | zero => exact from_.resolve_right (not_not.2 rfl)
  | succ n ih =>
    rw [KeyRec.path] at from_ ⊢
    cases h : crossingAt c.thresholds (c.key k) s.depth with
    | none =>
      rw [h] at from_
      exact from_.resolve_right (not_not.2 rfl)
    | some x =>
      rw [h] at from_
      dsimp only at from_ ⊢
      have step := ih (c := c.cross k x p s) (by rw [cross_length]; exact hk)
      rw [cross_key p s hk, cross_thresholds] at step
      refine step ?_
      by_cases moved : LiveOnRate (· = k) c ∨ (c.key k).state.up ≠ ((c.key k).crossed c.thresholds p s x).state.up
      · exact .inl (cross_onRate p s hk h moved)
      · obtain ⟨unrated, stays⟩ := not_or.1 moved
        refine .inr fun e => from_.resolve_left unrated ?_
        exact (not_not.1 stays).trans e

include hk in
/-- A passage with one damper crossing: silent up to it, the hand-over, and silent after it. -/
theorem crossAll_around {x : Crossing} {l : List Crossing} (h : KeyRec.Around x l) :
    ∃ r : KeyRec, r.sounded = (c.key k).sounded ∧ c.crossAll p s k l =
      ((c.setKey k r).cross k x p s).setKey k ((c.key k).crossedAll c.thresholds p s l) := by
  have whole := crossAll_key p s hk l
  obtain ⟨pre, post, rfl, hpre, hpost⟩ := h
  refine ⟨(c.key k).crossedAll c.thresholds p s pre, KeyRec.crossedAll_sounded hpre, ?_⟩
  rw [← whole, crossAll_append, crossAll_silent p s hk hpre]
  obtain ⟨c1, hc1⟩ : ∃ c1, c1 = (c.setKey k ((c.key k).crossedAll c.thresholds p s pre)).cross k x p s := ⟨_, rfl⟩
  have hk1 : 1 ≤ k ∧ k ≤ c1.keys.length := by rw [hc1, cross_length, setKey_length]; exact hk
  have rest : (c.setKey k ((c.key k).crossedAll c.thresholds p s pre)).crossAll p s k (x :: post) =
      c1.crossAll p s k post := by rw [hc1]; rfl
  rw [rest, ← hc1, crossAll_silent p s hk1 hpost, c1.setKey_key hk1]

/-! ### The record of a sample (R3, R18, R19) -/

end Controller

namespace KeyRec

/-- R3: the sample of a reading. -/
def reading (r : KeyRec) (now : Time) (raw : Nat) : Sample := { time := now, raw := raw, depth := r.depth raw }

/-- R7: the sample that a crossing time counts from. -/
def before (r : KeyRec) : Option Sample := if r.resumed then none else r.latest

/-- R3, R11, R18, R19: the record of a key at a sample, before its passage. -/
def sampled (r : KeyRec) (t : Thresholds) (now : Time) (raw : Nat) : KeyRec :=
  { r with
    latest := some (r.reading now raw), previous := r.latest, resumed := false
    faultTimer := if r.state = .fault then r.faultTimer
      else if inRange raw then none else some (r.faultTimer.getD (now + 50000#32))
    recovery := if r.state ≠ .fault then r.recovery
      else if inRange raw then some (r.recovery.getD (now + 500000#32)) else none
    liftSpent := if r.state = .held ∧ r.depth raw + 8 < t.lift then false else r.liftSpent }

theorem sampled_eq (r : KeyRec) (t : Thresholds) (now : Time) (raw : Nat) :
    let w := { (r.watch now raw).keepSample (r.reading now raw) with resumed := false }
    r.sampled t now raw = if w.state = .held ∧ r.depth raw + 8 < t.lift then { w with liftSpent := false } else w := by
  unfold sampled watch
  by_cases fault : r.state = .fault
  · simp [fault, keepSample, after]
  · by_cases spent : r.state = .held ∧ r.depth raw + 8 < t.lift
    · simp [spent, keepSample, after]
    · simp [fault, spent, keepSample, after]

theorem watch_kept (r : KeyRec) (now : Time) (raw : Nat) :
    (r.watch now raw).depth raw = r.depth raw ∧ (r.watch now raw).before = r.before ∧
      (r.watch now raw).latest = r.latest := by
  unfold watch
  split <;> exact ⟨rfl, rfl, rfl⟩

end KeyRec

namespace Controller

/-- The controller after the passage of a key at a sample. -/
def sampledKey (c : Controller) (k raw : Nat) : Controller :=
  c.setKey k ((c.key k).sampled c.thresholds c.now raw)

def passedKey (c : Controller) (k raw : Nat) : Controller :=
  (c.sampledKey k raw).crossAll (c.key k).before ((c.key k).reading c.now raw) k
    (((c.key k).sampled c.thresholds c.now raw).path c.thresholds (c.key k).before ((c.key k).reading c.now raw) 5)

theorem clearSpent_setKey (c : Controller) {k : Nat} (hk : 1 ≤ k ∧ k ≤ c.keys.length) (r : KeyRec) (d : Nat) :
    (c.setKey k r).clearSpent k d =
      c.setKey k (if r.state = .held ∧ d + 8 < c.thresholds.lift then { r with liftSpent := false } else r) := by
  rw [clearSpent, c.setKey_key hk]
  split
  · next h => exact (setKey_setKey _ _).trans (congrArg (c.setKey k) (if_pos h).symm)
  · next h => exact congrArg (c.setKey k) (if_neg h).symm

/-- R3, R47, R54: a sample: the passage of its key, the readings it gives, and what follows of them. -/
theorem keySample_eq {c : Controller} {k raw : Nat} (hk : 1 ≤ k ∧ k ≤ c.keys.length) (active : c.link.state = .active) :
    c.keySample k raw = (((c.passedKey k raw).trimReading k raw).calReading k raw).keysMoved := by
  obtain ⟨depth, before, -⟩ := (c.key k).watch_kept c.now raw
  have sampled := (c.key k).sampled_eq c.thresholds c.now raw
  have written : (c.sampledKey k raw).key k = (c.key k).sampled c.thresholds c.now raw := c.setKey_key hk _
  have passes := compare_eq (c := c.sampledKey k raw) (c.key k).before ((c.key k).reading c.now raw)
    (by rw [sampledKey, setKey_length]; exact hk) 5
  rw [written] at passes
  have compared : Controller.compare k (c.key k).before ((c.key k).reading c.now raw) 5 (c.sampledKey k raw) =
    c.passedKey k raw := passes
  rw [← compared, sampledKey, sampled, ← clearSpent_setKey c hk, keySample, if_pos active]
  dsimp only
  rw [depth]
  show ((((Controller.compare k ((c.key k).watch c.now raw).before _ 5 _).trimReading k raw).calReading k raw).keysMoved) = _
  rw [before]
  rfl


/-! ### What the readings leave (R47, R48, R54) -/

/-- The record of key k with another rest reading, debt and stale mark. -/
def retrimmed (c : Controller) (k : Nat) (rest : Option Nat) (debt : Int) (stale : Bool) : KeyRec :=
  { c.key k with restRaw := rest, debt := debt, stale := stale }

section Trim

variable (c : Controller) {k : Nat}

theorem retrimmed_self : c.retrimmed k (c.key k).restRaw (c.key k).debt (c.key k).stale = c.key k := rfl

theorem judgeTrim_keys (hk : 1 ≤ k ∧ k ≤ c.keys.length) (g : Nat) (r : Readings) : ∃ rest debt stale,
    (c.judgeTrim g k r).keys = (c.setKey k (c.retrimmed k rest debt stale)).keys := by
  unfold judgeTrim
  extract_lets u rec0 c1 c2
  by_cases bad : 12 < r.spread ∨ r.outSeen = true
  · rw [if_pos bad]
    have same : c.keys = (c.setKey k (c.key k)).keys := congrArg keys (setKey_self hk).symm
    exact ⟨(c.key k).restRaw, (c.key k).debt, (c.key k).stale, same⟩
  · rw [if_neg bad]
    refine ⟨some (steppedRest (rec0.restRaw.getD rec0.nominal) (r.mean 16)),
      if rec0.debt ≤ -8 then rec0.debt else rec0.debt - 1, false, ?_⟩
    split
    · exact (report_frame _ _).keys (by simp)
    · rfl

/-- R47: a sample leaves the unit of its key, or counts toward a reading of a trim of that key, or judges it. -/
theorem trimReading_cases (k raw : Nat) : c.trimReading k raw = c ∨
    (∃ r n, (c.trimUnit (groupOf k)).phase = .trimming k r n) ∧
      ((∃ u, c.trimReading k raw = c.setUnit (groupOf k) u) ∨ ∃ r, c.trimReading k raw = c.judgeTrim (groupOf k) k r) := by
  cases phase : (c.trimUnit (groupOf k)).phase with
  | idle | suspended => exact .inl (by rw [trimReading, phase])
  | trimming j r n =>
    by_cases counts : j = k ∧ (c.key k).state = .rest
    · obtain ⟨rfl, rest⟩ := counts
      refine .inr ⟨⟨r, n, rfl⟩, ?_⟩
      rw [trimReading, phase]
      dsimp only
      rw [if_pos ⟨rfl, rest⟩]
      by_cases due : n = 0
      · rw [if_pos due]
        by_cases last : (r.add raw).count = 16
        · exact .inr ⟨_, if_pos last⟩
        · exact .inl ⟨_, if_neg last⟩
      · exact .inl ⟨_, if_neg due⟩
    · refine .inl ?_
      rw [trimReading, phase]
      exact if_neg counts

theorem trimReading_keys (hk : 1 ≤ k ∧ k ≤ c.keys.length) (raw : Nat) : ∃ rest debt stale,
    (c.trimReading k raw).keys = (c.setKey k (c.retrimmed k rest debt stale)).keys := by
  have same : ∃ rest debt stale, c.keys = (c.setKey k (c.retrimmed k rest debt stale)).keys :=
    ⟨_, _, _, congrArg keys (setKey_self (c := c) hk).symm⟩
  obtain e | ⟨-, ⟨u, e⟩ | ⟨r, e⟩⟩ := c.trimReading_cases k raw
  · rw [e]
    exact same
  · rw [e]
    exact same
  · rw [e]
    exact c.judgeTrim_keys hk _ r

/-- A key that its unit does not trim keeps its record. -/
theorem trimReading_untrimmed (raw : Nat) (h : ∀ r n, (c.trimUnit (groupOf k)).phase ≠ .trimming k r n) :
    c.trimReading k raw = c := by
  obtain e | ⟨⟨r, n, phase⟩, -⟩ := c.trimReading_cases k raw
  · exact e
  · exact absurd phase (h r n)

theorem judgeTrim_tells (g : Nat) (r : Readings) : Tells 1 c (c.judgeTrim g k r) := by
  unfold judgeTrim
  extract_lets u rec0 c1 c2
  split_ifs
  · exact .of_link rfl
  · exact (Tells.of_link (n := 0) (a := c) (b := c2) rfl).trans (report_tells c2 _)
  · exact .of_link rfl

theorem trimReading_tells (k raw : Nat) : Tells 1 c (c.trimReading k raw) := by
  obtain e | ⟨-, ⟨u, e⟩ | ⟨r, e⟩⟩ := c.trimReading_cases k raw
  · rw [e]
    exact .refl _ _
  · rw [e]
    exact .of_link rfl
  · rw [e]
    exact c.judgeTrim_tells _ r

theorem judgeTrim_cal (g k : Nat) (r : Readings) : (c.judgeTrim g k r).trim.cal = c.trim.cal := by
  unfold judgeTrim
  extract_lets u rec0 c1 c2
  split_ifs
  · rfl
  · rw [(report_frame _ _).trim (by simp)]
    rfl
  · rfl

theorem trimReading_cal (k raw : Nat) : (c.trimReading k raw).trim.cal = c.trim.cal := by
  obtain e | ⟨-, ⟨u, e⟩ | ⟨r, e⟩⟩ := c.trimReading_cases k raw
  · rw [e]
  · rw [e]
    rfl
  · rw [e, judgeTrim_cal]

theorem calReading_cal (k raw : Nat) : (c.calReading k raw).trim.cal = none ↔ c.trim.cal = none := by
  unfold calReading
  split <;> simp_all

end Trim

/-- What follows a passage at a sample. -/
def followed (c : Controller) (k raw : Nat) : Controller := ((c.trimReading k raw).calReading k raw).keysMoved

variable (c : Controller)

theorem followed_keys (k raw : Nat) : (c.followed k raw).keys = (c.trimReading k raw).keys :=
  ((keysMoved_frame _).keys (by simp)).trans ((calReading_frame _ _ _).keys (by simp))

theorem followed_frame (k raw : Nat) : Frame [.keys, .trim, .rail, .link] c (c.followed k raw) :=
  (((c.trimReading_frame k raw).widen (by simp)).trans ((calReading_frame _ _ _).widen (by simp))).trans
    ((keysMoved_frame _).widen (by simp))

theorem followed_other {j k : Nat} (hj : 1 ≤ j) (hk : 1 ≤ k ∧ k ≤ c.keys.length) (ne : j ≠ k) (raw : Nat) :
    (c.followed k raw).key j = c.key j := by
  obtain ⟨_, _, _, h⟩ := c.trimReading_keys hk raw
  rw [key, followed_keys, h]
  exact c.setKey_key_other hj hk.1 ne _

theorem followed_key {k : Nat} (hk : 1 ≤ k ∧ k ≤ c.keys.length) (raw : Nat) : ∃ rest debt stale,
    (c.followed k raw).key k = c.retrimmed k rest debt stale := by
  obtain ⟨rest, debt, stale, h⟩ := c.trimReading_keys hk raw
  refine ⟨rest, debt, stale, ?_⟩
  rw [key, followed_keys, h]
  exact c.setKey_key hk _

/-- What follows a passage moves no damper. -/
theorem LiveOnRate.followed {c : Controller} {k : Nat} (h : LiveOnRate (· = k) c) (hk : 1 ≤ k ∧ k ≤ c.keys.length)
    (raw : Nat) : LiveOnRate (· = k) (c.followed k raw) := by
  have f := c.followed_frame k raw
  refine h.congr (f.pool (by simp)) (fun j e => ?_) (by rw [pedal, pedal, f.pedals (by simp)]) (by rw [f.pedals (by simp)])
  subst e
  obtain ⟨_, _, _, written⟩ := c.followed_key hk raw
  rw [written]
  rfl

theorem mem_followed {c : Controller} {q : QueuedReport} (h : q ∈ c.link.queue) (k raw : Nat) :
    q ∈ (c.followed k raw).link.queue :=
  (((c.trimReading_keeps (skip := []) k raw).trans (calReading_keeps _ k raw)).trans (keysMoved_keeps _)).queued h (by simp)

end Controller
namespace Controller

variable {c : Controller} {k raw : Nat} (hk : 1 ≤ k ∧ k ≤ c.keys.length)

/-- The record of a key after its passage at a sample. -/
def passedRec (c : Controller) (k raw : Nat) : KeyRec :=
  ((c.key k).sampled c.thresholds c.now raw).passed (c.key k).before ((c.key k).reading c.now raw) c.thresholds

theorem passedKey_frame : Frame keyParts c (c.passedKey k raw) :=
  ((c.setKey_frame _ _).widen (by simp)).trans (crossAll_frame _ _ _)

theorem passedKey_length : (c.passedKey k raw).keys.length = c.keys.length := by
  rw [passedKey, crossAll_length, sampledKey, setKey_length]

theorem passedKey_other {j : Nat} (hj : 1 ≤ j) (hk : 1 ≤ k) (ne : j ≠ k) : (c.passedKey k raw).key j = c.key j := by
  rw [passedKey, crossAll_other _ _ hj hk ne, sampledKey, c.setKey_key_other hj hk ne]

include hk

theorem sampledKey_key : (c.sampledKey k raw).key k = (c.key k).sampled c.thresholds c.now raw := c.setKey_key hk _

theorem sampledKey_length : 1 ≤ k ∧ k ≤ (c.sampledKey k raw).keys.length := by
  rw [sampledKey, setKey_length]
  exact hk

theorem passedKey_key : (c.passedKey k raw).key k = c.passedRec k raw := by
  rw [passedKey, crossAll_key _ _ (sampledKey_length hk), sampledKey_key hk]
  rfl

/-- The passage of a key from the record that the sample leaves. -/
theorem passedKey_eq : c.passedKey k raw = (c.sampledKey k raw).crossAll (c.key k).before ((c.key k).reading c.now raw) k
    (((c.sampledKey k raw).key k).path c.thresholds (c.key k).before ((c.key k).reading c.now raw) 5) := by
  rw [sampledKey_key hk]
  rfl

/-- R121: a sample that moves the damper puts the LIVE voices of the key on their rates. -/
theorem passedKey_onRate (moved : (c.key k).state.up ≠ (c.passedRec k raw).state.up) :
    LiveOnRate (· = k) (c.passedKey k raw) := by
  rw [passedKey_eq hk]
  refine passage_onRate _ _ (sampledKey_length hk) 5 (.inr ?_)
  rw [sampledKey_key hk]
  exact moved

end Controller
end Sys2Proof.Machine
end

section
/-! The state of a key after a sample (R6, R9 to R14), and the damper events that it hands on. -/

namespace Sys2Proof.Machine

namespace KeyRec

variable {t : Thresholds} (ok : t.ok = true) {p : Option Sample} {s : Sample} {r : KeyRec}

/-! ### The state by the depth -/

/-- R9: the state of a key that rises from REST as far as the depth. -/
def risenTo (t : Thresholds) (d : Nat) : KeyState :=
  if d < t.rest then .rest else if d < t.damp then .shallow else if d < t.lift then .held
  else if d < t.strike then .armed else .struck

/-- R9: the state of a key that falls from SHALLOW as far as the depth. -/
def fallenTo (t : Thresholds) (d : Nat) : KeyState := if d + 8 < t.rest then .rest else .shallow

include ok in
theorem risenTo_of_damp {d : Nat} (h : t.damp ≤ d) :
    risenTo t d = if d < t.lift then .held else if d < t.strike then .armed else .struck := by
  have order := ok_order ok
  rw [risenTo, if_neg (by omega), if_neg (by omega)]

include ok in
theorem passed_rest_state (h : r.state = .rest) (free : r.holdOff = false) (unspent : r.liftSpent = false) :
    (r.passed p s t).state = risenTo t s.depth := by
  have order := ok_order ok
  rw [passed_rest p s h]
  by_cases rises : t.rest ≤ s.depth
  · rw [if_pos rises, roseShallow_state rfl, risenTo, if_neg (show ¬ s.depth < t.rest by omega)]
    simp [crossed, free, unspent]
  · rw [if_neg rises, h, risenTo, if_pos (by omega)]

include ok in
theorem passed_shallow_state (h : r.state = .shallow) (free : r.holdOff = false) (unspent : r.liftSpent = false) :
    (r.passed p s t).state =
      if s.depth + 8 < t.rest then .rest else if s.depth < t.damp then .shallow else risenTo t s.depth := by
  rw [passed_shallow p s ok h]
  split_ifs with falls low
  · rfl
  · rw [roseShallow_state h, if_pos (.inl low)]
  · rw [roseShallow_state h, risenTo_of_damp ok (Nat.not_lt.1 low)]
    simp [free, unspent, low]

include ok in
/-- R9: hold_off keeps a SHALLOW key from rising. -/
theorem passed_heldOff (h : r.state = .shallow) (held : r.holdOff = true) :
    (r.passed p s t).state = fallenTo t s.depth ∧ (r.passed p s t).holdOff = !decide (s.depth + 8 < t.rest) := by
  rw [passed_shallow p s ok h, fallenTo]
  split_ifs with falls
  · exact ⟨rfl, by simp [crossed, falls]⟩
  · rw [roseShallow, if_neg (by simp [held])]
    exact ⟨h, by simp [held, falls]⟩

include ok in
theorem passed_held_falling (h : r.state = .held) (below : s.depth + 8 < t.lift) :
    (r.passed p s t).state = if s.depth + 8 < t.damp then fallenTo t s.depth else .held := by
  rw [passed_held p s ok h]
  split_ifs with falls
  · rw [fellHeld_state h, if_pos falls, fallenTo]
  · rw [roseHeld_state h, if_pos (.inl (by omega))]

include ok in
theorem passed_held_rising (h : r.state = .held) (above : t.lift ≤ s.depth + 8) : (r.passed p s t).state =
    if s.depth < t.lift ∨ r.holdOff = true ∨ r.liftSpent = true then .held else risenTo t s.depth := by
  have order := ok_order ok
  rw [passed_held p s ok h, if_neg (by omega), roseHeld_state h]
  split_ifs with kept armed
  · rfl
  · rw [risenTo_of_damp ok (by omega), if_neg (fun low => kept (.inl low)), if_pos armed]
  · rw [risenTo_of_damp ok (by omega), if_neg (fun low => kept (.inl low)), if_neg armed]

theorem passed_armed_rising (h : r.state = .armed) (above : t.lift ≤ s.depth + 8) :
    (r.passed p s t).state = if s.depth < t.strike then .armed else .struck := by
  rw [passed_armed p s h, if_neg (by omega), roseArmed_state h]

theorem passed_struck_rising (h : r.state = .struck) (above : t.lift ≤ s.depth + 8) :
    (r.passed p s t).state = .struck := by
  rw [passed_struck p s h, if_neg (by omega), h]

theorem passed_high_falling (h : r.state = .armed ∨ r.state = .struck) (below : s.depth + 8 < t.lift) :
    (r.passed p s t).state = if s.depth + 8 < t.damp then fallenTo t s.depth else .held := by
  rcases h with h | h
  · rw [passed_armed p s h, if_pos below, fellHeld_state rfl]
    rfl
  · rw [passed_struck p s h, if_pos below, fellHeld_state rfl]
    rfl

/-! ### The marks and the flight -/

theorem fellShallow_marks : (r.fellShallow p s t).liftSpent = r.liftSpent ∧ (r.fellShallow p s t).sounded = r.sounded ∧
    (r.fellShallow p s t).tLift = r.tLift ∧ (r.fellShallow p s t).flight = r.flight := by
  unfold fellShallow
  split <;> exact ⟨rfl, rfl, rfl, rfl⟩

theorem fellHeld_flight : (r.fellHeld p s t).tLift = r.tLift ∧ (r.fellHeld p s t).flight = r.flight := by
  unfold fellHeld
  split
  · exact fellShallow_marks.2.2
  · exact ⟨rfl, rfl⟩

theorem fellHeld_unspent (h : r.liftSpent = false) : (r.fellHeld p s t).liftSpent = false := by
  unfold fellHeld
  split
  · exact fellShallow_marks.1
  · exact h

include ok in
theorem passed_unspent (h : r.state = .held) (below : s.depth + 8 < t.lift) (unspent : r.liftSpent = false) :
    (r.passed p s t).liftSpent = false := by
  rw [passed_held p s ok h]
  split_ifs
  · exact fellHeld_unspent unspent
  · rw [roseHeld, if_neg (by omega)]
    exact unspent

/-- R11: the lift crossing stores its time and starts the flight timer. -/
def Lifted (t : Thresholds) (p : Option Sample) (s : Sample) (r : KeyRec) : Prop :=
  r.state = .armed → r.tLift = some (risingTime p s t.lift) ∧ r.flight = some (after (risingTime p s t.lift) 120000)

theorem lifted_of_ne (h : r.state ≠ .armed) : Lifted t p s r := fun e => absurd e h

theorem roseHeld_lifted (h : r.state = .held) : Lifted t p s (r.roseHeld p s t) := by
  unfold roseHeld roseArmed
  split_ifs
  · exact lifted_of_ne (by simp [crossed])
  · exact fun _ => ⟨rfl, rfl⟩
  · exact lifted_of_ne (by simp [h])

theorem roseShallow_lifted (h : r.state = .shallow) : Lifted t p s (r.roseShallow p s t) := by
  unfold roseShallow
  split
  · exact roseHeld_lifted rfl
  · exact lifted_of_ne (by simp [h])

theorem fellHeld_lifted (h : r.state = .held) : Lifted t p s (r.fellHeld p s t) := by
  refine lifted_of_ne ?_
  rw [fellHeld_state h]
  split_ifs <;> simp

include ok in
theorem passed_lifted (h : r.state ≠ .armed) : Lifted t p s (r.passed p s t) := by
  cases state : r.state with
  | armed => exact absurd state h
  | rest =>
    rw [passed_rest p s state]
    split
    · exact roseShallow_lifted rfl
    · exact lifted_of_ne h
  | shallow =>
    rw [passed_shallow p s ok state]
    split
    · exact lifted_of_ne (by simp [crossed])
    · exact roseShallow_lifted state
  | held =>
    rw [passed_held p s ok state]
    split
    · exact fellHeld_lifted state
    · exact roseHeld_lifted state
  | struck =>
    rw [passed_struck p s state]
    split
    · exact fellHeld_lifted rfl
    · exact lifted_of_ne h
  | uncal | fault | muted =>
    rw [passed_condition p s (by simp [state])]
    exact lifted_of_ne h

/-- R12, R13: an ARMED key keeps its flight while it stays, and loses it where it strikes or retreats. -/
theorem passed_flight (h : r.state = .armed) :
    ((r.passed p s t).state = .armed → (r.passed p s t).tLift = r.tLift ∧ (r.passed p s t).flight = r.flight) ∧
    ((r.passed p s t).state ≠ .armed → (r.passed p s t).tLift = none ∧ (r.passed p s t).flight = none) := by
  rw [passed_armed p s h]
  split
  · refine ⟨fun armed => ?_, fun _ => fellHeld_flight⟩
    rw [fellHeld_state rfl] at armed
    split_ifs at armed
  · unfold roseArmed
    split
    · exact ⟨fun armed => by simp [crossed] at armed, fun _ => ⟨rfl, rfl⟩⟩
    · exact ⟨fun _ => ⟨rfl, rfl⟩, fun moved => absurd h moved⟩

include ok in
/-- R14: a damper that has fallen leaves no mark of the note. -/
theorem passed_silenced (up : r.state.up = true) (final : (r.passed p s t).state.up = false) :
    (r.passed p s t).sounded = false ∧ (r.passed p s t).liftSpent = false := by
  have fell {q : KeyRec} (h : q.state = .held) (down : (q.fellHeld p s t).state.up = false) :
      (q.fellHeld p s t).sounded = false ∧ (q.fellHeld p s t).liftSpent = false := by
    rw [fellHeld_state h] at down
    unfold fellHeld
    split_ifs at down ⊢
    · exact ⟨fellShallow_marks.2.1, fellShallow_marks.1⟩
    · exact ⟨fellShallow_marks.2.1, fellShallow_marks.1⟩
    · cases down
  cases state : r.state with
  | held =>
    rw [passed_held p s ok state] at final ⊢
    split_ifs at final ⊢
    · exact fell state final
    · rw [roseHeld_up state] at final
      cases final
  | armed =>
    rw [passed_armed p s state] at final ⊢
    split_ifs at final ⊢
    · exact fell rfl final
    · rw [roseArmed_up state] at final
      cases final
  | struck =>
    rw [passed_struck p s state] at final ⊢
    split_ifs at final ⊢
    · exact fell rfl final
    · simp [state, KeyState.up] at final
  | rest | shallow | uncal | fault | muted => simp [state, KeyState.up] at up

end KeyRec
/-! ### The damper events of a sample -/

namespace Controller

variable {c : Controller} {k raw : Nat} (hk : 1 ≤ k ∧ k ≤ c.keys.length) (ok : c.thresholds.ok = true)

include hk in
/-- A passage with one damper crossing, from the record that the sample leaves. -/
theorem passedKey_around {x : Crossing}
    (h : KeyRec.Around x (((c.key k).sampled c.thresholds c.now raw).path c.thresholds (c.key k).before
      ((c.key k).reading c.now raw) 5)) :
    ∃ r : KeyRec, r.sounded = (c.key k).sounded ∧ c.passedKey k raw =
      ((c.setKey k r).cross k x (c.key k).before ((c.key k).reading c.now raw)).setKey k (c.passedRec k raw) := by
  rw [← sampledKey_key hk] at h
  obtain ⟨r, sounded, e⟩ := crossAll_around (c.key k).before ((c.key k).reading c.now raw) (sampledKey_length hk) h
  rw [sampledKey_key hk] at sounded e
  refine ⟨r, sounded, e.trans ?_⟩
  rw [sampledKey, setKey_setKey]
  rfl

include hk ok in
/-- R24: a damper that rises on a sample is handed on once. -/
theorem passedKey_rises (down : (c.key k).state.up = false)
    (final : (c.passedRec k raw).state = .held ∨ (c.passedRec k raw).state = .armed) :
    ∃ r, c.passedKey k raw = ((c.setKey k r).handDamperUp k).setKey k (c.passedRec k raw) := by
  obtain ⟨r, -, e⟩ := passedKey_around hk (KeyRec.around_dampRise ok (by exact down) final)
  exact ⟨_, e.trans (by rw [cross, setKey_setKey])⟩

include hk in
/-- R24, R25: a damper that falls on a sample is handed on once, with its RELEASE. -/
theorem passedKey_falls (up : (c.key k).state.up = true) (final : (c.passedRec k raw).state.up = false) :
    ∃ r, c.passedKey k raw = (((c.setKey k r).handDamperDown k).reportAt
      (fallingTime (c.key k).before ((c.key k).reading c.now raw) c.thresholds.damp)
      (.release k (c.key k).sounded)).setKey k (c.passedRec k raw) := by
  obtain ⟨r, sounded, e⟩ := passedKey_around hk (KeyRec.around_dampFall (by exact up) final)
  refine ⟨{ r with state := .shallow, sounded := false, liftSpent := false }, e.trans ?_⟩
  rw [cross, c.setKey_key hk, setKey_setKey, sounded]
  rfl

end Controller
/-- Settles O25: the record after the passage, and the one damper crossing of a passage that moves the damper. -/
theorem keySampleFollowsDepth : Obligations.KeySampleFollowsDepth := by
  intro k raw s sv sized ok low high hraw r d t fallen risen before lifted fallen8 up
  have hk : 1 ≤ k ∧ k ≤ s.ctl.keys.length := ⟨low, by rw [sized.keys]; exact high⟩
  obtain ⟨q, hq⟩ : ∃ q, q = r.sampled t s.ctl.now raw := ⟨_, rfl⟩
  obtain ⟨c1, hc1⟩ : ∃ c1, c1 = s.ctl.passedKey k raw := ⟨_, rfl⟩
  obtain ⟨rec, hrec⟩ : ∃ rec, rec = s.ctl.passedRec k raw := ⟨_, rfl⟩
  have passed : rec = q.passed r.before (r.reading s.ctl.now raw) t := by rw [hrec, hq]; rfl
  have hk1 : 1 ≤ k ∧ k ≤ c1.keys.length := by rw [hc1, Controller.passedKey_length]; exact hk
  have key1 : c1.key k = rec := by rw [hc1, hrec, Controller.passedKey_key hk]
  obtain ⟨rest, debt, stale, written⟩ := c1.followed_key hk1 raw
  have final : (c1.followed k raw).key k = { rec with restRaw := rest, debt := debt, stale := stale } := by
    rw [written, Controller.retrimmed, key1]
  have state : q.state = r.state := by rw [hq]; rfl
  have holdOff : q.holdOff = r.holdOff := by rw [hq]; rfl
  have flight : q.tLift = r.tLift ∧ q.flight = r.flight := by rw [hq]; exact ⟨rfl, rfl⟩
  have spent : q.liftSpent = if r.state = .held ∧ d + 8 < t.lift then false else r.liftSpent := by rw [hq]; rfl
  have ups : ∀ x : KeyState, up x = x.up := by intro x; cases x <;> rfl
  have leaves : Leaves (.keySample k raw) s (c1.followed k raw) :=
    .of_run (by rw [exec, execKeySample, runReading, if_pos hraw, State.runKey, if_pos ⟨low, high⟩]) sv.1
      (hc1 ▸ Controller.keySample_eq hk sv.2)
  refine ⟨_, leaves, ?_⟩
  rw [final]
  dsimp only
  rw [passed]
  refine ⟨?atRest, ?heldOff, ?inShallow, ?heldFalls, ?heldRises, ?armedRises, ?struckRises, ?highFalls, ?unspent,
    ?condition, ?lift, ?flight, ?flightOver, ?rates, ?records, ?released⟩
  case atRest =>
    intro h free unspent
    exact KeyRec.passed_rest_state ok (state.trans h) (holdOff.trans free) (spent.trans (by simp [h, unspent]))
  case heldOff =>
    intro h held
    exact KeyRec.passed_heldOff ok (state.trans h) (holdOff.trans held)
  case inShallow =>
    intro h free unspent
    exact KeyRec.passed_shallow_state ok (state.trans h) (holdOff.trans free) (spent.trans (by simp [h, unspent]))
  case heldFalls =>
    intro h below
    exact KeyRec.passed_held_falling ok (state.trans h) below
  case heldRises =>
    intro h above
    have kept : q.liftSpent = r.liftSpent := spent.trans (if_neg fun both => absurd both.2 (Nat.not_lt.2 above))
    rw [KeyRec.passed_held_rising ok (state.trans h) above, holdOff, kept]
    rfl
  case armedRises =>
    intro h above
    exact KeyRec.passed_armed_rising (state.trans h) above
  case struckRises =>
    intro h above
    exact KeyRec.passed_struck_rising (state.trans h) above
  case highFalls =>
    intro h below
    exact KeyRec.passed_high_falling (by rw [state]; exact h) below
  case unspent =>
    intro h below
    exact KeyRec.passed_unspent ok (state.trans h) below (spent.trans (if_pos ⟨h, below⟩))
  case condition =>
    intro h
    rw [KeyRec.passed_condition _ _ (by rw [state]; exact h), state]
  case lift =>
    intro h armed
    exact KeyRec.passed_lifted ok (by rw [state]; exact h) armed
  case flight =>
    intro h armed
    rw [← flight.1, ← flight.2]
    exact (KeyRec.passed_flight (state.trans h)).1 armed
  case flightOver =>
    intro h moved
    exact (KeyRec.passed_flight (state.trans h)).2 moved
  case rates =>
    intro moved i n hn sounding live e
    rw [ups, ups, ← passed, hrec] at moved
    have rated : Controller.LiveOnRate (· = k) c1 := hc1 ▸ Controller.passedKey_onRate hk moved
    have rate := rated.followed hk1 raw i n hn sounding live e
    rw [e] at rate
    exact rate
  case records =>
    intro j run hj hr
    have follows (kind : RecKind) (h : c1.records j.target = s.ctl.records j.target ++
        [{ time := s.ctl.recTime j, kind := kind, subject := k, value := 0 }]) : (c1.followed k raw).records j.target = s.ctl.records j.target ++
          [{ time := s.ctl.recTime j, kind := kind, subject := k, value := 0 }] := by
      rw [Controller.records_congr ((c1.followed_frame k raw).takes (by simp)), h]
    have handed (kind : RecKind) (r : KeyRec) : (((s.ctl.setKey k r).reevaluateKeys .live [k]).recWrite kind k 0).records
        j.target = s.ctl.records j.target ++ [{ time := s.ctl.recTime j, kind := kind, subject := k, value := 0 }] :=
      Controller.handDamper_records (s.ctl.setKey k r) hj hr kind
    refine ⟨fun down up => follows _ ?_, fun up down => follows _ ?_⟩
    · rw [← passed, hrec] at up
      obtain ⟨r, e⟩ := Controller.passedKey_rises hk ok ((ups _).symm.trans down) up
      rw [hc1, e]
      exact handed .damperUp r
    · rw [← passed, hrec, ups] at down
      obtain ⟨r, e⟩ := Controller.passedKey_falls hk ((ups _).symm.trans up) down
      rw [hc1, e]
      exact handed .damperDown r
  case released =>
    intro up down
    rw [ups] at up down
    obtain ⟨unsounded, unspent⟩ := KeyRec.passed_silenced ok (by rw [state]; exact up) down
    refine ⟨unsounded, unspent, fun on room => ?_⟩
    rw [← passed, hrec] at down
    obtain ⟨r, e⟩ := Controller.passedKey_falls hk up down
    have tells : Controller.Tells 2 s.ctl ((s.ctl.setKey k r).handDamperDown k) :=
      (Controller.Tells.of_frame (n := 0) (s.ctl.setKey_frame k r) (by simp)).trans (Controller.handDamper_tells (s.ctl.setKey k r) .damperDown)
    refine Controller.mem_followed ?_ k raw
    rw [hc1, e]
    exact tells.queued on (by omega)

/-! ### The rail at a sample (R88) -/

namespace KeyRec

/-- A passage changes the state and the marks of the note alone. -/
theorem crossedAll_kept (t : Thresholds) (p : Option Sample) (s : Sample) (r : KeyRec) (l : List Crossing) :
    ∃ state tLift flight sounded liftSpent holdOff, r.crossedAll t p s l =
      { r with state := state, tLift := tLift, flight := flight, sounded := sounded, liftSpent := liftSpent
               holdOff := holdOff } := by
  induction l generalizing r with
  | nil => exact ⟨_, _, _, _, _, _, rfl⟩
  | cons x l ih =>
    obtain ⟨state, tLift, flight, sounded, liftSpent, holdOff, h⟩ := ih (r.crossed t p s x)
    refine ⟨state, tLift, flight, sounded, liftSpent, holdOff, h.trans ?_⟩
    cases x <;> rfl

end KeyRec

namespace Controller

variable (c : Controller)

/-- R23: the keyboard is quiet. -/
theorem quiet_iff : c.quiet = true ↔ ∀ x ∈ c.keys, x.state ∉ [KeyState.shallow, .held, .armed, .struck] := by
  have disturbs (x : KeyState) : (!x.disturbs) = true ↔ x ∉ [KeyState.shallow, .held, .armed, .struck] := by
    cases x <;> decide
  simp only [quiet, List.all_eq_true, disturbs]

theorem motionOpen_iff (active : c.link.state = .active) : c.motionOpen = true ↔
    (∀ x ∈ c.keys, x.state ∉ [KeyState.shallow, .held, .armed, .struck]) ∧ c.trim.cal = none := by
  rw [motionOpen, Bool.and_eq_true, Bool.and_eq_true, quiet_iff, Option.isNone_iff_eq_none]
  simp [active]

/-- R88: the rail that starts from a wait for a stop. -/
def startedRail (t : Stop) : Rail := if (c.rail.switch t).closed then c.rail.settling c.now else c.rail.moving t c.now

theorem railTest_starts {t : Stop} (waits : c.rail.state = .waitQuiet) (target : c.rail.target = some t)
    (isOpen : c.motionOpen = true) :
    c.railTest = ((c.setRail (c.startedRail t)).railReport false).trimSync := by
  rw [railTest, target]
  exact if_pos ⟨waits, isOpen⟩

theorem railTest_stands (h : ¬ (c.rail.state = .waitQuiet ∧ c.rail.target ≠ none ∧ c.motionOpen = true)) :
    c.railTest = c := by
  unfold railTest
  split
  · next t target => exact if_neg fun ⟨waits, isOpen⟩ => h ⟨waits, by simp [target], isOpen⟩
  · rfl

theorem railTest_rail {t : Stop} (waits : c.rail.state = .waitQuiet) (target : c.rail.target = some t)
    (isOpen : c.motionOpen = true) : c.railTest.rail = c.startedRail t := by
  rw [railTest_starts c waits target isOpen, trimSync_rail, (railReport_frame _ _).rail (by simp)]
  rfl

theorem startedRail_fields (t : Stop) (target : c.rail.target = some t) :
    ((c.startedRail t).target, (c.startedRail t).origin, (c.startedRail t).quietTimer) = (some t, none, none) ∧
    ((c.startedRail t).state, (c.startedRail t).motor) =
      (if (c.rail.switch t).closed then (.settling, .off) else (t.motion, t.motor)) ∧
    ((c.startedRail t).cause, (c.startedRail t).lastStop, (c.startedRail t).recovery) =
      (c.rail.cause, c.rail.lastStop, c.rail.recovery) := by
  unfold startedRail
  split
  · exact ⟨by rw [← target]; rfl, rfl, rfl⟩
  · exact ⟨by rw [← target]; rfl, rfl, rfl⟩

/-- R102: the state that a started rail enters is reported. -/
theorem railTest_queued {t : Stop} (waits : c.rail.state = .waitQuiet) (target : c.rail.target = some t)
    (isOpen : c.motionOpen = true) (on : c.link.mask.getLsbD 3 = true) (room : c.link.queue.length < 64) :
    { time := c.now, report := .railState (c.startedRail t).state (some t) c.rail.cause false c.rail.lastStop
        c.rail.recovery } ∈ c.railTest.link.queue := by
  obtain ⟨fields, -, kept⟩ := c.startedRail_fields t target
  simp only [Prod.mk.injEq] at fields kept
  obtain ⟨targets, -, -⟩ := fields
  obtain ⟨cause, lastStop, recovery⟩ := kept
  have said := report_queued (c := c.setRail (c.startedRail t))
    (r := .railState (c.startedRail t).state (c.startedRail t).target (c.startedRail t).cause false
      (c.startedRail t).lastStop (c.startedRail t).recovery) on room
  rw [targets, cause, lastStop, recovery] at said
  rw [railTest_starts c waits target isOpen, trimSync_link, railReport]
  show _ ∈ ((c.setRail (c.startedRail t)).report (.railState (c.startedRail t).state (c.startedRail t).target
    (c.startedRail t).cause false (c.startedRail t).lastStop (c.startedRail t).recovery)).link.queue
  rw [targets, cause, lastStop, recovery]
  exact said

theorem key_mem {k : Nat} (hk : 1 ≤ k ∧ k ≤ c.keys.length) : c.key k ∈ c.keys := by
  rw [key, List.getElem?_eq_getElem (show k - 1 < c.keys.length by omega)]
  exact List.getElem_mem _

theorem followed_length {k : Nat} (hk : 1 ≤ k ∧ k ≤ c.keys.length) (raw : Nat) :
    (c.followed k raw).keys.length = c.keys.length := by
  obtain ⟨_, _, _, h⟩ := c.trimReading_keys hk raw
  rw [followed_keys, h, setKey_length]

/-- The readings of a sample made, the rail not yet tested. -/
def readOut (c : Controller) (k raw : Nat) : Controller := (c.trimReading k raw).calReading k raw

theorem readOut_frame (k raw : Nat) : Frame [.keys, .trim, .link] c (c.readOut k raw) :=
  ((c.trimReading_frame k raw).widen (by simp)).trans ((calReading_frame _ _ _).widen (by simp))

theorem readOut_tells (k raw : Nat) : Tells 1 c (c.readOut k raw) :=
  (c.trimReading_tells k raw).trans (m := 0) (.of_frame (calReading_frame _ _ _) (by simp))

theorem readOut_cal (k raw : Nat) : (c.readOut k raw).trim.cal = none ↔ c.trim.cal = none := by
  rw [readOut, calReading_cal, trimReading_cal]

/-- R24: a sample that leaves the damper of its key down makes few reports. -/
theorem passedKey_tells {c : Controller} {k raw : Nat} (hk : 1 ≤ k ∧ k ≤ c.keys.length)
    (down : (c.passedRec k raw).state.up = false) : Tells 3 c (c.passedKey k raw) := by
  obtain ⟨quiet, falls⟩ := KeyRec.path_to_down (n := 5) (by exact down)
  by_cases up : (c.key k).state.up = true
  · obtain ⟨r, e⟩ := passedKey_falls hk up down
    rw [e]
    have handed := (Tells.of_frame (n := 0) (c.setKey_frame k r) (by simp)).trans
      (handDamper_tells (k := k) (c.setKey k r) .damperDown)
    exact (handed.trans (reportAt_tells _ _ _)).trans (m := 0) (.of_frame (setKey_frame _ _ _) (by simp))
  · have silent := quiet (by exact Bool.eq_false_iff.2 up)
    rw [passedKey, crossAll_silent _ _ (sampledKey_length hk) silent]
    exact (Tells.of_frame (n := 3) (c.setKey_frame _ _) (by simp)).trans (m := 0) (.of_frame (setKey_frame _ _ _) (by simp))

end Controller

/-- Settles O24: the passage, the readings and the rail's test, each by what it may touch. -/
theorem keySampleKept : Obligations.KeySampleKept := by
  intro k raw s sv sized low high hraw r e depth inR
  have hk : 1 ≤ k ∧ k ≤ s.ctl.keys.length := ⟨low, by rw [sized.keys]; exact high⟩
  have within : inR ↔ Machine.inRange raw = true := (decide_eq_true_iff).symm
  obtain ⟨c1, hc1⟩ : ∃ c1, c1 = s.ctl.passedKey k raw := ⟨_, rfl⟩
  have f1 : Controller.Frame Controller.keyParts s.ctl c1 := hc1 ▸ Controller.passedKey_frame
  have hk1 : 1 ≤ k ∧ k ≤ c1.keys.length := by rw [hc1, Controller.passedKey_length]; exact hk
  have key1 : c1.key k = s.ctl.passedRec k raw := by rw [hc1, Controller.passedKey_key hk]
  obtain ⟨state, tLift, flight, sounded, liftSpent, holdOff, kept⟩ := KeyRec.crossedAll_kept s.ctl.thresholds r.before
    (r.reading s.ctl.now raw) (r.sampled s.ctl.thresholds s.ctl.now raw) _
  obtain ⟨rest, debt, stale, written⟩ := c1.followed_key hk1 raw
  rw [Controller.retrimmed, key1, Controller.passedRec, KeyRec.passed, kept] at written
  have leaves : Leaves (.keySample k raw) s (c1.followed k raw) :=
    .of_run (by rw [exec, execKeySample, runReading, if_pos hraw, State.runKey, if_pos ⟨low, high⟩]) sv.1
      (hc1 ▸ Controller.keySample_eq hk sv.2)
  refine ⟨_, leaves, (f1.widen (by simp)).trans ((c1.followed_frame k raw).widen (by simp)), ?other, ?_⟩
  case other =>
    intro j hj _ ne
    rw [c1.followed_other hj hk1 ne, hc1, Controller.passedKey_other hj low ne]
  refine ⟨by rw [written]; rfl, by rw [written]; rfl, by rw [written]; rfl, ?_, ?_, by rw [written]; rfl,
    by rw [written]; rfl, by rw [written]; rfl, by rw [written]; rfl, by rw [written]; rfl, by rw [written]; rfl, ?_, ?_⟩
  · rw [written]
    simp only [within]
    rfl
  · rw [written]
    simp only [within]
    rfl
  · intro untrimmed
    have unit : c1.trimUnit = s.ctl.trimUnit := funext fun g => by
      simp only [Controller.trimUnit, f1.trim (by simp)]
    have same : (c1.followed k raw).key k = c1.key k := by
      rw [Controller.key, c1.followed_keys, c1.trimReading_untrimmed raw (by rw [unit]; exact untrimmed)]
      rfl
    rw [same, key1, Controller.passedRec, KeyRec.passed, kept]
    exact ⟨rfl, rfl, rfl⟩
  · obtain ⟨c3, hc3⟩ : ∃ c3, c3 = c1.readOut k raw := ⟨_, rfl⟩
    have f3 : Controller.Frame (.keys :: .trim :: Controller.keyParts) s.ctl c3 :=
      (f1.widen (by simp)).trans (hc3 ▸ (c1.readOut_frame k raw).widen (by simp))
    have rail3 : c3.rail = s.ctl.rail := f3.rail (by simp)
    have cal3 : c3.trim.cal = none ↔ s.ctl.trim.cal = none := by
      rw [hc3, c1.readOut_cal, f1.trim (by simp)]
    have final : c1.followed k raw = c3.railTest.trimSync := by rw [hc3]; rfl
    have keys : (c1.followed k raw).keys = c3.keys := by
      rw [final, Controller.trimSync_keys, c3.railTest_frame.keys (by simp)]
    have key3 : (c3.key k).state = (s.ctl.passedRec k raw).state := by
      have same : c3.key k = (c1.followed k raw).key k := by rw [Controller.key, ← keys]; rfl
      rw [same, written, Controller.passedRec, KeyRec.passed, kept]
    have down (quiet : ∀ x ∈ c3.keys, x.state ∉ [KeyState.shallow, .held, .armed, .struck]) :
        (s.ctl.passedRec k raw).state.up = false := by
      have len : 1 ≤ k ∧ k ≤ c3.keys.length := by
        rw [← keys, c1.followed_length hk1]
        exact hk1
      have calm := quiet _ (c3.key_mem len)
      rw [key3] at calm
      cases h : (s.ctl.passedRec k raw).state with
      | held | armed | struck => simp [h] at calm
      | rest | shallow | uncal | fault | muted => rfl
    dsimp only
    rw [keys, final, Controller.trimSync_rail, Controller.trimSync_link]
    refine ⟨fun t waits target quiet free => ?_, fun stands => ?_⟩
    · have tells : Controller.Tells 4 s.ctl c3 := by
        rw [hc3, hc1]
        exact (Controller.passedKey_tells hk (down quiet)).trans (Controller.readOut_tells _ _ _)
      have isOpen : c3.motionOpen = true :=
        (c3.motionOpen_iff (tells.state.trans sv.2)).2 ⟨quiet, cal3.2 free⟩
      obtain ⟨fields, motion, -⟩ := c3.startedRail_fields t (by rw [rail3, target])
      rw [c3.railTest_rail (by rw [rail3, waits]) (by rw [rail3, target]) isOpen]
      refine ⟨fields, by rw [motion, rail3], fun on room => ?_⟩
      have grows := tells.grows
      have said := c3.railTest_queued (by rw [rail3, waits]) (by rw [rail3, target]) isOpen (by rw [tells.mask]; exact on)
        (by omega)
      have now : c3.now = s.ctl.now := congrArg StageClock.time (f3.clock (by simp))
      rw [now, rail3] at said
      exact said
    · rw [c3.railTest_stands, rail3]
      rintro ⟨waits, target, isOpen⟩
      rw [Controller.motionOpen, Bool.and_eq_true, Bool.and_eq_true, Controller.quiet_iff, Option.isNone_iff_eq_none] at isOpen
      rw [rail3] at waits target
      exact stands ⟨waits, target, isOpen.1.1, cal3.1 isOpen.1.2⟩

end Sys2Proof.Machine
end

section
/-! The strike of an ARMED key (R12, R24, R25, R113, R162, R163). -/

namespace Sys2Proof.Machine

namespace Controller

variable (c : Controller)

/-- The Player is STOPPED without a session, and in the state of its session otherwise (R172). -/
theorem session_of_stopped (h : c.playerState = .stopped) : c.player.session = none := by
  cases session : c.player.session with
  | none => rfl
  | some x =>
    rw [playerState, session] at h
    cases phase : x.phase <;> simp [phase] at h

theorem session_of_paused (h : c.playerState = .paused) : ∃ x w, c.player.session = some x ∧ x.phase = .paused w := by
  cases session : c.player.session with
  | none =>
    rw [playerState, session] at h
    cases h
  | some x =>
    rw [playerState, session] at h
    cases phase : x.phase with
    | playing | waiting => simp [phase] at h
    | paused w => exact ⟨x, w, rfl, phase⟩

theorem setSession_self : c.setSession c.player.session = c := rfl

/-- R174: the take time of a Player that does not play stands. -/
theorem bringUp_of_still (h : c.playerState = .stopped ∨ c.playerState = .paused) : c.bringUp = c := by
  rcases h with h | h
  · rw [bringUp, c.session_of_stopped h]
  · obtain ⟨x, w, session, phase⟩ := c.session_of_paused h
    have stands : x.upTo c.player.tempo c.now = x := by rw [Session.upTo, phase]
    rw [bringUp, session]
    dsimp only
    rw [stands, ← session, setSession_self]

theorem guideStrike_of_still (h : c.playerState = .stopped ∨ c.playerState = .paused) (k : Nat) : c.guideStrike k = c := by
  rw [guideStrike, c.bringUp_of_still h]
  rcases h with h | h
  · rw [c.session_of_stopped h]
  · obtain ⟨x, w, session, phase⟩ := c.session_of_paused h
    rw [session]
    dsimp only
    rw [phase]
    exact takeReached_of_not_playing c (by rw [h]; decide)

theorem playerState_congr {a b : Controller} (h : b.player = a.player) : b.playerState = a.playerState := by
  simp only [playerState, h]

theorem recStrike_of_idle (h : c.recState = .idle) (k level : Nat) : c.recStrike k level = c := by
  have none : c.recorder.job = none := by
    cases job : c.recorder.job with
    | none => rfl
    | some j =>
      rw [recState, job] at h
      dsimp only at h
      split at h <;> cases h
  rw [recStrike, none]

/-- R24: a strike of a Player that stands, the Recorder idle, goes to the pool and the Link. -/
theorem handStrike_of_still (player : c.playerState = .stopped ∨ c.playerState = .paused) (k flight : Nat)
    (again : Bool) (t : Time) : c.handStrike k flight again t =
      ((c.liveStrike k (c.touchLevel k flight)).recStrike k (c.touchLevel k flight)).reportAt t
        (c.strikeReport k (c.touchLevel k flight) flight again) := by
  have still : ((c.liveStrike k (c.touchLevel k flight)).recStrike k (c.touchLevel k flight)).playerState = .stopped ∨
      ((c.liveStrike k (c.touchLevel k flight)).recStrike k (c.touchLevel k flight)).playerState = .paused := by
    rw [playerState_congr ((recStrike_frame _ _ _).player (by simp)), playerState_congr ((liveStrike_frame _ _ _).player (by simp))]
    exact player
  rw [handStrike, guideStrike_of_still _ still]

end Controller

/-! ### The passage of an ARMED key to its strike -/

namespace Controller

variable {c : Controller} {k raw : Nat} (hk : 1 ≤ k ∧ k ≤ c.keys.length) (ok : c.thresholds.ok = true)

/-- R12: the record of a key that strikes at a sample. -/
def struckRec (c : Controller) (k raw : Nat) : KeyRec :=
  { (c.key k).sampled c.thresholds c.now raw with state := .struck, flight := none, tLift := none, sounded := true }

/-- The controller in which the key has struck, the strike not yet handed on. -/
def struckKey (c : Controller) (k raw : Nat) : Controller := c.setKey k (c.struckRec k raw)

include ok in
theorem armed_path (armed : (c.key k).state = .armed) (strikes : c.thresholds.strike ≤ (c.key k).depth raw) :
    ((c.key k).sampled c.thresholds c.now raw).path c.thresholds (c.key k).before ((c.key k).reading c.now raw) 5 =
      [.strike] := by
  have order := KeyRec.ok_order ok
  have depth : ((c.key k).reading c.now raw).depth = (c.key k).depth raw := rfl
  rw [KeyRec.path_armed _ _ _ (by exact armed), depth, if_neg (by omega), KeyRec.risesArmed, if_pos strikes]

include hk ok in
theorem passedKey_strikes {lift : Time} {p : Sample} (armed : (c.key k).state = .armed)
    (lifted : (c.key k).tLift = some lift) (latest : (c.key k).latest = some p) (scanned : (c.key k).resumed = false)
    (near : p.depth < c.thresholds.strike) (strikes : c.thresholds.strike ≤ (c.key k).depth raw) :
    let time := p.time + BitVec.ofNat 32 (20 * (c.thresholds.strike - p.depth) / ((c.key k).depth raw - p.depth))
    c.passedKey k raw = (c.struckKey k raw).handStrike k (max 1 (time - lift).toNat) (c.key k).sounded time ∧
      c.passedRec k raw = c.struckRec k raw := by
  have path := c.armed_path (raw := raw) ok armed strikes
  have before : (c.key k).before = some p := by rw [KeyRec.before, scanned, latest]; rfl
  have time : risingTime (c.key k).before ((c.key k).reading c.now raw) c.thresholds.strike =
      p.time + BitVec.ofNat 32 (20 * (c.thresholds.strike - p.depth) / ((c.key k).depth raw - p.depth)) := by
    rw [before]
    exact if_pos near
  have sampledLift : ((c.key k).sampled c.thresholds c.now raw).tLift = some lift := lifted
  refine ⟨?_, ?_⟩
  · rw [passedKey, path]
    show (c.sampledKey k raw).cross k .strike _ _ = _
    rw [cross, sampledKey_key hk, strikeKey, sampledLift]
    dsimp only
    rw [sampledKey, setKey_setKey, setKey_thresholds, time]
    rfl
  · rw [passedRec, KeyRec.passed, path]
    rfl

/-- The touch of a struck key is that of its record before. -/
theorem struckKey_touchLevel (hk : 1 ≤ k ∧ k ≤ c.keys.length) (flight : Nat) :
    (c.struckKey k raw).touchLevel k flight = strikeLevel (c.curve c.curveInUse) (c.key k).travel flight
      (c.key k).levelTrim (c.pedal 2).value c.pedals.softCut := by
  rw [touchLevel, struckKey, c.setKey_key hk]
  rfl

theorem struckKey_report (hk : 1 ≤ k ∧ k ≤ c.keys.length) (level flight : Nat) (again : Bool) :
    (c.struckKey k raw).strikeReport k level flight again = .strike k level flight again (c.key k).stale
      (decide (c.rail.state = .engaging ∨ c.rail.state = .disengaging)) (decide (c.rail.lastStop = .engaged)) := by
  have moving : (c.rail.state == .engaging || c.rail.state == .disengaging) =
      decide (c.rail.state = .engaging ∨ c.rail.state = .disengaging) := by
    cases c.rail.state <;> rfl
  have silent : (c.curveInUse == .silent) = decide (c.rail.lastStop = .engaged) := by
    rw [curveInUse]
    cases c.rail.lastStop <;> rfl
  rw [strikeReport, struckKey, c.setKey_key hk, ← moving, ← silent]
  rfl

theorem Sized.setKey (h : c.Sized) (k : Nat) (r : KeyRec) : (c.setKey k r).Sized :=
  ⟨by rw [setKey_length, h.keys], h.acoustic, h.silent, h.rounds, h.units, h.pedals, h.voices, h.decay⟩

/-- R113: with the live path open a strike has one voice of the key begin, with it closed no voice changes. -/
theorem liveStrike_voice (sized : c.Sized) (ok : c.PoolOk) (isOpen : c.livePath = true) (k level : Nat) :
    ∃ i n, (c.liveStrike k level).voice i = some n ∧ n.source = .live ∧ n.key = k ∧ n.level = level ∧ n.fading = false ∧
      n.start = c.now ∧
      ∀ j m, (c.liveStrike k level).voice j = some m → m.source = .live → m.key = k → j = i := by
  rw [liveStrike, if_pos isOpen]
  obtain ⟨-, poolOk, i, n, voice, -, sounding, source, key, lvl, -, start, -⟩ := strikeTakesOneVoice c .live k level sized ok
  exact ⟨i, n, voice, source, key, lvl, sounding, start, fun j m hm live hk =>
    poolOk.distinct j i m n hm voice (live.trans source.symm) (hk.trans key.symm)⟩

theorem liveStrike_closed (shut : c.livePath = false) (k level : Nat) : c.liveStrike k level = c := by
  rw [liveStrike, if_neg (by rw [shut]; exact Bool.false_ne_true)]

end Controller

/-- The readings of a sample touch no voice. -/
theorem Controller.followed_voice (c : Controller) (k raw : Nat) : (c.followed k raw).voice = c.voice := by
  funext i
  rw [Controller.voice, (c.followed_frame k raw).pool (by simp)]
  rfl

namespace Controller

/-! ### The strike in the recording (R162, R163) -/

variable (c : Controller) {j : RecJob} (k level : Nat)

theorem recStrike_running {run : RecRun} (hj : c.recorder.job = some j) (hr : j.run = some run) :
    c.recStrike k level = c.recAppend j { time := c.recTime j, kind := .strike, subject := k, value := level } := by
  rw [← c.recWrite_eq hj hr]
  obtain ⟨target, mode, r⟩ := j
  obtain rfl : r = some run := hr
  rw [recStrike, hj]

theorem recStrike_waiting (hj : c.recorder.job = some j) (hr : j.run = none) :
    c.recStrike k level = (c.recStart j (some c.now)).recWrite .strike k level := by
  obtain ⟨target, mode, r⟩ := j
  obtain rfl : r = none := hr
  rw [recStrike, hj]

/-- The Recorder as a FREE start leaves it. -/
theorem recStart_free_job (t : Time) :
    (c.recStart j (some t)).recorder.job = some { j with run := some (c.openingRun (some t) 0) } := by
  rw [recStart_free, (report_frame _ _).recorder (by simp)]
  rfl

theorem recStart_free_records (t : Time) :
    (c.recStart j (some t)).records j.target = c.records j.target ++ c.openingAt 0 := by
  rw [recStart_free, records_congr ((report_frame _ _).takes (by simp)), records_eq, opened_take]
  rfl

theorem recStart_free_other (t : Time) {other : Slot} (h : other ≠ j.target) :
    (c.recStart j (some t)).take other = c.take other := by
  rw [recStart_free, take_congr ((report_frame _ _).takes (by simp)), opened_other _ _ _ _ h]

theorem recStart_free_queued (t : Time) (on : c.link.mask.getLsbD 6 = true) (room : c.link.queue.length < 64) :
    { time := c.now, report := .recStarted j.target j.mode 0 (c.openingAt 0).length } ∈
      (c.recStart j (some t)).link.queue := by
  have now : (c.opened j (some t) 0).now = c.now := congrArg StageClock.time (setTake_clock _ _ _)
  rw [recStart_free]
  exact (c.opened_tells j (some t) 0).queuedNow now on room

/-- A strike writes to the target slot alone. -/
theorem recStrike_other (hj : c.recorder.job = some j) {other : Slot} (h : other ≠ j.target) :
    (c.recStrike k level).take other = c.take other := by
  cases hr : j.run with
  | some run => rw [c.recStrike_running k level hj hr, recAppend_other _ _ _ h]
  | none =>
    rw [c.recStrike_waiting k level hj hr, recWrite_eq _ (recStart_free_job c c.now) rfl, recAppend_other _ _ _ (by exact h),
      recStart_free_other c c.now h]

/-- R162: the strike that a FREE recording waited for is written at record time 0. -/
theorem recStrike_opens (hj : c.recorder.job = some j) (hr : j.run = none) (free : j.mode = .free) :
    c.recStrike k level = (c.recStart j (some c.now)).recAppend { j with run := some (c.openingRun (some c.now) 0) }
      { time := 0, kind := .strike, subject := k, value := level } := by
  have now : (c.recStart j (some c.now)).now = c.now :=
    congrArg StageClock.time ((c.recStart_frame j (some c.now)).clock (by simp))
  rw [c.recStrike_waiting k level hj hr, recWrite_eq _ (recStart_free_job c c.now) rfl,
    recTime_free (j := { j with run := some (c.openingRun (some c.now) 0) }) rfl free rfl, now, BitVec.sub_self]
  rfl

theorem upKeys_length : c.upKeys.length ≤ 88 :=
  (List.length_filter_le ..).trans (by simp [allKeys])

end Controller

/-- R12: a sample at which an ARMED key strikes leaves its struck record, and the strike handed on. -/
theorem Controller.keySample_strikes {k raw : Nat} {lift : Time} {p : Sample} {s : State} (sv : s.Serving)
    (hk : 1 ≤ k ∧ k ≤ s.ctl.keys.length) (high : k ≤ 88) (hraw : raw < 4096) (ok : s.ctl.thresholds.ok = true)
    (armed : (s.ctl.key k).state = .armed) (lifted : (s.ctl.key k).tLift = some lift)
    (latest : (s.ctl.key k).latest = some p) (scanned : (s.ctl.key k).resumed = false)
    (near : p.depth < s.ctl.thresholds.strike) (strikes : s.ctl.thresholds.strike ≤ (s.ctl.key k).depth raw) :
    let time := p.time + BitVec.ofNat 32 (20 * (s.ctl.thresholds.strike - p.depth) / ((s.ctl.key k).depth raw - p.depth))
    let c1 := (s.ctl.struckKey k raw).handStrike k (max 1 (time - lift).toNat) (s.ctl.key k).sounded time
    Leaves (.keySample k raw) s (c1.followed k raw) ∧ 1 ≤ k ∧ k ≤ c1.keys.length ∧ c1.key k = s.ctl.struckRec k raw := by
  intro time c1
  obtain ⟨passes, record⟩ := passedKey_strikes hk ok armed lifted latest scanned near strikes
  have passes : s.ctl.passedKey k raw = c1 := passes
  have len : k ≤ c1.keys.length := by rw [← passes, passedKey_length]; exact hk.2
  refine ⟨.of_run (by rw [exec, execKeySample, runReading, if_pos hraw, State.runKey, if_pos ⟨hk.1, high⟩]) sv.1
    ((Controller.keySample_eq hk sv.2).trans ?_), hk.1, len, ?_⟩
  · rw [passes]
    rfl
  · rw [← passes, passedKey_key hk, record]

/-- Settles O26: the one crossing of an ARMED key that strikes, and its four takers. -/
theorem armedKeyStrikes : Obligations.ArmedKeyStrikes := by
  refine ⟨?pool, ?recording⟩
  case pool =>
    intro k raw lift p s sv sized pool ok low high hraw idle stopped r d t armed lifted latest scanned near
      strikes time flight level
    have hk : 1 ≤ k ∧ k ≤ s.ctl.keys.length := ⟨low, by rw [sized.keys]; exact high⟩
    obtain ⟨leaves, -, len, key1⟩ :=
      Controller.keySample_strikes sv hk high hraw ok armed lifted latest scanned near strikes
    obtain ⟨c0, hc0⟩ : ∃ c0, c0 = s.ctl.struckKey k raw := ⟨_, rfl⟩
    have f0 : Controller.Frame [.keys] s.ctl c0 := hc0 ▸ s.ctl.setKey_frame _ _
    have touch : c0.touchLevel k flight = level := by rw [hc0, Controller.struckKey_touchLevel hk]
    have stopped0 : c0.playerState = .stopped := by rw [Controller.playerState_congr (f0.player (by simp))]; exact stopped
    obtain ⟨c1, hc1⟩ : ∃ c1, c1 = c0.handStrike k flight r.sounded time := ⟨_, rfl⟩
    rw [← hc0] at leaves len key1
    have live := c0.liveStrike_frame k level
    have idle0 : (c0.liveStrike k level).recState = .idle := by
      rw [Controller.recState, live.recorder (by simp), f0.recorder (by simp)]
      exact idle
    have handed : c1 = (c0.liveStrike k level).reportAt time (c0.strikeReport k level flight r.sounded) := by
      rw [hc1, c0.handStrike_of_still (.inl stopped0), touch, Controller.recStrike_of_idle _ idle0]
    have said := s.ctl.struckKey_report (raw := raw) hk level flight r.sounded
    rw [← hc0] at said
    have leaves : Leaves (.keySample k raw) s (c1.followed k raw) := hc1 ▸ leaves
    have hk1 : 1 ≤ k ∧ k ≤ c1.keys.length := ⟨low, hc1 ▸ len⟩
    have key1 : c1.key k = s.ctl.struckRec k raw := hc1 ▸ key1
    have f1 : Controller.Frame [.pool, .link] c0 c1 := by
      rw [handed]
      exact live.trans ((Controller.reportAt_frame _ _ _).widen (by simp))
    have pool1 : c1.pool = (c0.liveStrike k level).pool := by rw [handed, (Controller.reportAt_frame _ _ _).pool (by simp)]
    have voice1 : c1.voice = (c0.liveStrike k level).voice := funext fun i => by rw [Controller.voice, pool1]; rfl
    have after := c1.followed_frame k raw
    obtain ⟨rest, debt, stale, final⟩ := c1.followed_key hk1 raw
    rw [Controller.retrimmed, key1] at final
    refine ⟨_, leaves, by rw [final]; rfl, by rw [final]; rfl, by rw [final]; rfl, by rw [final]; rfl, ?report, ?isOpen,
      ?shut, ?_, ?_, ?_⟩
    case report =>
      intro on room
      refine Controller.mem_followed ?_ k raw
      rw [handed, said]
      have tells : Controller.Tells 1 s.ctl (c0.liveStrike k level) :=
        (Controller.Tells.of_frame (n := 0) f0 (by simp)).trans (c0.liveStrike_tells k level)
      exact tells.queued on (by omega)
    case isOpen =>
      intro isOpen
      obtain ⟨i, n, voice, source, key, lvl, sounding, start, alone⟩ := c0.liveStrike_voice (hc0 ▸ sized.setKey k _)
        (pool.of_pool_eq (f0.pool (by simp))) (hc0 ▸ isOpen) k level
      rw [← voice1] at voice alone
      rw [c1.followed_voice]
      exact ⟨i, n, voice, source, key, lvl, sounding, start.trans (congrArg StageClock.time (f0.clock (by simp))), alone⟩
    case shut =>
      intro shut
      rw [after.pool (by simp), pool1, c0.liveStrike_closed (hc0 ▸ shut), f0.pool (by simp)]
    · rw [after.recorder (by simp), f1.recorder (by simp), f0.recorder (by simp)]
    · rw [after.takes (by simp), f1.takes (by simp), f0.takes (by simp)]
    · rw [after.player (by simp), f1.player (by simp), f0.player (by simp)]
  case recording =>
    intro k raw lift p j s sv sized ok low high hraw hj player r d t armed lifted latest scanned near strikes flight level old
    have hk : 1 ≤ k ∧ k ≤ s.ctl.keys.length := ⟨low, by rw [sized.keys]; exact high⟩
    obtain ⟨leaves, -, -, -⟩ := Controller.keySample_strikes sv hk high hraw ok armed lifted latest scanned near strikes
    obtain ⟨time, htime⟩ : ∃ time, time = p.time + BitVec.ofNat 32 (20 * (t.strike - p.depth) / (d - p.depth)) := ⟨_, rfl⟩
    obtain ⟨c0, hc0⟩ : ∃ c0, c0 = s.ctl.struckKey k raw := ⟨_, rfl⟩
    have f0 : Controller.Frame [.keys] s.ctl c0 := hc0 ▸ s.ctl.setKey_frame _ _
    have touch : c0.touchLevel k flight = level := by rw [hc0, Controller.struckKey_touchLevel hk]
    have still : c0.playerState = .stopped ∨ c0.playerState = .paused := by
      rw [Controller.playerState_congr (f0.player (by simp))]
      exact player
    obtain ⟨c1, hc1⟩ : ∃ c1, c1 = c0.liveStrike k level := ⟨_, rfl⟩
    have live : Controller.Frame [.pool, .link] c0 c1 := hc1 ▸ c0.liveStrike_frame k level
    have fs : Controller.Frame [.keys, .pool, .link] s.ctl c1 := (f0.widen (by simp)).trans (live.widen (by simp))
    have tells : Controller.Tells 1 s.ctl c1 :=
      hc1 ▸ (Controller.Tells.of_frame (n := 0) f0 (by simp)).trans (c0.liveStrike_tells k level)
    have hj1 : c1.recorder.job = some j := by rw [fs.recorder (by simp), hj]
    have take1 : c1.take = s.ctl.take := Controller.take_congr (fs.takes (by simp))
    have records1 : c1.records = s.ctl.records := Controller.records_congr (fs.takes (by simp))
    have now1 : c1.now = s.ctl.now := congrArg StageClock.time (fs.clock (by simp))
    obtain ⟨c, hc⟩ : ∃ c, c = ((c1.recStrike k level).reportAt time
      (c0.strikeReport k level flight r.sounded)).followed k raw := ⟨_, rfl⟩
    have rule : Leaves (.keySample k raw) s c := by
      rw [hc, hc1, ← touch, ← Controller.handStrike_of_still c0 still, hc0, htime]
      exact leaves
    have fin : Controller.Frame [.keys, .trim, .rail, .link] (c1.recStrike k level) c := by
      rw [hc]
      exact ((Controller.reportAt_frame _ _ _).widen (by simp)).trans (Controller.followed_frame _ k raw)
    refine ⟨c, rule, ?other, ?running, ?waiting⟩
    case other =>
      intro other ne
      rw [Controller.take_congr (fin.takes (by simp)), c1.recStrike_other k level hj1 ne, take1]
    case running =>
      intro run hr
      rw [Controller.records_congr (fin.takes (by simp)), fin.recorder (by simp), c1.recStrike_running k level hj1 hr,
        Controller.recAppend_records, records1, Controller.recTime_congr (fs.clock (by simp)) (fs.player (by simp))]
      have count : c1.count j.target = old.length := by rw [Controller.count, records1]
      refine ⟨rfl, fun room => ?_, fun full => ?_⟩
      · rw [c1.recAppend_room j _ (by rw [count]; exact room), Controller.withRecord, Controller.setTake_recorder,
          fs.recorder (by simp)]
      · rw [c1.recAppend_fills j _ (by rw [count]; exact full), Controller.recStop_job]
    case waiting =>
      intro hr free empty
      have empty : s.ctl.records j.target = [] := empty
      have opens := c1.recStrike_opens k level hj1 hr free
      have pedals : c1.pedal = s.ctl.pedal := funext fun q => by simp only [Controller.pedal, fs.pedals (by simp)]
      have length := c1.upKeys_length
      refine ⟨c1.upKeys, c1.openingRun (some c1.now) 0, fun q => ?_, c1.upKeys_sorted, ?_, ?_, congrArg some now1, rfl,
        congrArg (fun t => some (after t 4200000000)) now1, ?_, fun on room => ?_⟩
      · rw [c1.mem_upKeys]
        refine and_congr_right fun first => and_congr_right fun _ => ?_
        have keys : c1.key q = c0.key q := by rw [Controller.key, live.keys (by simp)]; rfl
        rw [keys, hc0]
        by_cases e : q = k
        · subst e
          have struck : ((s.ctl.struckKey q raw).key q).state = .struck := by rw [Controller.struckKey, s.ctl.setKey_key hk]; rfl
          rw [struck, armed]
          decide
        · rw [Controller.struckKey, s.ctl.setKey_key_other first low e]
      · rw [Controller.records_congr (fin.takes (by simp)), opens]
        refine (Controller.recAppend_records _ _ _).trans ?_
        rw [Controller.recStart_free_records, records1, empty, List.nil_append, Controller.openingAt, pedals]
      · have count : (c1.recStart j (some c1.now)).count j.target + 1 < 16384 := by
          rw [Controller.count, Controller.recStart_free_records, records1, empty, List.nil_append,
            Controller.openingAt_length]
          omega
        rw [fin.recorder (by simp), opens, Controller.recAppend_room _ _ _ (by exact count), Controller.withRecord,
          Controller.setTake_recorder, Controller.recStart_free_job]
      · rw [Controller.openingRun, pedals]
      · have grows := tells.grows
        have said := c1.recStart_free_queued (j := j) c1.now (by rw [tells.mask]; exact on) (by omega)
        rw [free, now1, Controller.openingAt_length] at said
        rw [hc]
        refine Controller.mem_followed ?_ k raw
        have kept : { time := s.ctl.now, report := .recStarted j.target .free 0 (3 + c1.upKeys.length) } ∈
            (c1.recStrike k level).link.queue := by
          rw [opens]
          exact (Controller.recAppend_keeps (skip := []) _ _ _).queued said (by simp)
        exact ((c1.recStrike k level).reportAt_keeps (skip := []) _ _).queued kept (by simp)

end Sys2Proof.Machine
end

section
/-! The Trim Engine: the choice of a unit (R45, R46), the grant of the reference (R52, R53), and the rounds (R43, R44). -/

namespace Sys2Proof.Machine

namespace Controller

variable (c : Controller)

/-! ### The grant and the FIFO (R52, R53) -/

/-- The controller in which the head group is granted the reference, not yet reported. -/
def granted (g : Nat) (rest : List Nat) : Controller :=
  { c with trim :=
    { c.trim with fifo := rest, cal := some { group := g, start := c.now, exams := c.examsOf g, rejoin := false } } }

/-- R53: a try of the grant does nothing, or grants the reference to the head group. -/
theorem tryGrant_cases : c.tryGrant = c ∨ ∃ g rest, c.trim.fifo = g :: rest ∧ c.grantOpen = true ∧
    c.tryGrant = (c.granted g rest).report (.calStart g (c.examsOf g).length rest.length) := by
  cases h : c.trim.fifo with
  | nil => exact .inl (by rw [tryGrant, h])
  | cons g rest =>
    by_cases isOpen : c.grantOpen = true
    · refine .inr ⟨g, rest, rfl, isOpen, ?_⟩
      rw [tryGrant, h]
      exact if_pos isOpen
    · refine .inl ?_
      rw [tryGrant, h]
      exact if_neg isOpen

theorem tryGrant_tells : Tells 1 c c.tryGrant := by
  obtain e | ⟨g, rest, -, -, e⟩ := c.tryGrant_cases
  · rw [e]
    exact .refl _ _
  · rw [e]
    exact (Tells.of_link (n := 0) (a := c) (b := c.granted g rest) rfl).trans (report_tells _ _)

/-- The grant touches the FIFO and the calibration alone of the Trim Engine. -/
theorem tryGrant_trim : ∃ fifo cal, c.tryGrant.trim = { c.trim with fifo := fifo, cal := cal } := by
  obtain e | ⟨g, rest, -, -, e⟩ := c.tryGrant_cases
  · exact ⟨_, _, by rw [e]⟩
  · exact ⟨rest, _, by rw [e, (report_frame _ _).trim (by simp)]; rfl⟩

/-- R57: a group is served while it waits or its calibration is in progress. -/
theorem served_iff (g : Nat) : c.served g = true ↔ g ∈ c.trim.fifo ∨ c.calibrating g = true := by
  simp [served]

/-- A group that is served stays so at the grant. -/
theorem tryGrant_served {g : Nat} (h : c.served g = true) : c.tryGrant.served g = true := by
  obtain e | ⟨head, rest, fifo, isOpen, e⟩ := c.tryGrant_cases
  · rw [e]
    exact h
  · have free : c.calibrating g = false := by
      rw [grantOpen, Bool.and_eq_true, Bool.and_eq_true, Option.isNone_iff_eq_none] at isOpen
      rw [calibrating, isOpen.1.1]
    rw [served_iff, free, fifo] at h
    rw [e, served_iff, calibrating, (report_frame _ _).trim (by simp)]
    rcases List.mem_cons.1 (h.resolve_right Bool.false_ne_true) with rfl | waits
    · exact .inr (beq_self_eq_true _)
    · exact .inl waits

/-- The controller in which a group has joined the FIFO at its tail. -/
def joined (g : Nat) : Controller := { c with trim := { c.trim with fifo := c.trim.fifo ++ [g] } }

theorem joinFifo_cases (g : Nat) : (g ∈ c.trim.fifo ∧ c.joinFifo g = c) ∨ c.joinFifo g = (c.joined g).tryGrant := by
  by_cases waits : g ∈ c.trim.fifo
  · exact .inl ⟨waits, if_pos (List.contains_iff_mem.2 waits)⟩
  · exact .inr (if_neg (mt List.contains_iff_mem.1 waits))

theorem joinFifo_served (g : Nat) : (c.joinFifo g).served g = true := by
  obtain ⟨waits, e⟩ | e := c.joinFifo_cases g
  · rw [e]
    exact (c.served_iff g).2 (.inl waits)
  · rw [e]
    exact tryGrant_served _ ((served_iff _ g).2 (.inl (List.mem_append_right _ (List.mem_singleton_self g))))

theorem joinFifo_tells (g : Nat) : Tells 1 c (c.joinFifo g) := by
  obtain ⟨-, e⟩ | e := c.joinFifo_cases g
  · rw [e]
    exact .refl _ _
  · rw [e]
    exact (Tells.of_link (n := 0) (a := c) (b := c.joined g) rfl).trans (tryGrant_tells _)

theorem joinFifo_trim (g : Nat) : ∃ fifo cal, (c.joinFifo g).trim = { c.trim with fifo := fifo, cal := cal } := by
  obtain ⟨-, e⟩ | e := c.joinFifo_cases g
  · exact ⟨_, _, by rw [e]⟩
  · obtain ⟨fifo, cal, h⟩ := (c.joined g).tryGrant_trim
    exact ⟨fifo, cal, by rw [e, h]; rfl⟩

/-! ### The units (R45, R46) -/

theorem trimSync_unit {g : Nat} (hg : g < 11) : c.trimSync.trimUnit g = { c.trimUnit g with phase := c.unitPhase g } := by
  simp [trimUnit, trimSync, hg]

theorem setUnit_unit {g : Nat} (hg : g < c.trim.units.length) (u : TrimUnit) : (c.setUnit g u).trimUnit g = u := by
  simp [trimUnit, setUnit, hg]

theorem setUnit_other {g h : Nat} (ne : h ≠ g) (u : TrimUnit) : (c.setUnit g u).trimUnit h = c.trimUnit h := by
  simp [trimUnit, setUnit, List.getElem?_set_ne ne.symm]

/-- R45: a unit that no condition suspends. -/
theorem unitSuspended_eq_false (g : Nat) : c.unitSuspended g = false ↔
    c.rail.motor = .off ∧ c.calibrating g = false ∧ c.link.state = .active := by
  simp [unitSuspended, motorRunning, and_assoc]

end Controller

/-- The first of an ascending list that passes a test is the least that passes it. -/
theorem find?_least {l : List Nat} (sorted : l.Pairwise (· < ·)) {p : Nat → Bool} {k : Nat} (mem : k ∈ l) (passes : p k = true)
    (least : ∀ j ∈ l, p j = true → k ≤ j) : l.find? p = some k := by
  induction l with
  | nil => cases mem
  | cons x l ih =>
    obtain ⟨below, sorted⟩ := List.pairwise_cons.1 sorted
    by_cases hx : p x = true
    · rw [List.find?_cons_of_pos hx]
      rcases List.mem_cons.1 mem with rfl | later
      · rfl
      · exact absurd (below k later) (Nat.not_lt.2 (least x (List.mem_cons_self ..) hx))
    · rw [List.find?_cons_of_neg hx]
      refine ih sorted ((List.mem_cons.1 mem).resolve_left ?_) fun j hj => least j (List.mem_cons_of_mem _ hj)
      rintro rfl
      exact hx passes

theorem groupKeys_sorted (g : Nat) : (groupKeys g).Pairwise (· < ·) := by
  rw [groupKeys, List.pairwise_map]
  exact List.pairwise_lt_range.imp fun h => by omega

theorem mem_groupKeys {g k : Nat} : k ∈ groupKeys g ↔ 1 ≤ k ∧ (k - 1) / 8 = g := by
  simp only [groupKeys, List.mem_map, List.mem_range]
  refine ⟨?_, fun ⟨h, e⟩ => ⟨(k - 1) % 8, by omega, by omega⟩⟩
  rintro ⟨i, hi, rfl⟩
  omega

namespace Controller

variable (c : Controller)

theorem lowestDebt_cons (k : Nat) (ks : List Nat) : c.lowestDebt (k :: ks) = match c.lowestDebt ks with
    | none => some k
    | some j => if (c.key j).debt < (c.key k).debt then some j else some k := rfl

theorem lowestDebt_mem {l : List Nat} {k : Nat} (h : c.lowestDebt l = some k) : k ∈ l := by
  induction l generalizing k with
  | nil => cases h
  | cons x l ih =>
    rw [lowestDebt_cons] at h
    cases rest : c.lowestDebt l with
    | none =>
      rw [rest] at h
      exact Option.some.inj h ▸ List.mem_cons_self ..
    | some j =>
      rw [rest] at h
      dsimp only at h
      split at h
      · exact List.mem_cons_of_mem _ (ih (rest.trans h))
      · exact Option.some.inj h ▸ List.mem_cons_self ..

/-- R46: the key of the lowest debt, the earliest of equals. -/
theorem lowestDebt_eq {l : List Nat} (sorted : l.Pairwise (· < ·)) {k : Nat} (mem : k ∈ l)
    (lowest : ∀ j ∈ l, (c.key k).debt < (c.key j).debt ∨ ((c.key k).debt = (c.key j).debt ∧ k ≤ j)) :
    c.lowestDebt l = some k := by
  induction l with
  | nil => cases mem
  | cons x l ih =>
    obtain ⟨below, sorted⟩ := List.pairwise_cons.1 sorted
    rw [lowestDebt_cons]
    rcases List.mem_cons.1 mem with rfl | later
    · cases rest : c.lowestDebt l with
      | none => rfl
      | some j =>
        have := lowest j (List.mem_cons_of_mem _ (c.lowestDebt_mem rest))
        exact if_neg (by omega)
    · have := lowest x (List.mem_cons_self ..)
      have := below k later
      rw [ih sorted later fun j hj => lowest j (List.mem_cons_of_mem _ hj)]
      exact if_pos (by omega)

/-- R46: the choice of a unit whose passed-over set is empty. -/
theorem chosenPhase_due {g k : Nat} (fresh : (c.trimUnit g).passedOver = []) (mem : k ∈ groupKeys g)
    (rest : (c.key k).state = .rest) (due : 0 < (c.key k).debt)
    (least : ∀ j ∈ groupKeys g, (c.key j).state = .rest → 0 < (c.key j).debt → k ≤ j) :
    c.chosenPhase g = .trimming k Readings.none 0 := by
  have found : c.dueKey g = some k := find?_least (groupKeys_sorted g) mem (by simp [choosable, fresh, rest, due])
    fun j hj passes => by
      simp only [choosable, fresh, Bool.and_eq_true, beq_iff_eq, decide_eq_true_eq] at passes
      exact least j hj passes.1.1 passes.2
  rw [chosenPhase, found]

theorem dueKey_eq_none {g : Nat} (none : ∀ j ∈ groupKeys g, (c.key j).state = .rest → ¬ 0 < (c.key j).debt) :
    c.dueKey g = .none := by
  refine List.find?_eq_none.2 fun j hj passes => ?_
  simp only [choosable, Bool.and_eq_true, beq_iff_eq, decide_eq_true_eq] at passes
  exact none j hj passes.1.1 passes.2

theorem groupQuiet_iff (g : Nat) : c.groupQuiet g = true ↔
    ∀ k ∈ groupKeys g, (c.key k).state ∈ [KeyState.rest, .uncal, .fault, .muted] := by
  have quiet (x : KeyState) : (!x.disturbs) = true ↔ x ∈ [KeyState.rest, .uncal, .fault, .muted] := by
    cases x <;> decide
  simp only [groupQuiet, List.all_eq_true, quiet]

/-- The keys that a pull-in may choose (R46). -/
theorem mem_early {g k : Nat} (fresh : (c.trimUnit g).passedOver = []) :
    k ∈ (groupKeys g).filter (fun k => c.choosable g k && decide (-8 < (c.key k).debt)) ↔
      k ∈ groupKeys g ∧ (c.key k).state = .rest ∧ -8 < (c.key k).debt := by
  simp [choosable, fresh]

theorem chosenPhase_early {g k : Nat} (fresh : (c.trimUnit g).passedOver = [])
    (none : ∀ j ∈ groupKeys g, (c.key j).state = .rest → ¬ 0 < (c.key j).debt) (pull : c.trim.pullIn = true)
    (quiet : c.groupQuiet g = true) (mem : k ∈ groupKeys g) (rest : (c.key k).state = .rest) (early : -8 < (c.key k).debt)
    (lowest : ∀ j ∈ groupKeys g, (c.key j).state = .rest → -8 < (c.key j).debt →
      (c.key k).debt < (c.key j).debt ∨ ((c.key k).debt = (c.key j).debt ∧ k ≤ j)) :
    c.chosenPhase g = .trimming k Readings.none 0 := by
  have found : c.pullInKey g = some k := by
    rw [pullInKey, pull, quiet]
    refine lowestDebt_eq c ((groupKeys_sorted g).filter _) ((c.mem_early fresh).2 ⟨mem, rest, early⟩) fun j hj => ?_
    obtain ⟨hj, restj, earlyj⟩ := (c.mem_early fresh).1 hj
    exact lowest j hj restj earlyj
  rw [chosenPhase, c.dueKey_eq_none none, found]

theorem chosenPhase_idle {g : Nat} (fresh : (c.trimUnit g).passedOver = [])
    (none : ∀ j ∈ groupKeys g, (c.key j).state = .rest → ¬ 0 < (c.key j).debt)
    (shut : ¬ (c.trim.pullIn = true ∧ c.groupQuiet g = true ∧
      ∃ k ∈ groupKeys g, (c.key k).state = .rest ∧ -8 < (c.key k).debt)) : c.chosenPhase g = .idle := by
  have found : c.pullInKey g = .none := by
    unfold pullInKey
    split
    · next isOpen =>
      obtain ⟨pull, quiet⟩ := Bool.and_eq_true_iff.1 isOpen
      cases found : c.lowestDebt ((groupKeys g).filter fun k => c.choosable g k && decide (-8 < (c.key k).debt)) with
      | none => rfl
      | some k =>
        obtain ⟨mem, rest, early⟩ := (c.mem_early fresh).1 (c.lowestDebt_mem found)
        exact absurd ⟨pull, quiet, k, mem, rest, early⟩ shut
    · rfl
  rw [chosenPhase, c.dueKey_eq_none none, found]

end Controller
end Sys2Proof.Machine
end

section
/-! The rounds (R43, R44). -/

namespace Sys2Proof.Machine

/-- R44: the record of a key that a round has counted. -/
def KeyRec.counted (r : KeyRec) : KeyRec :=
  if r.state.positional then (if r.debt < 8 then { r with debt := r.debt + 1 } else { r with stale := true }) else r

theorem KeyRec.counted_eq (r : KeyRec) : r.counted =
    if r.state ∈ [KeyState.uncal, .fault, .muted] then r
    else if r.debt < 8 then { r with debt := r.debt + 1 } else { r with stale := true } := by
  unfold KeyRec.counted
  cases h : r.state <;> simp [KeyState.positional]

theorem KeyRec.counted_state (r : KeyRec) : r.counted.state = r.state := by
  unfold KeyRec.counted
  split_ifs <;> rfl

namespace Controller

variable {c : Controller}

theorem countKey_keys {k : Nat} (hk : 1 ≤ k ∧ k ≤ c.keys.length) :
    (c.countKey k).keys = (c.setKey k (c.key k).counted).keys := by
  have same {r : KeyRec} (h : r = c.key k) : c.keys = (c.setKey k r).keys := by rw [h, setKey_self hk]
  unfold countKey KeyRec.counted
  extract_lets r
  split_ifs with positional low stale
  · rfl
  · refine same ?_
    rw [← stale]
  · exact (report_frame _ _).keys (by simp)
  · exact same rfl

theorem countKey_frame (k : Nat) : Frame [.keys, .link] c (c.countKey k) := by
  unfold countKey
  extract_lets r
  split_ifs
  · exact (c.setKey_frame _ _).widen (by simp)
  · exact .refl _ _
  · exact ((c.setKey_frame _ _).widen (by simp)).trans ((report_frame _ _).widen (by simp))
  · exact .refl _ _

theorem countKey_tells (k : Nat) : Tells 1 c (c.countKey k) := by
  unfold countKey
  extract_lets r
  split_ifs
  · exact .of_frame (c.setKey_frame _ _) (by simp)
  · exact .refl _ _
  · exact (Tells.of_frame (n := 0) (c.setKey_frame _ _) (by simp)).trans (report_tells _ _)
  · exact .refl _ _

theorem countKey_length {k : Nat} (hk : 1 ≤ k ∧ k ≤ c.keys.length) : (c.countKey k).keys.length = c.keys.length := by
  rw [countKey_keys hk, setKey_length]

theorem countKey_key {j k : Nat} (hj : 1 ≤ j) (hk : 1 ≤ k ∧ k ≤ c.keys.length) :
    (c.countKey k).key j = if j = k then (c.key j).counted else c.key j := by
  have written : (c.countKey k).key j = (c.setKey k (c.key k).counted).key j := by rw [key, countKey_keys hk]; rfl
  rw [written]
  split
  · next e => rw [e, c.setKey_key hk]
  · next e => exact c.setKey_key_other hj hk.1 e _

theorem countKeys_frame (ks : List Nat) : Frame [.keys, .link] c (ks.foldl countKey c) := by
  induction ks generalizing c with
  | nil => exact .refl _ _
  | cons k ks ih => exact (c.countKey_frame k).trans ih

theorem countKeys_tells (ks : List Nat) : Tells ks.length c (ks.foldl countKey c) := by
  induction ks generalizing c with
  | nil => exact .refl _ _
  | cons k ks ih => exact ((c.countKey_tells k).trans ih).weaken (by rw [List.length_cons]; omega)

theorem countKeys_key {ks : List Nat} (once : ks.Nodup) (within : ∀ k ∈ ks, 1 ≤ k ∧ k ≤ c.keys.length) {j : Nat}
    (hj : 1 ≤ j) : (ks.foldl countKey c).key j = if j ∈ ks then (c.key j).counted else c.key j := by
  induction ks generalizing c with
  | nil => simp
  | cons k ks ih =>
    obtain ⟨fresh, once⟩ := List.nodup_cons.1 once
    have hk := within k (List.mem_cons_self ..)
    rw [List.foldl_cons, ih once fun i hi => by
      rw [countKey_length hk]
      exact within i (List.mem_cons_of_mem _ hi), countKey_key hj hk]
    by_cases e : j = k
    · subst e
      simp [fresh]
    · simp [e]

/-- R44: a key found with the debt +8 is marked stale with a report. -/
theorem countKeys_queued {ks : List Nat} (once : ks.Nodup) (within : ∀ k ∈ ks, 1 ≤ k ∧ k ≤ c.keys.length) {k : Nat}
    (mem : k ∈ ks) (positional : (c.key k).state.positional = true) (due : 8 ≤ (c.key k).debt)
    (fresh : (c.key k).stale = false) (on : c.link.mask.getLsbD 2 = true) (room : c.link.queue.length + ks.length ≤ 64) :
    { time := c.now, report := .stale k } ∈ (ks.foldl countKey c).link.queue := by
  obtain ⟨pre, post, rfl⟩ := List.append_of_mem mem
  obtain ⟨oncePre, -, apart⟩ := List.nodup_append.1 once
  have absent : k ∉ pre := fun h => apart k h k (List.mem_cons_self ..) rfl
  obtain ⟨c1, hc1⟩ : ∃ c1, c1 = pre.foldl countKey c := ⟨_, rfl⟩
  have record : c1.key k = c.key k := by
    rw [hc1, countKeys_key oncePre (fun i hi => within i (List.mem_append_left _ hi)) (within k mem).1, if_neg absent]
  have tells : Tells pre.length c (c1.setKey k { c1.key k with stale := true }) :=
    (hc1 ▸ countKeys_tells pre).trans (m := 0) (.of_frame (c1.setKey_frame _ _) (by simp))
  have now : (c1.setKey k { c1.key k with stale := true }).now = c.now :=
    hc1 ▸ congrArg StageClock.time ((countKeys_frame pre).clock (by simp))
  have counted : c1.countKey k = (c1.setKey k { c1.key k with stale := true }).report (.stale k) := by
    rw [countKey, record]
    dsimp only
    rw [if_pos positional, if_neg (by omega), if_neg (by simp [fresh])]
  have said : { time := c.now, report := .stale k } ∈ (c1.countKey k).link.queue := by
    rw [counted]
    rw [List.length_append, List.length_cons] at room
    exact tells.queuedNow now on (by omega)
  rw [List.foldl_append, ← hc1, List.foldl_cons]
  exact (foldl_keeps (skip := []) (c := c1.countKey k) (fun c k => c.countKey_keeps k) post).queued said (by simp)

theorem groupKeys_range (sized : c.keys.length = 88) {g : Nat} (hg : g < 11) :
    ∀ k ∈ groupKeys g, 1 ≤ k ∧ k ≤ c.keys.length := fun k h => by
  obtain ⟨first, group⟩ := mem_groupKeys.1 h
  omega

end Controller

theorem groupKeys_once (g : Nat) : (groupKeys g).Nodup := (groupKeys_sorted g).imp Nat.ne_of_lt

namespace Controller

/-- The round's timer set on, its keys counted, and its passed-over set cleared. -/
def timed (c : Controller) (g : Nat) (d : Time) : Controller :=
  { c with trim := { c.trim with rounds := c.trim.rounds.set g (some (after d (c.trim.interval * 1000000))) } }

def countedGroup (c : Controller) (g : Nat) (d : Time) : Controller := (groupKeys g).foldl countKey (c.timed g d)

def rounded (c : Controller) (g : Nat) (d : Time) : Controller :=
  (c.countedGroup g d).setUnit g { (c.countedGroup g d).trimUnit g with passedOver := [] }

/-- R44: a group with a key in UNCAL and no calibration joins the FIFO. -/
def joinUncal (c : Controller) (g : Nat) : Controller :=
  if ((groupKeys g).any fun k => (c.key k).state == .uncal) && !c.calibrating g then c.joinFifo g else c

theorem roundExpiry_eq {c : Controller} {g : Nat} {d : Time} (awake : c.clock.suspended = false) (timer : c.roundTimer g = some d)
    (due : (c.now - d).toNat < 2147483648) : c.roundExpiry g = ((c.rounded g d).joinUncal g).trimSync := by
  rw [roundExpiry, timer]
  exact if_pos (expired_of_due awake rfl due)


variable (c : Controller) {g : Nat} (d : Time)

theorem countedGroup_frame : Frame [.keys, .link] (c.timed g d) (c.countedGroup g d) := countKeys_frame _

theorem countedGroup_tells : Tells 8 (c.timed g d) (c.countedGroup g d) := countKeys_tells (groupKeys g)

theorem timed_frame : Frame [.trim] c (c.timed g d) := c.trim_frame _

theorem rounded_frame : Frame [.keys, .trim, .link] c (c.rounded g d) :=
  ((c.timed_frame d).widen (by simp)).trans (((c.countedGroup_frame d).widen (by simp)).trans
    ((setUnit_frame _ _ _).widen (by simp)))

theorem joinUncal_frame : Frame [.trim, .link] c (c.joinUncal g) := by
  unfold joinUncal
  split
  · exact c.joinFifo_frame g
  · exact .refl _ _

theorem joinUncal_trim : ∃ fifo cal, (c.joinUncal g).trim = { c.trim with fifo := fifo, cal := cal } := by
  unfold joinUncal
  split
  · exact c.joinFifo_trim g
  · exact ⟨_, _, rfl⟩

theorem joinUncal_served {k : Nat} (mem : k ∈ groupKeys g) (uncal : (c.key k).state = .uncal) :
    (c.joinUncal g).served g = true := by
  unfold joinUncal
  split
  · exact c.joinFifo_served g
  · next shut =>
    refine (c.served_iff g).2 (.inr ?_)
    by_contra free
    exact shut (Bool.and_eq_true_iff.2 ⟨List.any_eq_true.2 ⟨k, mem, by simp [uncal]⟩, by simp [free]⟩)

theorem joinUncal_of_none (none : ∀ k ∈ groupKeys g, (c.key k).state ≠ .uncal) : c.joinUncal g = c := by
  refine if_neg fun h => ?_
  obtain ⟨k, mem, uncal⟩ := List.any_eq_true.1 (Bool.and_eq_true_iff.1 h).1
  exact none k mem (beq_iff_eq.1 uncal)

theorem rounded_marks {k : Nat} (hg : g < 11) (sized : c.keys.length = 88) (mem : k ∈ groupKeys g)
    (positional : (c.key k).state.positional = true) (due : 8 ≤ (c.key k).debt) (fresh : (c.key k).stale = false)
    (on : c.link.mask.getLsbD 2 = true) (room : c.link.queue.length + 8 < 64) :
    { time := c.now, report := .stale k } ∈ (c.rounded g d).link.queue := by
  have eight : (groupKeys g).length = 8 := by rw [groupKeys, List.length_map, List.length_range]
  rw [rounded, (setUnit_frame _ _ _).link (by simp), countedGroup]
  exact countKeys_queued (c := c.timed g d) (groupKeys_once g) (groupKeys_range (c := c.timed g d) sized hg) mem positional due
    fresh on (eight ▸ Nat.le_of_lt room)

theorem joinUncal_kept {q : QueuedReport} (hg : g < 11) (h : q ∈ c.link.queue) : q ∈ (c.joinUncal g).link.queue := by
  unfold joinUncal
  split
  · exact (c.joinFifo_keeps (skip := []) hg).queued h (by simp)
  · exact h

theorem joinUncal_tells : Tells 1 c (c.joinUncal g) := .ite (c.joinFifo_tells g) (.refl _ _)

theorem rounded_key (k : Nat) : (c.rounded g d).key k = (c.countedGroup g d).key k := by
  rw [key, rounded, setUnit_keys, key]

theorem rounded_tells : Tells 8 c (c.rounded g d) := by
  have timed : Tells 0 c (c.timed g d) := .of_frame (c.timed_frame d) (by simp)
  have unit : Tells 0 (c.countedGroup g d) (c.rounded g d) := .of_frame (setUnit_frame _ _ _) (by simp)
  exact (timed.trans (c.countedGroup_tells d)).trans unit

theorem rounded_trim : (c.rounded g d).trim =
    { c.trim with
      rounds := c.trim.rounds.set g (some (after d (c.trim.interval * 1000000)))
      units := c.trim.units.set g { c.trimUnit g with passedOver := [] } } := by
  have same : (c.countedGroup g d).trim = (c.timed g d).trim := (c.countedGroup_frame d).trim (by simp)
  rw [rounded, setUnit, trimUnit, same]
  rfl

end Controller

/-- Settles O32: the keys counted, the group served, and the choice of its unit, in the order of R44. -/
theorem roundExpiryCountsItsGroup : Obligations.RoundExpiryCountsItsGroup := by
  intro g d s run sized hg awake timer due
  obtain ⟨c2, hc2⟩ : ∃ c2, c2 = s.ctl.rounded g d := ⟨_, rfl⟩
  obtain ⟨c4, hc4⟩ : ∃ c4, c4 = c2.joinUncal g := ⟨_, rfl⟩
  have leaves : Leaves (.roundExpiry g) s c4.trimSync := by
    refine .of_run (by rw [exec, execRoundExpiry, if_pos hg]) run ?_
    rw [hc4, hc2, Controller.roundExpiry_eq awake timer due]
  have f2 : Controller.Frame [.keys, .trim, .link] s.ctl c2 := hc2 ▸ s.ctl.rounded_frame d
  have f4 : Controller.Frame [.trim, .link] c2 c4 := hc4 ▸ c2.joinUncal_frame
  have trim2 := hc2 ▸ s.ctl.rounded_trim (g := g) d
  obtain ⟨fifo, cal, trim4⟩ := c2.joinUncal_trim (g := g)
  rw [← hc4] at trim4
  have units4 : c4.trim.units = s.ctl.trim.units.set g { s.ctl.trimUnit g with passedOver := [] } := by rw [trim4, trim2]
  have unit4 : c4.trimUnit g = { s.ctl.trimUnit g with passedOver := [] } := by
    simp [Controller.trimUnit, units4, sized.units, hg]
  have other4 (h : Nat) (ne : h ≠ g) : c4.trimUnit h = s.ctl.trimUnit h := by
    simp [Controller.trimUnit, units4, List.getElem?_set_ne ne.symm]
  have rounds4 : c4.trim.rounds = s.ctl.trim.rounds.set g (some (after d (s.ctl.trim.interval * 1000000))) := by
    rw [trim4, trim2]
  have range : ∀ k ∈ groupKeys g, 1 ≤ k ∧ k ≤ (s.ctl.timed g d).keys.length :=
    Controller.groupKeys_range (c := s.ctl.timed g d) sized.keys hg
  have key4 (k : Nat) (hk : 1 ≤ k) :
      c4.trimSync.key k = if k ∈ groupKeys g then (s.ctl.key k).counted else s.ctl.key k := by
    have same : c4.trimSync.key k = c2.key k := by
      rw [Controller.key, Controller.trimSync_keys, f4.keys (by simp), Controller.key]
    rw [same, hc2, s.ctl.rounded_key d, Controller.countedGroup, Controller.countKeys_key (groupKeys_once g) range hk]
    rfl
  have state4 (k : Nat) (hk : 1 ≤ k) : (c4.trimSync.key k).state = (s.ctl.key k).state := by
    rw [key4 k hk]
    split
    · exact KeyRec.counted_state _
    · rfl
  have tells2 : Controller.Tells 8 s.ctl c2 := hc2 ▸ s.ctl.rounded_tells d
  have tells4 : Controller.Tells 1 c2 c4 := hc4 ▸ c2.joinUncal_tells
  have state2 (k : Nat) (hk : 1 ≤ k) : (c2.key k).state = (s.ctl.key k).state := by
    have same : c4.trimSync.key k = c2.key k := by
      rw [Controller.key, Controller.trimSync_keys, f4.keys (by simp), Controller.key]
    rw [← same, state4 k hk]
  refine ⟨_, leaves, (f2.trans (f4.widen (by simp))).trans ((Controller.trimSync_frame _).widen (by simp)), ?timer, ?others,
    ?fresh, ?interval, ?pullIn, ?keys, ?marks, ?unserved, ?choice⟩
  case timer =>
    show (c4.trim.rounds[g]?).join = _
    rw [rounds4, List.getElem?_set_self (by rw [sized.rounds]; exact hg)]
    rfl
  case others =>
    intro h hh ne
    refine ⟨?_, ?_⟩
    · show (c4.trim.rounds[h]?).join = _
      rw [rounds4, List.getElem?_set_ne ne.symm]
      rfl
    · rw [c4.trimSync_unit hh, other4 h ne]
  case fresh => rw [c4.trimSync_unit hg, unit4]
  case interval =>
    show c4.trim.interval = _
    rw [trim4, trim2]
  case pullIn =>
    show c4.trim.pullIn = _
    rw [trim4, trim2]
  case keys =>
    intro k first last r
    rw [key4 k first, KeyRec.counted_eq]
    by_cases group : (k - 1) / 8 = g
    · rw [if_pos (mem_groupKeys.2 ⟨first, group⟩)]
      simp [group, r]
    · rw [if_neg fun mem => group (mem_groupKeys.1 mem).2, if_pos (.inl group)]
  case marks =>
    intro k first last group r
    have mem := mem_groupKeys.2 ⟨first, group⟩
    refine ⟨fun uncal => ?_, fun positional due unmarked on room => ?_⟩
    · show c4.served g = true
      rw [hc4]
      exact c2.joinUncal_served mem ((state2 k first).trans uncal)
    · have positional : (s.ctl.key k).state.positional = true := by
        cases h : (s.ctl.key k).state <;> simp_all [r, KeyState.positional]
      have said : { time := s.ctl.now, report := .stale k } ∈ c2.link.queue :=
        hc2 ▸ s.ctl.rounded_marks d hg sized.keys mem positional due unmarked on
          (Nat.lt_of_lt_of_le (Nat.add_lt_add_right room 8) (by decide))
      show _ ∈ c4.link.queue
      exact hc4 ▸ c2.joinUncal_kept hg said
  case unserved =>
    intro none
    have same : c4 = c2 := by
      rw [hc4, c2.joinUncal_of_none fun k mem => by rw [state2 k (mem_groupKeys.1 mem).1]; exact none k mem]
    rw [same]
    show c2.trim.fifo = _ ∧ c2.trim.cal = _
    rw [trim2]
    exact ⟨rfl, rfl⟩
  case choice =>
    intro idle off active free resting due' isOpen early chosen
    have free4 : c4.unitSuspended g = false := by
      rw [Controller.unitSuspended_eq_false, f4.rail (by simp), f2.rail (by simp), tells4.state, tells2.state]
      exact ⟨off, free, active⟩
    have phase : (c4.trimSync.trimUnit g).phase = c4.chosenPhase g := by
      rw [c4.trimSync_unit hg]
      show c4.unitPhase g = _
      rw [Controller.unitPhase, free4, unit4, idle]
      rfl
    have fresh4 : (c4.trimUnit g).passedOver = [] := by rw [unit4]
    have pull4 : c4.trim.pullIn = s.ctl.trim.pullIn := by rw [trim4, trim2]
    have none4 (none : ∀ k, ¬ due' k) : ∀ j ∈ groupKeys g, (c4.key j).state = .rest → ¬ 0 < (c4.key j).debt :=
      fun j mem rest owed => none j ⟨⟨mem, rest⟩, owed⟩
    refine ⟨fun k owed least => ?_, fun none opened k eligible lowest => ?_, fun none shut => ?_⟩
    · exact phase.trans (c4.chosenPhase_due fresh4 owed.1.1 owed.1.2 owed.2
        fun j mem rest owed => least j ⟨⟨mem, rest⟩, owed⟩)
    · exact phase.trans (c4.chosenPhase_early fresh4 (none4 none) (pull4.trans opened.1) ((c4.groupQuiet_iff g).2 opened.2)
        eligible.1.1 eligible.1.2 eligible.2 fun j mem rest low => lowest j ⟨⟨mem, rest⟩, low⟩)
    · exact phase.trans (c4.chosenPhase_idle fresh4 (none4 none) fun ⟨pull, quiet, k, mem, rest, low⟩ =>
        shut ⟨⟨pull4.symm.trans pull, (c4.groupQuiet_iff g).1 quiet⟩, k, ⟨mem, rest⟩, low⟩)

end Sys2Proof.Machine
end

section
/-! The readings of a short trim and its judgement (R45, R47 to R49). -/

namespace Sys2Proof.Machine

namespace Controller

variable (c : Controller) {k raw : Nat}

/-! ### A sample that leaves its key in REST -/

/-- R9: below T_rest a resting key takes its sample and nothing else. -/
theorem passedKey_resting (rest : (c.key k).state = .rest) (low : (c.key k).depth raw < c.thresholds.rest) :
    c.passedKey k raw = c.sampledKey k raw := by
  have still : ((c.key k).sampled c.thresholds c.now raw).path c.thresholds (c.key k).before ((c.key k).reading c.now raw) 5
      = [] := by
    rw [KeyRec.path_rest _ _ _ (by exact rest)]
    exact if_neg (Nat.not_le.2 low)
  rw [passedKey, still]
  rfl

/-- R9: at T_rest or deeper a resting key leaves REST. -/
theorem passedRec_leaves (rest : (c.key k).state = .rest) (high : c.thresholds.rest ≤ (c.key k).depth raw) :
    (c.passedRec k raw).state ≠ .rest := by
  rw [passedRec, KeyRec.passed_rest _ _ (by exact rest)]
  rw [if_pos (by exact high), KeyRec.roseShallow_state rfl]
  split_ifs <;> simp

theorem passedRec_trim : (c.passedRec k raw).restRaw = (c.key k).restRaw ∧ (c.passedRec k raw).debt = (c.key k).debt ∧
    (c.passedRec k raw).stale = (c.key k).stale := by
  obtain ⟨state, tLift, flight, sounded, liftSpent, holdOff, kept⟩ := KeyRec.crossedAll_kept c.thresholds (c.key k).before
    ((c.key k).reading c.now raw) ((c.key k).sampled c.thresholds c.now raw) _
  rw [passedRec, KeyRec.passed, kept]
  exact ⟨rfl, rfl, rfl⟩

/-! ### What follows a sample in a unit -/

theorem calReading_units (k raw : Nat) : (c.calReading k raw).trim.units = c.trim.units := by
  unfold calReading
  split <;> rfl

theorem calReading_calibrating (k raw g : Nat) : (c.calReading k raw).calibrating g = c.calibrating g := by
  unfold calReading
  split
  · next cal h =>
    rw [calibrating, calibrating, h]
  · rfl

theorem readOut_units (k raw : Nat) : (c.readOut k raw).trim.units = (c.trimReading k raw).trim.units :=
  calReading_units _ k raw

theorem readOut_keys (k raw : Nat) : (c.readOut k raw).keys = (c.trimReading k raw).keys :=
  (calReading_frame _ k raw).keys (by simp)

theorem readOut_calibrating (k raw g : Nat) : (c.readOut k raw).calibrating g = c.calibrating g := by
  rw [readOut, calReading_calibrating, calibrating, trimReading_cal]
  rfl

theorem readOut_unit (k raw g : Nat) : (c.readOut k raw).trimUnit g = (c.trimReading k raw).trimUnit g := by
  rw [trimUnit, readOut_units, trimUnit]

/-- R46: the test of the rail leaves the keys passed over. -/
theorem railTest_passedOver {g : Nat} (hg : g < 11) : (c.railTest.trimUnit g).passedOver = (c.trimUnit g).passedOver := by
  by_cases starts : c.rail.state = .waitQuiet ∧ c.rail.target ≠ none ∧ c.motionOpen = true
  · obtain ⟨waits, target, isOpen⟩ := starts
    obtain ⟨t, target⟩ := Option.ne_none_iff_exists'.1 target
    rw [c.railTest_starts waits target isOpen, trimSync_unit _ hg]
    simp only [trimUnit, (railReport_frame _ _).trim (by simp)]
    rfl
  · rw [c.railTest_stands starts]

theorem followed_eq (k raw : Nat) : c.followed k raw = (c.readOut k raw).railTest.trimSync := rfl

theorem followed_passedOver {g : Nat} (hg : g < 11) :
    ((c.followed k raw).trimUnit g).passedOver = ((c.trimReading k raw).trimUnit g).passedOver := by
  rw [followed_eq, trimSync_unit _ hg, ← readOut_unit]
  exact railTest_passedOver _ hg

theorem followed_phase (settled : c.rail.state ≠ .waitQuiet) {g : Nat} (hg : g < 11) :
    ((c.followed k raw).trimUnit g).phase = (c.readOut k raw).unitPhase g := by
  have stands : (c.readOut k raw).railTest = c.readOut k raw := railTest_stands _ fun h =>
    settled (((c.readOut_frame k raw).rail (by simp)) ▸ h.1)
  rw [followed_eq, stands, trimSync_unit _ hg]

theorem readOut_unsuspended {g : Nat} (h : c.unitSuspended g = false) : (c.readOut k raw).unitSuspended g = false := by
  obtain ⟨off, free, active⟩ := (c.unitSuspended_eq_false g).1 h
  rw [unitSuspended_eq_false, (c.readOut_frame k raw).rail (by simp), (c.readOut_tells k raw).state, readOut_calibrating]
  exact ⟨off, free, active⟩

/-- R45: a unit that trims a resting key goes on. -/
theorem unitPhase_goesOn {g : Nat} (free : c.unitSuspended g = false) {r : Readings} {n : Nat}
    (phase : (c.trimUnit g).phase = .trimming k r n) (rest : (c.key k).state = .rest) :
    c.unitPhase g = .trimming k r n := by
  rw [unitPhase, free, phase]
  exact if_pos rest

/-- R46: a unit chooses a resting key only. -/
theorem chosenPhase_resting {g : Nat} {r : Readings} {n : Nat} (h : c.chosenPhase g = .trimming k r n) :
    (c.key k).state = .rest := by
  have resting {k : Nat} (h : c.choosable g k = true) : (c.key k).state = .rest := by
    simp only [choosable, Bool.and_eq_true, beq_iff_eq] at h
    exact h.1
  unfold chosenPhase at h
  split at h
  · next j due =>
    cases h
    have passes := List.find?_some (p := fun k => c.choosable g k && decide (0 < (c.key k).debt)) due
    exact resting (Bool.and_eq_true_iff.1 passes).1
  · split at h
    · next j pulled =>
      cases h
      unfold pullInKey at pulled
      split at pulled
      · exact resting (Bool.and_eq_true_iff.1 (List.mem_filter.1 (c.lowestDebt_mem pulled)).2).1
      · cases pulled
    · cases h

/-- R49: a trim whose key has left REST is abandoned. -/
theorem unitPhase_abandons {g : Nat} (moved : (c.key k).state ≠ .rest) (r : Readings) (n : Nat) :
    c.unitPhase g ≠ .trimming k r n := by
  intro h
  unfold unitPhase at h
  split_ifs at h
  split at h
  · split_ifs at h with rest
    · cases h
      exact moved rest
    · exact moved (c.chosenPhase_resting h)
  · exact moved (c.chosenPhase_resting h)
  · exact moved (c.chosenPhase_resting h)

/-! ### The readings of a trim (R47) -/

section Readings

variable {x : Readings} {n : Nat} (phase : (c.trimUnit (groupOf k)).phase = .trimming k x n)

include phase

theorem trimReading_moved (moved : (c.key k).state ≠ .rest) : c.trimReading k raw = c := by
  rw [trimReading, phase]
  exact if_neg fun h => moved h.2

theorem trimReading_waits (rest : (c.key k).state = .rest) (more : 0 < n) :
    c.trimReading k raw = c.setUnit (groupOf k) { c.trimUnit (groupOf k) with phase := .trimming k x (n - 1) } := by
  rw [trimReading, phase]
  exact (if_pos ⟨rfl, rest⟩).trans (if_neg (Nat.pos_iff_ne_zero.1 more))

theorem trimReading_reads (rest : (c.key k).state = .rest) (due : n = 0) (early : x.count ≠ 15) :
    c.trimReading k raw = c.setUnit (groupOf k) { c.trimUnit (groupOf k) with phase := .trimming k (x.add raw) 5 } := by
  rw [trimReading, phase]
  exact (if_pos ⟨rfl, rest⟩).trans ((if_pos due).trans (if_neg fun h => early (Nat.succ.inj h)))

theorem trimReading_judges (rest : (c.key k).state = .rest) (due : n = 0) (last : x.count = 15) :
    c.trimReading k raw = c.judgeTrim (groupOf k) k (x.add raw) := by
  rw [trimReading, phase]
  exact (if_pos ⟨rfl, rest⟩).trans ((if_pos due).trans (if_pos (congrArg Nat.succ last)))

end Readings

/-! ### The judgement (R48) -/

/-- The record that an accepted short trim leaves. -/
def trimmedTo (c : Controller) (k : Nat) (r : Readings) : KeyRec :=
  c.retrimmed k (some (steppedRest ((c.key k).restRaw.getD (c.key k).nominal) (r.mean 16)))
    (if (c.key k).debt ≤ -8 then (c.key k).debt else (c.key k).debt - 1) false

variable {g : Nat} {r : Readings}

theorem judgeTrim_rejects (bad : 12 < r.spread ∨ r.outSeen = true) :
    c.judgeTrim g k r = c.setUnit g { phase := .idle, passedOver := joinKey k (c.trimUnit g).passedOver } := if_pos bad

theorem judgeTrim_accepts (good : ¬ (12 < r.spread ∨ r.outSeen = true)) :
    c.judgeTrim g k r =
      if (c.key k).stale then
        ((c.setUnit g { c.trimUnit g with phase := .idle }).setKey k (c.trimmedTo k r)).report (.trimRecovered k false)
      else (c.setUnit g { c.trimUnit g with phase := .idle }).setKey k (c.trimmedTo k r) := if_neg good

theorem judgeTrim_accepted_key (hk : 1 ≤ k ∧ k ≤ c.keys.length) (good : ¬ (12 < r.spread ∨ r.outSeen = true)) :
    (c.judgeTrim g k r).key k = c.trimmedTo k r := by
  rw [judgeTrim_accepts c good]
  split
  · rw [key, (report_frame _ _).keys (by simp)]
    exact setKey_key _ hk _
  · exact setKey_key _ hk _

theorem judgeTrim_accepted_unit (hg : g < c.trim.units.length) (good : ¬ (12 < r.spread ∨ r.outSeen = true)) :
    ((c.judgeTrim g k r).trimUnit g).passedOver = (c.trimUnit g).passedOver := by
  have kept := congrArg TrimUnit.passedOver (c.setUnit_unit hg { c.trimUnit g with phase := .idle })
  rw [judgeTrim_accepts c good]
  split
  · rw [trimUnit, (report_frame _ _).trim (by simp)]
    exact kept
  · exact kept

theorem judgeTrim_recovered (good : ¬ (12 < r.spread ∨ r.outSeen = true)) (stale : (c.key k).stale = true)
    (on : c.link.mask.getLsbD 2 = true) (room : c.link.queue.length < 64) :
    { time := c.now, report := .trimRecovered k false } ∈ (c.judgeTrim g k r).link.queue := by
  rw [judgeTrim_accepts c good, if_pos stale]
  exact report_queued (c := (c.setUnit g { c.trimUnit g with phase := .idle }).setKey k (c.trimmedTo k r))
    (r := .trimRecovered k false) on room

theorem mem_followed_of_reading {c : Controller} {q : QueuedReport} (h : q ∈ (c.trimReading k raw).link.queue) :
    q ∈ (c.followed k raw).link.queue :=
  ((calReading_keeps (skip := []) _ k raw).trans (keysMoved_keeps _)).queued h (by simp)

/-- R45: a unit that a motion, a calibration of its group or standby suspends has no trim. -/
theorem trimSync_suspended (hg : g < 11) (h : c.rail.motor ≠ .off ∨ c.calibrating g = true ∨ c.link.state ≠ .active) :
    c.trimSync.trimUnit g = { phase := .suspended, passedOver := (c.trimUnit g).passedOver } := by
  have suspended : c.unitSuspended g = true := by
    by_contra free
    obtain ⟨off, free, active⟩ := (c.unitSuspended_eq_false g).1 (Bool.eq_false_iff.2 free)
    rcases h with motor | calibrates | asleep
    · exact motor off
    · exact absurd calibrates (ne_true_of_eq_false free)
    · exact asleep active
  rw [trimSync_unit _ hg, unitPhase, suspended]
  rfl

end Controller

/-- R48: the readings that reject a trim, the last one included. -/
theorem Readings.rejects_iff (x : Readings) (raw : Nat) : (12 < (x.add raw).spread ∨ (x.add raw).outSeen = true) ↔
    (12 < max x.greatest raw - min x.least raw ∨ x.outSeen = true ∨ raw < 16 ∨ 4079 < raw) := by
  have outside : (!inRange raw) = true ↔ raw < 16 ∨ 4079 < raw := by
    rw [inRange, Bool.not_eq_true', decide_eq_false_iff_not]
    omega
  simp only [Readings.add, Readings.spread, Bool.or_eq_true, outside]

/-- R47: one more reading, as the manual's sets it out. -/
theorem Readings.add_eq (x : Readings) (raw : Nat) : x.add raw =
    { count := x.count + 1, sum := x.sum + raw, least := min x.least raw, greatest := max x.greatest raw
      outSeen := x.outSeen || decide (raw < 16 ∨ 4079 < raw) } := by
  have outside : (!inRange raw) = decide (raw < 16 ∨ 4079 < raw) := by
    rw [inRange, ← decide_not]
    congr 1
    simp only [eq_iff_iff]
    omega
  rw [Readings.add, outside]

namespace Controller

/-- What a sample below T_rest leaves to the unit of its key. -/
structure TrimRests (c b : Controller) (k : Nat) : Prop where
  trim : b.trim = c.trim
  rail : b.rail = c.rail
  link : b.link = c.link
  now : b.now = c.now
  within : 1 ≤ k ∧ k ≤ b.keys.length
  state : (b.key k).state = .rest
  nominal : (b.key k).nominal = (c.key k).nominal
  record : (b.key k).restRaw = (c.key k).restRaw ∧ (b.key k).debt = (c.key k).debt ∧ (b.key k).stale = (c.key k).stale

theorem passedKey_rests (c : Controller) {k raw : Nat} (hk : 1 ≤ k ∧ k ≤ c.keys.length) (rest : (c.key k).state = .rest)
    (low : (c.key k).depth raw < c.thresholds.rest) : c.TrimRests (c.passedKey k raw) k := by
  have record := sampledKey_key (raw := raw) hk
  rw [passedKey_resting c rest low]
  exact { trim := rfl, rail := rfl, link := rfl, now := rfl, within := sampledKey_length hk, state := by rw [record]; exact rest,
          nominal := by rw [record]; rfl, record := by rw [record]; exact ⟨rfl, rfl, rfl⟩ }

end Controller

/-- Settles O33: a sample that leaves its key in REST is counted, read or judged by the unit; any other ends its trim. -/
theorem sixteenthReadingJudgesTheTrim : Obligations.SixteenthReadingJudgesTheTrim := by
  refine ⟨?cadence, fun c g hg h => c.trimSync_suspended hg h, ?judged⟩
  case cadence =>
    intro k raw n x s sv sized low high hraw phase rest free off settled r u kept
    have hk : 1 ≤ k ∧ k ≤ s.ctl.keys.length := ⟨low, by rw [sized.keys]; exact high⟩
    have hg : (k - 1) / 8 < 11 := by omega
    obtain ⟨c1, hc1⟩ : ∃ c1, c1 = s.ctl.passedKey k raw := ⟨_, rfl⟩
    have leaves : Leaves (.keySample k raw) s (c1.followed k raw) :=
      .of_run (by rw [exec, execKeySample, runReading, if_pos hraw, State.runKey, if_pos ⟨low, high⟩]) sv.1
        (hc1 ▸ Controller.keySample_eq hk sv.2)
    have reads {u' : TrimUnit} {r' : Readings} {n' : Nat} (shallow : r.depth raw < s.ctl.thresholds.rest)
        (e : c1.trimReading k raw = c1.setUnit (groupOf k) { u' with phase := .trimming k r' n' })
        (same : u'.passedOver = u.passedOver) :
        kept (c1.followed k raw) ∧ ((c1.followed k raw).trimUnit ((k - 1) / 8)).phase = .trimming k r' n' := by
      have rests : s.ctl.TrimRests c1 k := hc1 ▸ s.ctl.passedKey_rests hk rest shallow
      have unit : (c1.readOut k raw).trimUnit (groupOf k) = { u' with phase := .trimming k r' n' } := by
        rw [Controller.readOut_unit, e]
        exact c1.setUnit_unit (by rw [rests.trim, sized.units]; exact hg) _
      have key : (c1.followed k raw).key k = c1.key k := by rw [Controller.key, c1.followed_keys, e]; rfl
      have state : ((c1.readOut k raw).key k).state = .rest := by
        rw [Controller.key, c1.readOut_keys, e]
        exact rests.state
      have free1 : c1.unitSuspended (groupOf k) = false := by
        rw [Controller.unitSuspended_eq_false, rests.rail, rests.link, Controller.calibrating, rests.trim]
        exact ⟨off, free, sv.2⟩
      refine ⟨⟨?_, ?_, ?_, ?_⟩, ?_⟩
      · rw [key, rests.record.1]
      · rw [key, rests.record.2.1]
      · rw [key, rests.record.2.2]
      · rw [c1.followed_passedOver hg, e, ← same]
        rw [Controller.readOut_unit, e] at unit
        have kept := congrArg TrimUnit.passedOver unit
        exact kept
      · rw [c1.followed_phase (by rw [rests.rail]; exact settled) hg]
        exact (c1.readOut k raw).unitPhase_goesOn (c1.readOut_unsuspended free1) (congrArg TrimUnit.phase unit) state
    have trim1 : c1.trim = s.ctl.trim := hc1 ▸ (Controller.passedKey_frame (c := s.ctl)).trim (by simp)
    have unit1 : c1.trimUnit (groupOf k) = u := by rw [Controller.trimUnit, trim1]; rfl
    have phase1 : (c1.trimUnit (groupOf k)).phase = .trimming k x n := by rw [unit1]; exact phase
    have resting (shallow : r.depth raw < s.ctl.thresholds.rest) : (c1.key k).state = .rest :=
      (hc1 ▸ s.ctl.passedKey_rests hk rest shallow : s.ctl.TrimRests c1 k).state
    refine ⟨_, leaves, fun shallow more => ?_, fun shallow due early => ?_, fun deep => ?_⟩
    · exact reads shallow (c1.trimReading_waits phase1 (resting shallow) more) (by rw [unit1])
    · rw [← Readings.add_eq]
      exact reads shallow (c1.trimReading_reads phase1 (resting shallow) due early) (by rw [unit1])
    · have key1 : c1.key k = s.ctl.passedRec k raw := by rw [hc1, Controller.passedKey_key hk]
      have moved : (c1.key k).state ≠ .rest := by rw [key1]; exact s.ctl.passedRec_leaves rest deep
      have still := c1.trimReading_moved (raw := raw) phase1 moved
      have key : (c1.followed k raw).key k = s.ctl.passedRec k raw := by
        rw [Controller.key, c1.followed_keys, still, ← key1]
        rfl
      obtain ⟨restRaw, debt, stale⟩ := s.ctl.passedRec_trim (k := k) (raw := raw)
      refine ⟨⟨?_, ?_, ?_, ?_⟩, fun x' n' => ?_⟩
      · rw [key, restRaw]
      · rw [key, debt]
      · rw [key, stale]
      · rw [c1.followed_passedOver hg, still]
        exact congrArg TrimUnit.passedOver unit1
      · have rail1 : c1.rail = s.ctl.rail := hc1 ▸ (Controller.passedKey_frame (c := s.ctl)).rail (by simp)
        rw [c1.followed_phase (by rw [rail1]; exact settled) hg]
        refine (c1.readOut k raw).unitPhase_abandons ?_ x' n'
        rw [Controller.key, c1.readOut_keys, still]
        exact moved
  case judged =>
    intro k raw x s sv sized low high hraw phase last rest shallow r restRaw mean rejected
    have hk : 1 ≤ k ∧ k ≤ s.ctl.keys.length := ⟨low, by rw [sized.keys]; exact high⟩
    have hg : (k - 1) / 8 < 11 := by omega
    obtain ⟨c1, hc1⟩ : ∃ c1, c1 = s.ctl.passedKey k raw := ⟨_, rfl⟩
    have leaves : Leaves (.keySample k raw) s (c1.followed k raw) :=
      .of_run (by rw [exec, execKeySample, runReading, if_pos hraw, State.runKey, if_pos ⟨low, high⟩]) sv.1
        (hc1 ▸ Controller.keySample_eq hk sv.2)
    have rests : s.ctl.TrimRests c1 k := hc1 ▸ s.ctl.passedKey_rests hk rest shallow
    have f1 : Controller.Frame [.keys] s.ctl c1 := by
      rw [hc1, s.ctl.passedKey_resting rest shallow]
      exact s.ctl.setKey_frame _ _
    have unit1 : c1.trimUnit (groupOf k) = s.ctl.trimUnit ((k - 1) / 8) := by rw [Controller.trimUnit, rests.trim]; rfl
    have units1 : groupOf k < c1.trim.units.length := by rw [rests.trim, sized.units]; exact hg
    have judge := c1.trimReading_judges (raw := raw) (unit1 ▸ phase) rests.state rfl last
    have key : (c1.followed k raw).key k = (c1.judgeTrim (groupOf k) k (x.add raw)).key k := by
      rw [Controller.key, c1.followed_keys, judge]
      rfl
    have passed : ((c1.followed k raw).trimUnit ((k - 1) / 8)).passedOver =
        ((c1.judgeTrim (groupOf k) k (x.add raw)).trimUnit (groupOf k)).passedOver := by
      rw [c1.followed_passedOver hg, judge]
      rfl
    obtain ⟨restRaw1, debt1, stale1⟩ := rests.record
    refine ⟨_, leaves, (f1.widen (by simp)).trans (c1.followed_frame k raw), ?state, fun bad => ?_, fun good => ?_⟩
    case state =>
      obtain ⟨_, _, _, h⟩ := c1.followed_key rests.within raw
      rw [h]
      exact rests.state
    · have bad := c1.judgeTrim_rejects (g := groupOf k) (k := k) ((x.rejects_iff raw).2 bad)
      rw [passed, key, bad]
      refine ⟨restRaw1, debt1, stale1, ?_⟩
      rw [c1.setUnit_unit units1, unit1]
    · have good : ¬ (12 < (x.add raw).spread ∨ (x.add raw).outSeen = true) := mt (x.rejects_iff raw).1 good
      rw [passed, key, c1.judgeTrim_accepted_key rests.within good, c1.judgeTrim_accepted_unit units1 good, unit1]
      refine ⟨?_, ?_, rfl, rfl, fun stale on room => ?_⟩
      · rw [Controller.trimmedTo, restRaw1, rests.nominal]
        rfl
      · rw [Controller.trimmedTo, debt1]
        rfl
      · refine Controller.mem_followed_of_reading ?_
        rw [judge, ← rests.now]
        exact c1.judgeTrim_recovered good (stale1.trans stale) (by rw [rests.link]; exact on) (by rw [rests.link]; exact room)

end Sys2Proof.Machine
end

section
/-! The completion of a FULL calibration (R54 to R56): the keys judged, the calibrations taken away, and what follows. -/

namespace Sys2Proof.Machine

namespace KeyRec

/-- R55: the record of an accepted key. -/
def acceptedAt (r : KeyRec) (t : Thresholds) (mean : Nat) : KeyRec :=
  let r' := { r with restRaw := some mean, debt := 0, stale := false }
  if r.state = .uncal then r'.reevaluated t else r'

/-- R16: the record of a key that withdraws from a positional state. -/
def withdrawn (r : KeyRec) (into : KeyState) : KeyRec :=
  { r with state := into, flight := none, tLift := none, sounded := false, liftSpent := false, holdOff := false }

/-- R16: the record of a key that enters a condition state. -/
def entered (r : KeyRec) (into : KeyState) : KeyRec :=
  if r.state.positional then r.withdrawn into else { r with state := into }

theorem entered_eq (r : KeyRec) (into : KeyState) : ∃ flight tLift sounded liftSpent holdOff, r.entered into =
    { r with state := into, flight := flight, tLift := tLift, sounded := sounded, liftSpent := liftSpent
             holdOff := holdOff } := by
  unfold entered
  split
  · exact ⟨_, _, _, _, _, rfl⟩
  · exact ⟨_, _, _, _, _, rfl⟩

/-- R21, R56: the record of a key whose lost calibration is applied. -/
def lost (r : KeyRec) : KeyRec :=
  if r.calLost then
    if r.state = .fault then { r with calLost := false } else entered { r with calLost := false } .uncal
  else r

variable {r : KeyRec} {t : Thresholds} {mean : Nat}

theorem reevaluated_kept (r : KeyRec) : (r.reevaluated t).restRaw = r.restRaw ∧ (r.reevaluated t).debt = r.debt ∧
    (r.reevaluated t).stale = r.stale ∧ (r.reevaluated t).calLost = r.calLost ∧ (r.reevaluated t).nominal = r.nominal := by
  unfold reevaluated
  dsimp only
  split_ifs <;> exact ⟨rfl, rfl, rfl, rfl, rfl⟩

theorem reevaluated_state (r : KeyRec) : (r.reevaluated t).state =
    if r.muted then .muted else if r.latestDepth < t.rest then .rest else .shallow := by
  unfold reevaluated
  dsimp only
  have depth : ({ r with flight := none, tLift := none, sounded := false, liftSpent := false } : KeyRec).latestDepth
    = r.latestDepth := rfl
  rw [depth]
  split_ifs <;> rfl

theorem reevaluated_holdOff (r : KeyRec) : (r.reevaluated t).holdOff = ((r.reevaluated t).state == .shallow) := by
  unfold reevaluated
  dsimp only
  split_ifs <;> rfl

theorem acceptedAt_fields : (r.acceptedAt t mean).restRaw = some mean ∧ (r.acceptedAt t mean).debt = 0 ∧
    (r.acceptedAt t mean).stale = false ∧ (r.acceptedAt t mean).calLost = r.calLost := by
  unfold acceptedAt
  dsimp only
  split
  · obtain ⟨restRaw, debt, stale, calLost, -⟩ := reevaluated_kept (t := t) { r with restRaw := some mean, debt := 0, stale := false }
    exact ⟨restRaw, debt, stale, calLost⟩
  · exact ⟨rfl, rfl, rfl, rfl⟩

theorem acceptedAt_state : (r.acceptedAt t mean).state = if r.state ≠ .uncal then r.state else if r.muted then .muted
    else if r.latestDepth < t.rest then .rest else .shallow := by
  unfold acceptedAt
  by_cases uncal : r.state = .uncal
  · rw [if_pos uncal, if_neg (not_not.2 uncal), reevaluated_state]
    rfl
  · rw [if_neg uncal, if_pos uncal]

theorem acceptedAt_holdOff (uncal : r.state = .uncal) :
    (r.acceptedAt t mean).holdOff = ((r.acceptedAt t mean).state == .shallow) := by
  rw [acceptedAt, if_pos uncal, reevaluated_holdOff]

/-- R55: acceptance moves no damper, and it neither clears a fault nor makes one. -/
theorem acceptedAt_marks : (r.acceptedAt t mean).state.up = r.state.up ∧
    ((r.acceptedAt t mean).state = .fault ↔ r.state = .fault) := by
  rw [acceptedAt_state]
  by_cases uncal : r.state = .uncal
  · rw [if_neg (not_not.2 uncal), uncal]
    split_ifs <;> exact ⟨rfl, by simp⟩
  · rw [if_pos uncal]
    exact ⟨rfl, .rfl⟩

theorem lost_kept : r.lost.restRaw = r.restRaw ∧ r.lost.debt = r.debt ∧ r.lost.stale = r.stale := by
  unfold lost
  split_ifs
  · exact ⟨rfl, rfl, rfl⟩
  · obtain ⟨_, _, _, _, _, e⟩ := entered_eq { r with calLost := false } .uncal
    rw [e]
    exact ⟨rfl, rfl, rfl⟩
  · exact ⟨rfl, rfl, rfl⟩

theorem lost_of_kept (h : r.calLost = false) : r.lost = r := if_neg (ne_true_of_eq_false h)

theorem lost_applied (h : r.calLost = true) :
    r.lost.calLost = false ∧ r.lost.state = if r.state = .fault then .fault else .uncal := by
  rw [lost, if_pos h]
  split_ifs with fault
  · exact ⟨rfl, fault⟩
  · obtain ⟨_, _, _, _, _, e⟩ := entered_eq { r with calLost := false } .uncal
    rw [e]
    exact ⟨rfl, rfl⟩

/-- R16, R56: the damper of the key falls with its calibration. -/
def fallsLost (r : KeyRec) : Bool := r.calLost && r.state.up

end KeyRec

namespace Controller

/-! ### The keys judged (R55) -/

section Judge

variable {c : Controller} {k : Nat}

theorem acceptKey_key (hk : 1 ≤ k ∧ k ≤ c.keys.length) (mean : Nat) :
    (c.acceptKey k mean).key k = (c.key k).acceptedAt c.thresholds mean := by
  unfold acceptKey
  extract_lets r c1 c2
  have same : c2.keys = c1.keys := by
    unfold c2
    split
    · exact (report_frame _ _).keys (by simp)
    · rfl
  have thresholds : c2.thresholds = c.thresholds := by
    unfold c2
    split
    · exact (report_frame _ _).thresholds (by simp)
    · rfl
  have written : c2.key k = { r with restRaw := some mean, debt := 0, stale := false } := by
    rw [key, same]
    exact setKey_key _ hk _
  have hk2 : 1 ≤ k ∧ k ≤ c2.keys.length := by
    rw [same]
    exact (c.setKey_length k _).symm ▸ hk
  unfold KeyRec.acceptedAt
  split
  · rw [reevaluateKey, modKey, setKey_key _ hk2, written, thresholds]
  · exact written

theorem acceptKey_keys (k mean : Nat) : ∃ r, (c.acceptKey k mean).keys = (c.setKey k r).keys := by
  unfold acceptKey
  extract_lets r c1 c2
  have same : c2.keys = c1.keys := by
    unfold c2
    split
    · exact (report_frame _ _).keys (by simp)
    · rfl
  split
  · refine ⟨(c2.key k).reevaluated c2.thresholds, ?_⟩
    rw [reevaluateKey, modKey, setKey_keys, same, ← setKey_keys]
    exact congrArg keys (setKey_setKey _ _)
  · exact ⟨_, same⟩

theorem acceptKey_other {j : Nat} (hj : 1 ≤ j) (hk : 1 ≤ k) (ne : j ≠ k) (mean : Nat) :
    (c.acceptKey k mean).key j = c.key j := by
  obtain ⟨r, h⟩ := c.acceptKey_keys k mean
  rw [key, h]
  exact c.setKey_key_other hj hk ne r

theorem acceptKey_length (k mean : Nat) : (c.acceptKey k mean).keys.length = c.keys.length := by
  obtain ⟨r, h⟩ := c.acceptKey_keys k mean
  rw [h, setKey_length]

theorem acceptKey_tells (k mean : Nat) : Tells 1 c (c.acceptKey k mean) := by
  unfold acceptKey
  extract_lets r c1 c2
  have told : Tells 1 c c2 := (Tells.of_frame (n := 0) (c.setKey_frame k _) (by simp)).trans
    (.ite (report_tells _ _) (.refl _ _))
  split
  · exact told.trans (m := 0) (.of_frame (reevaluateKey_frame _ _) (by simp))
  · exact told

/-- R55: the record by which an examined key is accepted. -/
def accepts (c : Controller) (e : Exam) : Bool := e.accepted (c.key e.key).nominal

theorem judgeExams_accepts {e : Exam} (h : c.accepts e = true) (es : List Exam) :
    judgeExams (e :: es) c = judgeExams es (c.acceptKey e.key (e.readings.mean 256)) := if_pos h

theorem judgeExams_rejects {e : Exam} (h : c.accepts e = false) (es : List Exam) :
    judgeExams (e :: es) c = ((judgeExams es c).1, e.key :: (judgeExams es c).2) := if_neg (ne_true_of_eq_false h)

theorem judgeExams_length (es : List Exam) : (judgeExams es c).1.keys.length = c.keys.length := by
  induction es generalizing c with
  | nil => rfl
  | cons e es ih =>
    cases h : c.accepts e with
    | true => rw [judgeExams_accepts h, ih, acceptKey_length]
    | false => rw [judgeExams_rejects h, ih]

theorem judgeExams_tells (es : List Exam) : Tells es.length c (judgeExams es c).1 := by
  induction es generalizing c with
  | nil => exact .refl _ _
  | cons e es ih =>
    rw [List.length_cons]
    cases h : c.accepts e with
    | true =>
      rw [judgeExams_accepts h]
      exact ((c.acceptKey_tells _ _).trans ih).weaken (by omega)
    | false =>
      rw [judgeExams_rejects h]
      exact (ih (c := c)).weaken (by omega)

/-- The examined keys of a calibration exist, each once. -/
structure Examines (c : Controller) (es : List Exam) : Prop where
  once : (es.map Exam.key).Nodup
  within : ∀ e ∈ es, 1 ≤ e.key ∧ e.key ≤ c.keys.length

theorem Examines.tail {e : Exam} {es : List Exam} (h : Examines c (e :: es)) : Examines c es :=
  ⟨(List.nodup_cons.1 h.once).2, fun x hx => h.within x (List.mem_cons_of_mem _ hx)⟩

theorem Examines.accepted {e : Exam} {es : List Exam} (h : Examines c (e :: es)) (mean : Nat) :
    Examines (c.acceptKey e.key mean) es :=
  ⟨h.tail.once, by rw [acceptKey_length]; exact h.tail.within⟩

theorem Examines.other {e : Exam} {es : List Exam} (h : Examines c (e :: es)) (mean : Nat) {x : Exam} (mem : x ∈ es) :
    (c.acceptKey e.key mean).key x.key = c.key x.key :=
  acceptKey_other (h.tail.within x mem).1 (h.within e (List.mem_cons_self ..)).1
    (fun same => (List.nodup_cons.1 h.once).1 (same ▸ List.mem_map_of_mem mem)) mean

theorem Examines.sameAccepts {e : Exam} {es : List Exam} (h : Examines c (e :: es)) (mean : Nat) {x : Exam} (mem : x ∈ es) :
    (c.acceptKey e.key mean).accepts x = c.accepts x := by
  rw [accepts, h.other mean mem, accepts]

/-- A key that no examination accepts keeps its record. -/
theorem judgeExams_kept {es : List Exam} (h : Examines c es) (hk : 1 ≤ k)
    (kept : ∀ e ∈ es, e.key = k → c.accepts e = false) : (judgeExams es c).1.key k = c.key k := by
  induction es generalizing c with
  | nil => rfl
  | cons e es ih =>
    cases a : c.accepts e with
    | true =>
      rw [judgeExams_accepts a, ih (h.accepted _) fun x mem same => by
        rw [h.sameAccepts _ mem]
        exact kept x (List.mem_cons_of_mem _ mem) same]
      exact acceptKey_other hk (h.within e (List.mem_cons_self ..)).1
        (fun same => absurd (kept e (List.mem_cons_self ..) same.symm) (by simp [a])) _
    | false =>
      rw [judgeExams_rejects a]
      exact ih h.tail fun x mem => kept x (List.mem_cons_of_mem _ mem)

theorem judgeExams_accepted {es : List Exam} (h : Examines c es) {e : Exam} (mem : e ∈ es) (a : c.accepts e = true) :
    (judgeExams es c).1.key e.key = (c.key e.key).acceptedAt c.thresholds (e.readings.mean 256) := by
  induction es generalizing c with
  | nil => cases mem
  | cons x es ih =>
    obtain rfl | mem := List.mem_cons.1 mem
    · rw [judgeExams_accepts a, judgeExams_kept (h.accepted _) (h.within e (List.mem_cons_self ..)).1 fun y hy same =>
        absurd (same ▸ List.mem_map_of_mem hy) (List.nodup_cons.1 h.once).1]
      exact acceptKey_key (h.within e (List.mem_cons_self ..)) _
    · cases ax : c.accepts x with
      | true =>
        rw [judgeExams_accepts ax, ih (h.accepted _) mem (by rw [h.sameAccepts _ mem]; exact a), h.other _ mem,
          (acceptKey_frame _ _ _).thresholds (by simp)]
      | false =>
        rw [judgeExams_rejects ax]
        exact ih h.tail mem a

/-- R56: the rejected keys are listed in the order of the examination. -/
theorem judgeExams_rejected {es : List Exam} (h : Examines c es) :
    (judgeExams es c).2 = (es.filter fun e => !c.accepts e).map Exam.key := by
  induction es generalizing c with
  | nil => rfl
  | cons e es ih =>
    cases a : c.accepts e with
    | true =>
      rw [judgeExams_accepts a, ih (h.accepted _), List.filter_cons_of_neg (by simp [a])]
      exact congrArg _ (List.filter_congr fun x mem => by rw [h.sameAccepts _ mem])
    | false =>
      rw [judgeExams_rejects a, ih h.tail, List.filter_cons_of_pos (by simp [a]), List.map_cons]

/-- R55: judging moves no damper and no mark of a lost calibration. -/
theorem judgeExams_marks {es : List Exam} (h : Examines c es) (hk : 1 ≤ k) :
    ((judgeExams es c).1.key k).calLost = (c.key k).calLost ∧
    ((judgeExams es c).1.key k).state.up = (c.key k).state.up ∧
    (((judgeExams es c).1.key k).state = .fault ↔ (c.key k).state = .fault) := by
  by_cases accepted : ∃ e ∈ es, e.key = k ∧ c.accepts e = true
  · obtain ⟨e, mem, rfl, a⟩ := accepted
    rw [judgeExams_accepted h mem a]
    exact ⟨KeyRec.acceptedAt_fields.2.2.2, KeyRec.acceptedAt_marks⟩
  · rw [judgeExams_kept h hk fun e mem same => Bool.eq_false_iff.2 fun a => accepted ⟨e, mem, same, a⟩]
    exact ⟨rfl, rfl, .rfl⟩

end Judge

/-! ### The calibrations taken away (R21, R56) -/

section Loss

variable {c : Controller} {k : Nat}

/-- R56: the blocks that a lost calibration touches. -/
abbrev lossParts : List Block := [.keys, .pool, .takes, .recorder, .link]

theorem handDamperDown_frame' (c : Controller) (k : Nat) : Frame [.pool, .takes, .recorder, .link] c (c.handDamperDown k) :=
  ((c.reevaluateKeys_frame .live [k]).widen (by simp)).trans ((recWrite_frame _ _ _ _).widen (by simp))

theorem withdraw_eq (c : Controller) (k : Nat) (into : KeyState) : c.withdraw k into =
    if (c.key k).state.up then (c.setKey k ((c.key k).withdrawn into)).handDamperDown k
    else c.setKey k ((c.key k).withdrawn into) := rfl

/-- R16: a key that enters a condition state hands on the fall of its damper. -/
theorem enterCondition_eq (c : Controller) (k : Nat) (into : KeyState) : c.enterCondition k into =
    if (c.key k).state.up then (c.setKey k ((c.key k).entered into)).handDamperDown k
    else c.setKey k ((c.key k).entered into) := by
  rw [enterCondition, withdraw_eq, modKey, KeyRec.entered]
  by_cases positional : (c.key k).state.positional = true
  · rw [if_pos positional, if_pos positional]
  · have down : ¬ (c.key k).state.up = true := by
      cases h : (c.key k).state <;> simp_all [KeyState.positional, KeyState.up]
    rw [if_neg positional, if_neg down, if_neg positional]

theorem applyLoss_eq (hk : 1 ≤ k ∧ k ≤ c.keys.length) : c.applyLoss k =
    if (c.key k).fallsLost then (c.setKey k (c.key k).lost).handDamperDown k else c.setKey k (c.key k).lost := by
  rw [applyLoss, KeyRec.fallsLost, KeyRec.lost]
  dsimp only
  cases lost : (c.key k).calLost with
  | false => exact (setKey_self hk).symm
  | true =>
    rw [if_pos rfl, Bool.true_and, if_pos rfl]
    by_cases fault : (c.key k).state = .fault
    · rw [if_pos fault, if_pos fault, fault]
      rfl
    · rw [if_neg fault, if_neg fault, enterCondition_eq, setKey_key _ hk, setKey_setKey]

theorem applyLoss_keys (hk : 1 ≤ k ∧ k ≤ c.keys.length) : (c.applyLoss k).keys = (c.setKey k (c.key k).lost).keys := by
  rw [applyLoss_eq hk]
  split
  · exact (handDamperDown_frame' _ _).keys (by simp)
  · rfl

theorem applyLoss_length (hk : 1 ≤ k ∧ k ≤ c.keys.length) : (c.applyLoss k).keys.length = c.keys.length := by
  rw [applyLoss_keys hk, setKey_length]

theorem applyLoss_key (hk : 1 ≤ k ∧ k ≤ c.keys.length) {j : Nat} (hj : 1 ≤ j) :
    (c.applyLoss k).key j = if j = k then (c.key j).lost else c.key j := by
  rw [key, applyLoss_keys hk]
  split
  · next e =>
    subst e
    exact setKey_key _ hk _
  · next ne => exact c.setKey_key_other hj hk.1 ne _

theorem applyLoss_parts (hk : 1 ≤ k ∧ k ≤ c.keys.length) : Frame lossParts c (c.applyLoss k) := by
  have written : Frame lossParts c (c.setKey k (c.key k).lost) := (c.setKey_frame k _).widen (by simp)
  rw [applyLoss_eq hk]
  split
  · exact written.trans ((handDamperDown_frame' _ _).widen (by simp))
  · exact written

theorem applyLoss_tells (hk : 1 ≤ k ∧ k ≤ c.keys.length) : Tells 2 c (c.applyLoss k) := by
  have written (n : Nat) : Tells n c (c.setKey k (c.key k).lost) := .of_frame (c.setKey_frame k _) (by simp)
  rw [applyLoss_eq hk]
  split
  · exact (written 0).trans (handDamper_tells _ .damperDown)
  · exact written 2

/-- The keys of a list whose dampers fall with their calibrations. -/
def falling (c : Controller) (ks : List Nat) : List Nat := ks.filter fun k => (c.key k).fallsLost

/-- The keys of a list exist, each once. -/
structure Holds (c : Controller) (ks : List Nat) : Prop where
  once : ks.Nodup
  within : ∀ k ∈ ks, 1 ≤ k ∧ k ≤ c.keys.length

namespace Holds

variable {ks : List Nat} (h : Holds c (k :: ks))

include h

theorem head : 1 ≤ k ∧ k ≤ c.keys.length := h.within k (List.mem_cons_self ..)

theorem fresh : k ∉ ks := (List.nodup_cons.1 h.once).1

theorem next : Holds (c.applyLoss k) ks :=
  ⟨(List.nodup_cons.1 h.once).2, by
    rw [applyLoss_length h.head]
    exact fun j hj => h.within j (List.mem_cons_of_mem _ hj)⟩

theorem other {j : Nat} (hj : j ∈ ks) : (c.applyLoss k).key j = c.key j := by
  rw [applyLoss_key h.head (h.within j (List.mem_cons_of_mem _ hj)).1, if_neg fun e : j = k => h.fresh (e ▸ hj)]

theorem falling_next : (c.applyLoss k).falling ks = c.falling ks :=
  List.filter_congr fun j hj => by rw [h.other hj]

end Holds

variable {ks : List Nat} (h : Holds c ks)

include h

theorem losses_key {j : Nat} (hj : 1 ≤ j) :
    (ks.foldl applyLoss c).key j = if j ∈ ks then (c.key j).lost else c.key j := by
  induction ks generalizing c with
  | nil => simp
  | cons k ks ih =>
    rw [List.foldl_cons, ih h.next, applyLoss_key h.head hj]
    by_cases e : j = k
    · subst e
      simp [h.fresh]
    · simp [e]

theorem losses_parts : Frame lossParts c (ks.foldl applyLoss c) := by
  induction ks generalizing c with
  | nil => exact .refl _ _
  | cons k ks ih => exact (applyLoss_parts h.head).trans (ih h.next)

theorem losses_tells : Tells (2 * ks.length) c (ks.foldl applyLoss c) := by
  induction ks generalizing c with
  | nil => exact .refl _ _
  | cons k ks ih => exact ((applyLoss_tells h.head).trans (ih h.next)).weaken (by rw [List.length_cons]; omega)

/-- R56: where no damper falls, neither the pool nor the Recorder is touched. -/
theorem losses_silent (none : c.falling ks = []) : Frame [.keys] c (ks.foldl applyLoss c) := by
  induction ks generalizing c with
  | nil => exact .refl _ _
  | cons k ks ih =>
    have down : (c.key k).fallsLost ≠ true := fun falls => by
      simp [falling, falls] at none
    have rest : (c.applyLoss k).falling ks = [] := by
      rw [h.falling_next]
      rw [falling, List.filter_cons_of_neg (by exact down)] at none
      exact none
    have one : Frame [.keys] c (c.applyLoss k) := by
      rw [applyLoss_eq h.head, if_neg down]
      exact c.setKey_frame k _
    exact one.trans (ih h.next rest)

omit h in
theorem LiveOnRate.reevaluate {sel : Nat → Prop} (on : LiveOnRate sel c) (p : Note → Bool) :
    LiveOnRate sel (c.reevaluate p) := by
  intro i n hn sounding live hk
  rw [reevaluate_rateFor]
  rw [Controller.reevaluate, mapVoices_voice] at hn
  obtain ⟨m, hm, e⟩ := Option.bind_eq_some_iff.1 hn
  split at e
  · obtain ⟨-, source, key⟩ := Note.retune_same e
    obtain ⟨cls, rate, -⟩ := Note.retune_rate e
    rw [cls, rate, ← source, ← key, live]
  · obtain rfl := Option.some.inj e
    exact on i m hm sounding live hk

/-- R121: the LIVE voices of the keys whose dampers fall take the rate of their line. -/
theorem losses_onRate {sel : Nat → Prop} (apart : ∀ j, sel j → 1 ≤ j ∧ j ∉ ks) (on : LiveOnRate sel c) :
    LiveOnRate (fun j => sel j ∨ j ∈ c.falling ks) (ks.foldl applyLoss c) := by
  induction ks generalizing c sel with
  | nil => exact fun i n hn sounding live hk => on i n hn sounding live (hk.resolve_right List.not_mem_nil)
  | cons k ks ih =>
    obtain ⟨c1, hc1⟩ : ∃ c1, c1 = c.setKey k (c.key k).lost := ⟨_, rfl⟩
    have written : LiveOnRate sel c1 := on.congr (by rw [hc1]; rfl) (fun j hj => by
      obtain ⟨first, absent⟩ := apart j hj
      rw [hc1, c.setKey_key_other first h.head.1 (fun e => absent (e ▸ List.mem_cons_self ..))])
      (by rw [hc1]; rfl) (by rw [hc1]; rfl)
    have one : LiveOnRate (fun j => sel j ∨ j ∈ c.falling [k]) (c.applyLoss k) := by
      rw [applyLoss_eq h.head, ← hc1]
      by_cases falls : (c.key k).fallsLost = true
      · rw [if_pos falls]
        intro i n hn sounding live hk
        obtain old | new := hk
        · exact ((written.reevaluate _).of_frame (recWrite_frame _ .damperDown k 0) (by simp) (by simp) (by simp)) i n hn
            sounding live old
        · exact handDamper_onRate c1 .damperDown i n hn sounding live (List.mem_singleton.1 (List.mem_filter.1 new).1)
      · rw [if_neg falls]
        have none : c.falling [k] = [] := List.filter_cons_of_neg (by exact falls)
        rw [none]
        exact fun i n hn sounding live hk => written i n hn sounding live (hk.resolve_right List.not_mem_nil)
    have rest := ih (sel := fun j => sel j ∨ j ∈ c.falling [k]) h.next (fun j hj => by
      obtain old | new := hj
      · obtain ⟨first, absent⟩ := apart j old
        exact ⟨first, fun mem => absent (List.mem_cons_of_mem _ mem)⟩
      · obtain rfl := List.mem_singleton.1 (List.mem_filter.1 new).1
        exact ⟨h.head.1, h.fresh⟩) one
    intro i n hn sounding live hk
    refine rest i n hn sounding live ?_
    rw [h.falling_next]
    refine or_assoc.2 (hk.imp_right fun mem => ?_)
    obtain ⟨mem, falls⟩ := List.mem_filter.1 mem
    obtain e | mem := List.mem_cons.1 mem
    · exact .inl (List.mem_filter.2 ⟨List.mem_singleton.2 e, falls⟩)
    · exact .inr (List.mem_filter.2 ⟨mem, falls⟩)

/-- R163: the fall of a damper at the record time. -/
def fallAt (t k : Nat) : TakeRec := { time := t, kind := .damperDown, subject := k, value := 0 }

/-- R163: a recording in progress writes the falls of the dampers, as far as its slot has room. -/
theorem losses_records {j : RecJob} {run : RecRun} (hj : c.recorder.job = some j) (hr : j.run = some run)
    (room : c.count j.target + (c.falling ks).length ≤ 16384) :
    (ks.foldl applyLoss c).records j.target = c.records j.target ++ (c.falling ks).map (fallAt (c.recTime j)) := by
  induction ks generalizing c with
  | nil => exact (List.append_nil _).symm
  | cons k ks ih =>
    obtain ⟨c1, hc1⟩ : ∃ c1, c1 = c.applyLoss k := ⟨_, rfl⟩
    have f := applyLoss_parts h.head
    have time : c1.recTime j = c.recTime j := congrFun (hc1 ▸ recTime_congr (f.clock (by simp)) (f.player (by simp))) j
    have next : Holds c1 ks := hc1 ▸ h.next
    have same : c1.falling ks = c.falling ks := hc1 ▸ h.falling_next
    rw [List.foldl_cons, ← hc1]
    by_cases falls : (c.key k).fallsLost = true
    · have all : c.falling (k :: ks) = k :: c.falling ks := List.filter_cons_of_pos (by exact falls)
      have eq : c1 = (c.setKey k (c.key k).lost).handDamperDown k := by rw [hc1, applyLoss_eq h.head, if_pos falls]
      have wrote : c1.records j.target = c.records j.target ++ [fallAt (c.recTime j) k] := by
        rw [eq]
        exact handDamper_records (c.setKey k (c.key k).lost) hj hr .damperDown
      rw [all, List.length_cons] at room
      have counted : c1.count j.target = c.count j.target + 1 := by
        rw [count, wrote, List.length_append]
        rfl
      rw [all, List.map_cons]
      cases rest : c.falling ks with
      | nil =>
        have silent := losses_silent next (same.trans rest)
        rw [records_congr (silent.takes (by simp)), wrote]
        rfl
      | cons i is =>
        rw [rest, List.length_cons] at room
        have job : c1.recorder.job = some j := by
          have f := (c.setKey k (c.key k).lost).reevaluateKeys_frame .live [k]
          rw [eq, handDamperDown, recWrite_eq _ (by rw [f.recorder (by simp)]; exact hj) hr, recAppend_room]
          · rw [withRecord, setTake_recorder, f.recorder (by simp)]
            exact hj
          · rw [count, records_congr (f.takes (by simp))]
            show c.count j.target + 1 < 16384
            omega
        rw [ih next job (by rw [counted, same, rest, List.length_cons]; omega), wrote, same, time, rest,
          List.append_assoc]
        rfl
    · have all : c.falling (k :: ks) = c.falling ks := List.filter_cons_of_neg (by exact falls)
      have eq : c1 = c.setKey k (c.key k).lost := by rw [hc1, applyLoss_eq h.head, if_neg falls]
      have records : c1.records = c.records := by rw [eq]; rfl
      rw [all] at room ⊢
      rw [ih next (by rw [eq]; exact hj) (by rw [count, records, same]; exact room), records, same, time]

end Loss

end Controller

end Sys2Proof.Machine
end

section
/-! The completion of a FULL calibration in the order of R56, and what it leaves. -/

namespace Sys2Proof.Machine

/-- R55: the conditions under which an examined key is accepted. -/
theorem Exam.accepted_iff (e : Exam) (n : Nat) : e.accepted n = true ↔
    256 ≤ e.readings.count ∧ e.readings.outSeen = false ∧ e.readings.greatest - e.readings.least ≤ 12 ∧
      n ≤ (e.readings.sum + 128) / 256 + 160 ∧ (e.readings.sum + 128) / 256 ≤ n + 160 ∧
      (e.positional = true → e.allRest = true) := by
  have rests : (!e.positional || e.allRest) = true ↔ (e.positional = true → e.allRest = true) := by
    cases e.positional <;> simp
  rw [Exam.accepted, Bool.and_eq_true, Bool.and_eq_true, Bool.and_eq_true, Bool.and_eq_true, rests]
  rw [decide_eq_true_iff, decide_eq_true_iff, decide_eq_true_iff, Bool.not_eq_true']
  simp only [and_assoc]
  exact .rfl

namespace Controller

variable (c : Controller)

/-! ### The test of the rail leaves the calibration -/

theorem railTest_cal : c.railTest.trim.cal = c.trim.cal ∧ c.railTest.trim.fifo = c.trim.fifo := by
  by_cases starts : c.rail.state = .waitQuiet ∧ c.rail.target ≠ none ∧ c.motionOpen = true
  · obtain ⟨waits, target, isOpen⟩ := starts
    obtain ⟨t, target⟩ := Option.ne_none_iff_exists'.1 target
    have trim : ((c.setRail (c.startedRail t)).railReport false).trim = c.trim := (railReport_frame _ _).trim (by simp)
    rw [c.railTest_starts waits target isOpen]
    have cal := congrArg TrimEngine.cal trim
    have fifo := congrArg TrimEngine.fifo trim
    exact ⟨cal, fifo⟩
  · rw [c.railTest_stands starts]
    exact ⟨rfl, rfl⟩

theorem keysMoved_cal : c.keysMoved.trim.cal = c.trim.cal ∧ c.keysMoved.trim.fifo = c.trim.fifo := c.railTest_cal

theorem keysMoved_served (g : Nat) : c.keysMoved.served g = c.served g := by
  obtain ⟨cal, fifo⟩ := c.keysMoved_cal
  rw [served, served, calibrating, calibrating, cal, fifo]

/-! ### The readings of an examination (R54) -/

theorem calReading_some {cal : Calibration} (h : c.trim.cal = some cal) (k raw : Nat) :
    (c.calReading k raw).trim.cal = some { cal with exams := cal.exams.map (c.examReading cal k raw) } := by
  rw [calReading, h]

theorem followed_cal {cal : Calibration} (h : c.trim.cal = some cal) (k raw : Nat) :
    (c.followed k raw).trim.cal = some { cal with exams := cal.exams.map ((c.trimReading k raw).examReading cal k raw) } := by
  rw [followed, (keysMoved_cal _).1]
  exact calReading_some _ (by rw [trimReading_cal, h]) k raw

/-! ### The steps of a completion (R56) -/

def calJudged (cal : Calibration) : Controller := (groupKeys cal.group).foldl applyLoss (judgeExams cal.exams c).1

def rejoined (cal : Calibration) : List Nat :=
  if cal.rejoin && !c.trim.fifo.contains cal.group then c.trim.fifo ++ [cal.group] else c.trim.fifo

/-- The calibration closed with its report, its group in the FIFO again where it is marked to rejoin. -/
def calClosed (cal : Calibration) (rejected : List Nat) : Controller :=
  let c := c.report (.calDone cal.group rejected)
  { c with trim := { c.trim with cal := none, fifo := c.rejoined cal } }

theorem calClosed_trim (cal : Calibration) (rejected : List Nat) :
    (c.calClosed cal rejected).trim = { c.trim with cal := none, fifo := c.rejoined cal } := by
  have trim : (c.report (.calDone cal.group rejected)).trim = c.trim := (report_frame _ _).trim (by simp)
  rw [calClosed, rejoined, rejoined]
  dsimp only
  rw [trim]

theorem calFinish_eq (cal : Calibration) :
    c.calFinish cal = ((c.calJudged cal).calClosed cal (judgeExams cal.exams c).2).tryGrant.keysMoved := by
  rw [calFinish, calClosed, rejoined, calJudged]

theorem calComplete_due {cal : Calibration} (h : c.trim.cal = some cal) (awake : c.clock.suspended = false)
    (due : 300000 ≤ (c.now - cal.start).toNat) : c.calComplete = c.calFinish cal := by
  rw [calComplete, h]
  refine if_pos ?_
  rw [calDue, h, awake]
  exact decide_eq_true due

theorem calClosed_frame (cal : Calibration) (rejected : List Nat) : Frame [.trim, .link] c (c.calClosed cal rejected) :=
  ((c.report_frame _).widen (by simp)).trans ((trim_frame _ _).widen (by simp))

theorem calClosed_tells (cal : Calibration) (rejected : List Nat) : Tells 1 c (c.calClosed cal rejected) :=
  (c.report_tells _).trans (m := 0) (.of_link rfl)

theorem calClosed_queued (cal : Calibration) (rejected : List Nat) (on : c.link.mask.getLsbD 2 = true)
    (room : c.link.queue.length < 64) :
    { time := c.now, report := .calDone cal.group rejected } ∈ (c.calClosed cal rejected).link.queue :=
  report_queued (r := .calDone cal.group rejected) on room

/-- R56: a group marked to rejoin waits again. -/
theorem mem_rejoined {cal : Calibration} (h : cal.rejoin = true) : cal.group ∈ c.rejoined cal := by
  rw [rejoined, h, Bool.true_and]
  split
  · exact List.mem_append_right _ (List.mem_singleton_self _)
  · next waits => exact List.contains_iff_mem.1 (by simpa using waits)

theorem finished_served {cal : Calibration} (h : cal.rejoin = true) (rejected : List Nat) :
    (c.calClosed cal rejected).tryGrant.keysMoved.served cal.group = true := by
  rw [keysMoved_served]
  exact tryGrant_served _ ((served_iff _ _).2 (.inl (by
    rw [calClosed_trim]
    exact c.mem_rejoined h)))

theorem finished_empty {cal : Calibration} (alone : cal.rejoin = false) (none : c.trim.fifo = []) (rejected : List Nat) :
    (c.calClosed cal rejected).tryGrant.keysMoved.trim.cal = .none ∧
    (c.calClosed cal rejected).tryGrant.keysMoved.trim.fifo = [] := by
  have empty : (c.calClosed cal rejected).trim.fifo = [] := by
    rw [calClosed_trim, rejoined, alone]
    exact none
  have still : (c.calClosed cal rejected).tryGrant = c.calClosed cal rejected := by rw [tryGrant, empty]
  rw [still, (keysMoved_cal _).1, (keysMoved_cal _).2]
  exact ⟨by rw [calClosed_trim], empty⟩

/-- R88: a rail that waits starts when the keyboard is quiet and no group is granted. -/
theorem keysMoved_starts {t : Stop} (waits : c.rail.state = .waitQuiet) (target : c.rail.target = some t)
    (active : c.link.state = .active) (quiet : ∀ x ∈ c.keys, x.state ∉ [KeyState.shallow, .held, .armed, .struck])
    (free : c.trim.cal = none) : c.keysMoved.rail.target = some t ∧
      c.keysMoved.rail.state = if (c.rail.switch t).closed then .settling else t.motion := by
  obtain ⟨fields, motion, -⟩ := c.startedRail_fields t target
  have rail : c.keysMoved.rail = c.startedRail t :=
    c.railTest_rail waits target ((c.motionOpen_iff active).2 ⟨quiet, free⟩)
  rw [rail]
  refine ⟨congrArg Prod.fst fields, ?_⟩
  have state := congrArg Prod.fst motion
  rw [apply_ite Prod.fst] at state
  exact state

end Controller

/-- Settles O34: the readings of a sample, and the completion by the keys judged, the losses applied and the steps after them. -/
theorem calibrationCompletes : Obligations.CalibrationCompletes := by
  refine ⟨?reads, ?completes⟩
  case reads =>
    intro k raw cal s sv sized low high hraw hcal
    have hk : 1 ≤ k ∧ k ≤ s.ctl.keys.length := ⟨low, by rw [sized.keys]; exact high⟩
    obtain ⟨c1, hc1⟩ : ∃ c1, c1 = s.ctl.passedKey k raw := ⟨_, rfl⟩
    have f1 : Controller.Frame Controller.keyParts s.ctl c1 := hc1 ▸ Controller.passedKey_frame
    have leaves : Leaves (.keySample k raw) s (c1.followed k raw) :=
      .of_run (by rw [exec, execKeySample, runReading, if_pos hraw, State.runKey, if_pos ⟨low, high⟩]) sv.1
        (hc1 ▸ Controller.keySample_eq hk sv.2)
    refine ⟨_, leaves, (c1.followed_cal ((congrArg TrimEngine.cal (f1.trim (by simp))).trans hcal) k raw).trans ?_⟩
    have now : (c1.trimReading k raw).now = s.ctl.now :=
      congrArg StageClock.time (((c1.trimReading_frame k raw).clock (by simp)).trans (f1.clock (by simp)))
    have key : (c1.trimReading k raw).key k = (c1.followed k raw).key k := by
      rw [Controller.key, ← c1.followed_keys]
      rfl
    have each : (c1.trimReading k raw).examReading cal k raw = fun e =>
        let x := e.readings
        if e.key = k ∧ x.count < 256 ∧ 3000 + 1160 * x.count ≤ (s.ctl.now - cal.start).toNat then
          { e with
            readings :=
              { count := x.count + 1, sum := x.sum + raw, least := min x.least raw, greatest := max x.greatest raw
                outSeen := x.outSeen || decide (raw < 16 ∨ 4079 < raw) }
            allRest := e.allRest && decide (((c1.followed k raw).key k).state = .rest) }
        else e := funext fun e => by
      rw [Controller.examReading, now, key, Readings.add_eq]
      rfl
    rw [each]
  case completes =>
    intro cal s run sized ok hcal awake due mean accepts
    obtain ⟨rejectedKeys, hrej⟩ : ∃ l, l = (Controller.judgeExams cal.exams s.ctl).2 := ⟨_, rfl⟩
    obtain ⟨c1, hc1⟩ : ∃ c1, c1 = (Controller.judgeExams cal.exams s.ctl).1 := ⟨_, rfl⟩
    obtain ⟨c2, hc2⟩ : ∃ c2, c2 = s.ctl.calJudged cal := ⟨_, rfl⟩
    obtain ⟨c3, hc3⟩ : ∃ c3, c3 = (c2.calClosed cal rejectedKeys).tryGrant := ⟨_, rfl⟩
    have leaves : Leaves .calComplete s c3.keysMoved := by
      refine .of_run (by rw [exec, execCalComplete]) run ?_
      rw [s.ctl.calComplete_due hcal awake due, Controller.calFinish_eq, hc3, hc2, hrej]
    have accepts_iff (e : Exam) : s.ctl.accepts e = true ↔ accepts e := e.accepted_iff _
    have group := ok.calibrated cal hcal
    have range : ∀ k ∈ groupKeys cal.group, 1 ≤ k ∧ k ≤ s.ctl.keys.length := Controller.groupKeys_range sized.keys group
    have sub := ok.examined cal hcal
    have examines : s.ctl.Examines cal.exams := ⟨(groupKeys_once _).sublist sub, fun e mem => range _ (sub.subset (List.mem_map_of_mem mem))⟩
    have holds : Controller.Holds c1 (groupKeys cal.group) := ⟨groupKeys_once _, by rw [hc1, Controller.judgeExams_length]; exact range⟩
    have hc2' : c2 = (groupKeys cal.group).foldl Controller.applyLoss c1 := by rw [hc2, hc1]; rfl
    have f1 : Controller.Frame [.keys, .link] s.ctl c1 := hc1 ▸ s.ctl.judgeExams_frame _
    have f2 : Controller.Frame Controller.lossParts c1 c2 := hc2' ▸ Controller.losses_parts holds
    have f3 : Controller.Frame [.trim, .link] c2 c3 := hc3 ▸ (c2.calClosed_frame cal _).trans (Controller.tryGrant_frame _)
    have f4 : Controller.Frame [.trim, .rail, .link] c3 c3.keysMoved := c3.keysMoved_frame
    have key4 (k : Nat) (hk : 1 ≤ k) :
        c3.keysMoved.key k = if k ∈ groupKeys cal.group then (c1.key k).lost else c1.key k := by
      rw [Controller.key, f4.keys (by simp), f3.keys (by simp), hc2']
      exact Controller.losses_key holds hk
    have marks (k : Nat) (hk : 1 ≤ k) := hc1 ▸ Controller.judgeExams_marks (c := s.ctl) examines hk
    have kept4 (k : Nat) (hk : 1 ≤ k) : (c3.keysMoved.key k).restRaw = (c1.key k).restRaw ∧
        (c3.keysMoved.key k).debt = (c1.key k).debt ∧ (c3.keysMoved.key k).stale = (c1.key k).stale := by
      rw [key4 k hk]
      split
      · exact KeyRec.lost_kept
      · exact ⟨rfl, rfl, rfl⟩
    have unlost4 (k : Nat) (hk : 1 ≤ k) (h : (s.ctl.key k).calLost = false ∨ (k - 1) / 8 ≠ cal.group) :
        c3.keysMoved.key k = c1.key k := by
      rw [key4 k hk]
      split
      · next mem =>
        exact KeyRec.lost_of_kept ((marks k hk).1.trans (h.resolve_right (not_not.2 (mem_groupKeys.1 mem).2)))
      · rfl
    have falls : c1.falling (groupKeys cal.group) = (groupKeys cal.group).filter fun k =>
        decide ((s.ctl.key k).calLost = true ∧ (s.ctl.key k).state ∈ [KeyState.held, .armed, .struck]) :=
      List.filter_congr fun k mem => by
        obtain ⟨calLost, up, -⟩ := marks k (range k mem).1
        rw [KeyRec.fallsLost, calLost, up]
        cases (s.ctl.key k).calLost <;> cases (s.ctl.key k).state <;> rfl
    have tells1 : Controller.Tells 8 s.ctl c1 := by
      have len : cal.exams.length ≤ 8 := by
        have le := sub.length_le
        rw [List.length_map] at le
        simpa [groupKeys] using le
      exact hc1 ▸ (Controller.judgeExams_tells (c := s.ctl) cal.exams).weaken len
    have tells2 : Controller.Tells 16 c1 c2 := by
      rw [hc2']
      exact (Controller.losses_tells holds).weaken (by simp [groupKeys])
    have tells3 : Controller.Tells 2 c2 c3 := hc3 ▸ (c2.calClosed_tells cal _).trans (Controller.tryGrant_tells _)
    refine ⟨_, leaves, (f1.widen (by simp)).trans ((f2.widen (by simp)).trans ((f3.widen (by simp)).trans (f4.widen (by simp)))),
      ?accepted, ?kept, ?lost, ?falls, ?rail, ?empty, ?rejoins, ?done⟩
    case accepted =>
      intro e mem a r
      have hk := examines.within e mem
      have judged : c1.key e.key = r.acceptedAt s.ctl.thresholds (mean e) :=
        hc1 ▸ Controller.judgeExams_accepted examines mem ((accepts_iff e).2 a)
      obtain ⟨restRaw, debt, stale⟩ := kept4 e.key hk.1
      obtain ⟨restRaw1, debt1, stale1, -⟩ := KeyRec.acceptedAt_fields (r := r) (t := s.ctl.thresholds) (mean := mean e)
      rw [judged] at restRaw debt stale
      refine ⟨restRaw.trans restRaw1, debt.trans debt1, stale.trans stale1, fun kept => ?_, fun kept uncal => ?_⟩
      · rw [unlost4 e.key hk.1 (.inl kept), judged, KeyRec.acceptedAt_state]
      · rw [unlost4 e.key hk.1 (.inl kept), judged]
        exact KeyRec.acceptedAt_holdOff uncal
    case kept =>
      intro k low _ rejected
      have same : c1.key k = s.ctl.key k := hc1 ▸ Controller.judgeExams_kept examines low fun e mem e_key =>
        Bool.eq_false_iff.2 fun a => rejected e mem e_key ((accepts_iff e).1 a)
      obtain ⟨restRaw, debt, stale⟩ := kept4 k low
      rw [same] at restRaw debt stale
      exact ⟨restRaw, debt, stale, fun h => (unlost4 k low h).trans same⟩
    case lost =>
      intro k mem lost
      obtain ⟨calLost, -, fault⟩ := marks k (range k mem).1
      rw [key4 k (range k mem).1, if_pos mem]
      obtain ⟨cleared, state⟩ := KeyRec.lost_applied (calLost.trans lost)
      refine ⟨cleared, state.trans ?_⟩
      simp only [fault]
    case falls =>
      intro falls'
      have same : falls' = c1.falling (groupKeys cal.group) := falls.symm
      rw [same]
      refine ⟨fun i n hn sounding live mem => ?_, fun j run' hj hr room => ?_, fun none => ?_⟩
      · have rated := (((Controller.losses_onRate (sel := fun _ => False) holds (fun _ h => h.elim) (fun _ _ _ _ _ h => h.elim)).of_frame
          (hc2' ▸ f3) (by simp) (by simp) (by simp)).of_frame f4 (by simp) (by simp) (by simp))
        rw [← live]
        rw [live]
        exact rated i n hn sounding live (.inr mem)
      · have takes1 : c1.takes = s.ctl.takes := f1.takes (by simp)
        have records := Controller.losses_records holds (by rw [f1.recorder (by simp), hj]) hr
          (by rw [Controller.count, Controller.records_congr takes1]; exact room)
        rw [Controller.records_congr ((f4.takes (by simp)).trans (f3.takes (by simp))), hc2', records,
          Controller.records_congr takes1, Controller.recTime_congr (f1.clock (by simp)) (f1.player (by simp))]
        rfl
      · have f2' : Controller.Frame [.keys] c1 c2 := hc2' ▸ Controller.losses_silent holds none
        refine ⟨?_, ?_, ?_⟩
        · rw [f4.pool (by simp), f3.pool (by simp), f2'.pool (by simp), f1.pool (by simp)]
        · rw [f4.takes (by simp), f3.takes (by simp), f2'.takes (by simp), f1.takes (by simp)]
        · rw [f4.recorder (by simp), f3.recorder (by simp), f2'.recorder (by simp), f1.recorder (by simp)]
    case rail =>
      intro t waits target active quiet free
      have rail3 : c3.rail = s.ctl.rail := by rw [f3.rail (by simp), f2.rail (by simp), f1.rail (by simp)]
      rw [f4.keys (by simp)] at quiet
      rw [(c3.keysMoved_cal).1] at free
      have started := c3.keysMoved_starts (t := t) (by rw [rail3, waits]) (by rw [rail3, target])
        (by rw [tells3.state, tells2.state, tells1.state, active]) quiet free
      rw [rail3] at started
      exact started
    case empty =>
      intro alone none
      have fifo2 : c2.trim.fifo = [] := by rw [f2.trim (by simp), f1.trim (by simp), none]
      exact hc3 ▸ c2.finished_empty alone fifo2 rejectedKeys
    case rejoins =>
      intro rejoin
      exact hc3 ▸ c2.finished_served rejoin rejectedKeys
    case done =>
      intro rejected members sorted on room
      have examSorted : (cal.exams.map Exam.key).Pairwise (· < ·) := (groupKeys_sorted _).sublist sub
      have rejected_eq : rejectedKeys = rejected := by
        rw [hrej, Controller.judgeExams_rejected examines]
        refine List.Pairwise.eq_of_mem_iff (r := (· < ·)) (examSorted.sublist (List.filter_sublist.map _)) sorted fun k => ?_
        rw [members]
        simp only [List.mem_map, List.mem_filter, Bool.not_eq_true', ← accepts_iff, Bool.not_eq_true]
        exact ⟨fun ⟨e, ⟨mem, a⟩, same⟩ => ⟨e, mem, same, a⟩, fun ⟨e, mem, same, a⟩ => ⟨e, ⟨mem, a⟩, same⟩⟩
      have now2 : c2.now = s.ctl.now :=
        congrArg StageClock.time ((f2.clock (by simp)).trans (f1.clock (by simp)))
      have tells := tells1.trans tells2
      have grows := tells.grows
      have said := c2.calClosed_queued cal rejected (by rw [tells.mask]; exact on) (by omega)
      rw [now2] at said
      refine (Controller.keysMoved_keeps (skip := []) _).queued ?_ (by simp)
      rw [hc3, rejected_eq]
      exact (Controller.tryGrant_keeps (skip := []) _).queued said (by simp)

end Sys2Proof.Machine
end

section
/-! A key that enters a condition state, is muted or loses its calibration (R15, R16, R18 to R21, R24), and its timers. -/

namespace Sys2Proof.Machine

namespace Controller

/-! ### The event of one key -/

/-- R24: the fall of the damper of a key is handed to its LIVE voices and to a recording in progress. -/
structure FallHanded (c b : Controller) (k : Nat) : Prop where
  onRate : LiveOnRate (· = k) b
  wrote : ∀ j run, c.recorder.job = some j → j.run = some run →
    b.records j.target = c.records j.target ++ [fallAt (c.recTime j) k]

/-- The record of one key replaced, with the fall of its damper or without, and what the Trim Engine, the Rail Drive and the Link make of it. -/
structure KeyMoved (c b : Controller) (k : Nat) (r : KeyRec) (falls : Bool) : Prop where
  frame : Frame [.keys, .trim, .rail, .pool, .takes, .recorder, .link] c b
  keys : b.keys = (c.setKey k r).keys
  handed : falls = true → FallHanded c b k
  untouched : falls = false → b.pool = c.pool ∧ b.takes = c.takes ∧ b.recorder = c.recorder

namespace KeyMoved

variable {c b d : Controller} {k : Nat} {r : KeyRec} {falls : Bool}

theorem of_set (c : Controller) (k : Nat) (r : KeyRec) : KeyMoved c (c.setKey k r) k r false where
  frame := (c.setKey_frame k r).widen (by simp)
  keys := rfl
  handed := nofun
  untouched _ := ⟨rfl, rfl, rfl⟩

theorem of_handed (c : Controller) (k : Nat) (r : KeyRec) :
    KeyMoved c ((c.setKey k r).handDamperDown k) k r true where
  frame := ((c.setKey_frame k r).widen (by simp)).trans ((handDamperDown_frame' _ _).widen (by simp))
  keys := (handDamperDown_frame' _ _).keys (by simp)
  handed _ := ⟨handDamper_onRate _ .damperDown, fun _ _ hj hr => handDamper_records (c.setKey k r) hj hr .damperDown⟩
  untouched := nofun

theorem of_withdraw (c : Controller) (k : Nat) (into : KeyState) :
    KeyMoved c (c.withdraw k into) k ((c.key k).withdrawn into) (c.key k).state.up := by
  rw [withdraw_eq]
  cases (c.key k).state.up with
  | true => exact of_handed c k _
  | false => exact of_set c k _

theorem of_enter (c : Controller) (k : Nat) (into : KeyState) :
    KeyMoved c (c.enterCondition k into) k ((c.key k).entered into) (c.key k).state.up := by
  rw [enterCondition_eq]
  cases (c.key k).state.up with
  | true => exact of_handed c k _
  | false => exact of_set c k _

theorem after (h : KeyMoved c b k r falls) (f : Frame [.trim, .rail, .link] b d) : KeyMoved c d k r falls where
  frame := h.frame.trans (f.widen (by simp))
  keys := (f.keys (by simp)).trans h.keys
  handed e := ⟨(h.handed e).onRate.of_frame f (by simp) (by simp) (by simp), fun j run hj hr => by
    rw [records_congr (f.takes (by simp)), (h.handed e).wrote j run hj hr]⟩
  untouched e := by
    rw [f.pool (by simp), f.takes (by simp), f.recorder (by simp)]
    exact h.untouched e

theorem before {c' : Controller} (f : Frame [.trim, .rail, .link] c c') (h : KeyMoved c' b k r falls) :
    KeyMoved c b k r falls where
  frame := (f.widen (by simp)).trans h.frame
  keys := by rw [h.keys, setKey_keys, setKey_keys, f.keys (by simp)]
  handed e := ⟨(h.handed e).onRate, fun j run hj hr => by
    rw [(h.handed e).wrote j run (by rw [f.recorder (by simp), hj]) hr, records_congr (f.takes (by simp)),
      recTime_congr (f.clock (by simp)) (f.player (by simp))]⟩
  untouched e := by
    rw [← f.pool (by simp), ← f.takes (by simp), ← f.recorder (by simp)]
    exact h.untouched e

/-- The record written before the event is replaced by it. -/
theorem again {r' : KeyRec} (h : KeyMoved (c.setKey k r') b k r falls) : KeyMoved c b k r falls where
  frame := ((c.setKey_frame k r').widen (by simp)).trans h.frame
  keys := by rw [h.keys, setKey_setKey]
  handed e := ⟨(h.handed e).onRate, (h.handed e).wrote⟩
  untouched e := h.untouched e

theorem within (h : KeyMoved c b k r falls) (hk : 1 ≤ k ∧ k ≤ c.keys.length) : 1 ≤ k ∧ k ≤ b.keys.length := by
  rw [h.keys, setKey_length]
  exact hk

theorem key (h : KeyMoved c b k r falls) (hk : 1 ≤ k ∧ k ≤ c.keys.length) : b.key k = r := by
  rw [Controller.key, h.keys]
  exact c.setKey_key hk r

theorem other (h : KeyMoved c b k r falls) (hk : 1 ≤ k ∧ k ≤ c.keys.length) {j : Nat} (hj : 1 ≤ j) (ne : j ≠ k) :
    b.key j = c.key j := by
  rw [Controller.key, h.keys]
  exact c.setKey_key_other hj hk.1 ne r

/-- What does not move the damper may be written after the event. -/
theorem remark (h : KeyMoved c b k r falls) (hk : 1 ≤ k ∧ k ≤ c.keys.length) {r' : KeyRec} (up : r'.state.up = r.state.up) :
    KeyMoved c (b.setKey k r') k r' falls where
  frame := h.frame.trans ((b.setKey_frame k r').widen (by simp))
  keys := by rw [setKey_keys, h.keys, setKey_keys, setKey_keys, List.set_set]
  handed e := ⟨(h.handed e).onRate.setKey (h.within hk) (by rw [h.key hk, up]), (h.handed e).wrote⟩
  untouched e := h.untouched e

end KeyMoved

theorem enterCondition_tells (c : Controller) (k : Nat) (into : KeyState) : Tells 2 c (c.enterCondition k into) := by
  rw [enterCondition_eq]
  have written (n : Nat) : Tells n c (c.setKey k ((c.key k).entered into)) := .of_frame (c.setKey_frame k _) (by simp)
  split
  · exact (written 0).trans (handDamper_tells _ .damperDown)
  · exact written 2

/-! ### A group sent to the reference -/

variable (c : Controller)

theorem joinOrMark_served (g : Nat) : (c.joinOrMark g).served g = true := by
  unfold joinOrMark
  split
  · next cal h =>
    split
    · next e => exact (served_iff _ g).2 (.inr (by rw [calibrating]; exact beq_iff_eq.2 e))
    · exact c.joinFifo_served g
  · exact c.joinFifo_served g

theorem joinOrMark_marks {g : Nat} (h : c.calibrating g = true) :
    ∃ cal, (c.joinOrMark g).trim.cal = some cal ∧ cal.group = g ∧ cal.rejoin = true := by
  cases cal : c.trim.cal with
  | none =>
    rw [calibrating, cal] at h
    cases h
  | some x =>
    rw [calibrating, cal] at h
    have group : x.group = g := beq_iff_eq.1 h
    rw [joinOrMark, cal]
    dsimp only
    rw [if_pos group]
    exact ⟨_, rfl, group, rfl⟩

theorem dropExam_exams {k : Nat} {cal : Calibration} (h : (c.dropExam k).trim.cal = some cal) :
    ∀ e ∈ cal.exams, e.key ≠ k := by
  unfold dropExam at h
  split at h
  · obtain rfl := Option.some.inj h
    intro e mem
    simpa using (List.mem_filter.1 mem).2
  · next none => exact absurd h (by rw [none]; simp)

/-! ### The timers of a key -/

theorem silentPress_due {k : Nat} {d : Time} (awake : c.clock.suspended = false) (armed : (c.key k).state = .armed)
    (flight : (c.key k).flight = some d) (due : (c.now - d).toNat < 2147483648) :
    c.silentPress k = (c.setKey k { c.key k with state := .held, tLift := none, flight := none, liftSpent := true }).reportAt d
      (.silentPress k) := by
  unfold silentPress
  dsimp only
  rw [armed, flight]
  exact if_pos (expired_of_due awake rfl due)

/-- R18: the key in fault, its report not yet made. -/
def keyFaulted (k : Nat) : Controller :=
  ((c.enterCondition k .fault).modKey k fun r => { r with faultTimer := none, recovery := none }).dropExam k

theorem keyFault_due {k : Nat} {d : Time} (awake : c.clock.suspended = false) (state : (c.key k).state ≠ .fault)
    (timer : (c.key k).faultTimer = some d) (due : (c.now - d).toNat < 2147483648) :
    c.keyFault k = ((c.keyFaulted k).report (.keyFault k (c.key k).state (c.key k).latestRaw)).keysMoved :=
  if_pos ⟨state, expired_of_due awake timer due⟩

variable {c} in
theorem keyFaulted_moved {k : Nat} (hk : 1 ≤ k ∧ k ≤ c.keys.length) : KeyMoved c (c.keyFaulted k) k
    { (c.key k).entered .fault with faultTimer := none, recovery := none } (c.key k).state.up := by
  have entered := KeyMoved.of_enter c k .fault
  have marked := entered.remark hk (r' := { (c.key k).entered .fault with faultTimer := none, recovery := none }) rfl
  have dropped : Frame [.trim, .rail, .link] _ _ :=
    (dropExam_frame ((c.enterCondition k .fault).setKey k { (c.key k).entered .fault with faultTimer := none, recovery := none })
      k).widen (by simp)
  have eq : c.keyFaulted k = ((c.enterCondition k .fault).setKey k
      { (c.key k).entered .fault with faultTimer := none, recovery := none }).dropExam k := by
    rw [keyFaulted, modKey, entered.key hk]
  rw [eq]
  exact marked.after dropped

theorem keyFaulted_tells (k : Nat) : Tells 2 c (c.keyFaulted k) :=
  ((c.enterCondition_tells k .fault).trans (m := 0) (.of_frame (modKey_frame _ _ _) (by simp))).trans (m := 0)
    (.of_frame (dropExam_frame _ _) (by simp))

/-- R19: the key in UNCAL, its report made. -/
def cleared (k : Nat) : Controller :=
  (c.setKey k { c.key k with state := .uncal, recovery := none }).report (.keyClear k)

theorem keyClear_due {k : Nat} {d : Time} (awake : c.clock.suspended = false) (state : (c.key k).state = .fault)
    (timer : (c.key k).recovery = some d) (due : (c.now - d).toNat < 2147483648) :
    c.keyClear k = ((c.cleared k).joinOrMark (groupOf k)).trimSync :=
  if_pos ⟨state, expired_of_due awake timer due⟩

end Controller

theorem KeyState.positional_iff (x : KeyState) :
    x.positional = true ↔ x ∈ [KeyState.rest, .shallow, .held, .armed, .struck] := by
  cases x <;> decide

theorem KeyState.up_iff (x : KeyState) : x.up = true ↔ x = .held ∨ x = .armed ∨ x = .struck := by
  cases x <;> decide

/-- Settles O28: the three expiries of a key. -/
theorem keyTimers : Obligations.KeyTimers := by
  intro k s run sized low high awake r due others positional up
  have hk : 1 ≤ k ∧ k ≤ s.ctl.keys.length := ⟨low, by rw [sized.keys]; exact high⟩
  have hg : groupOf k < 11 := by unfold groupOf; omega
  refine ⟨fun d armed flight now => ?press, fun d state timer now => ?fault, fun d state timer now => ?clear⟩
  case press =>
    exact .of_run (by rw [exec, execSilentPress, State.runKey, if_pos ⟨low, high⟩]) run
      (s.ctl.silentPress_due awake armed flight now)
  case fault =>
    obtain ⟨c1, hc1⟩ : ∃ c1, c1 = s.ctl.keyFaulted k := ⟨_, rfl⟩
    have moved1 : Controller.KeyMoved s.ctl c1 k { r.entered .fault with faultTimer := none, recovery := none } r.state.up :=
      hc1 ▸ Controller.keyFaulted_moved (c := s.ctl) hk
    have moved := moved1.after (((c1.report_frame (.keyFault k r.state r.latestRaw)).widen (by simp)).trans
      (Controller.keysMoved_frame _))
    have tells : Controller.Tells 2 s.ctl c1 := hc1 ▸ s.ctl.keyFaulted_tells k
    refine ⟨_, .of_run (by rw [exec, execKeyFault, State.runKey, if_pos ⟨low, high⟩]) run
      (by rw [hc1]; exact s.ctl.keyFault_due awake state timer now), moved.frame, fun j hj _ ne => moved.other hk hj ne, ?_, ?_, fun rose => ?_,
      fun lay => ?_, fun on room => ?_⟩
    · rw [moved.key hk, KeyRec.entered]
      by_cases h : positional
      · rw [if_pos h, if_pos (r.state.positional_iff.2 h)]
        rfl
      · rw [if_neg h, if_neg (mt r.state.positional_iff.1 h)]
    · intro cal hcal
      rw [(Controller.keysMoved_cal _).1, (c1.report_frame _).trim (by simp), hc1] at hcal
      exact Controller.dropExam_exams _ hcal
    · obtain ⟨onRate, wrote⟩ := moved.handed (r.state.up_iff.2 rose)
      refine ⟨fun i n hn sounding live e => ?_, wrote⟩
      have rate := onRate i n hn sounding live e
      rw [e] at rate
      exact rate
    · exact moved.untouched (Bool.eq_false_iff.2 (mt r.state.up_iff.1 lay))
    · have grows := tells.grows
      have said := Controller.report_queued (c := c1) (r := .keyFault k r.state r.latestRaw) (by rw [tells.mask]; exact on) (by omega)
      rw [show c1.now = s.ctl.now from congrArg StageClock.time (moved1.frame.clock (by simp))] at said
      exact (Controller.keysMoved_keeps (skip := []) _).queued said (by simp)
  case clear =>
    obtain ⟨c1, hc1⟩ : ∃ c1, c1 = s.ctl.cleared k := ⟨_, rfl⟩
    have moved1 : Controller.KeyMoved s.ctl c1 k { r with state := .uncal, recovery := none } false :=
      hc1 ▸ (Controller.KeyMoved.of_set s.ctl k _).after ((Controller.report_frame _ _).widen (by simp))
    have f1 : Controller.Frame [.keys, .link] s.ctl c1 := hc1 ▸
      ((s.ctl.setKey_frame k _).widen (by simp)).trans ((Controller.report_frame _ _).widen (by simp))
    have f2 : Controller.Frame [.trim, .link] c1 (c1.joinOrMark (groupOf k)).trimSync :=
      (c1.joinOrMark_frame _).trans ((Controller.trimSync_frame _).widen (by simp))
    have moved := moved1.after (f2.widen (by simp))
    refine ⟨_, .of_run (by rw [exec, execKeyClear, State.runKey, if_pos ⟨low, high⟩]) run
      (hc1 ▸ s.ctl.keyClear_due awake state timer now), (f1.widen (by simp)).trans (f2.widen (by simp)),
      fun j hj _ ne => moved.other hk hj ne, moved.key hk, c1.joinOrMark_served (groupOf k), fun on room => ?_⟩
    have said := Controller.report_queued (c := s.ctl.setKey k { r with state := .uncal, recovery := none }) (r := .keyClear k)
      (by exact on) (by exact Nat.lt_of_lt_of_le room (by decide))
    have eq : c1 = (s.ctl.setKey k { r with state := .uncal, recovery := none }).report (.keyClear k) := hc1
    rw [← eq] at said
    have kept := (Controller.joinOrMark_keeps (skip := []) c1 hg).queued said (by simp)
    exact kept

end Sys2Proof.Machine
end

section
/-! KEY_MUTE and KEY_PARAM (R20, R21). -/

namespace Sys2Proof.Machine

namespace Controller

variable {c : Controller} {k : Nat} (hk : 1 ≤ k ∧ k ≤ c.keys.length)

/-! ### KEY_MUTE (R20) -/

/-- The key muted, its examination dropped and its positional state left. -/
def mutedOn (c : Controller) (k : Nat) : Controller :=
  let c := (c.modKey k fun r => { r with muted := true }).dropExam k
  if (c.key k).state.positional then c.withdraw k .muted else c

/-- The key unmuted, and re-evaluated where it was in MUTED. -/
def mutedOff (c : Controller) (k : Nat) : Controller :=
  let c := c.modKey k fun r => { r with muted := false }
  if (c.key k).state = .muted then c.reevaluateKey k else c

include hk

theorem mutedOn_moved : KeyMoved c (c.mutedOn k) k
    (if (c.key k).state.positional then { c.key k with muted := true }.withdrawn .muted else { c.key k with muted := true })
    (c.key k).state.up := by
  obtain ⟨c1, hc1⟩ : ∃ c1, c1 = c.setKey k { c.key k with muted := true } := ⟨_, rfl⟩
  obtain ⟨c2, hc2⟩ : ∃ c2, c2 = c1.dropExam k := ⟨_, rfl⟩
  have f2 : Frame [.trim] c1 c2 := hc2 ▸ c1.dropExam_frame k
  have key2 : c2.key k = { c.key k with muted := true } := by
    rw [key, f2.keys (by simp), hc1]
    exact c.setKey_key hk _
  have eq : c.mutedOn k = if (c2.key k).state.positional then c2.withdraw k .muted else c2 := by rw [hc2, hc1]; rfl
  rw [eq, key2]
  by_cases positional : (c.key k).state.positional = true
  · rw [if_pos (by exact positional), if_pos positional]
    have left := KeyMoved.of_withdraw c2 k .muted
    rw [key2] at left
    exact (hc1 ▸ left.before (f2.widen (by simp)) : KeyMoved (c.setKey k { c.key k with muted := true }) _ k _ _).again
  · have down : (c.key k).state.up = false := by
      cases h : (c.key k).state <;> simp_all [KeyState.positional, KeyState.up]
    rw [if_neg (by exact positional), if_neg positional, down]
    exact (hc1 ▸ KeyMoved.of_set c k _ : KeyMoved c c1 k _ false).after (f2.widen (by simp))

theorem mutedOff_moved : KeyMoved c (c.mutedOff k) k
    (if (c.key k).state = .muted then { c.key k with muted := false }.reevaluated c.thresholds
     else { c.key k with muted := false }) false := by
  rw [mutedOff, modKey, setKey_key _ hk]
  by_cases muted : (c.key k).state = .muted
  · rw [if_pos (by exact muted), if_pos muted, reevaluateKey, modKey, setKey_key _ hk, setKey_setKey]
    exact .of_set c k _
  · rw [if_neg (by exact muted), if_neg muted]
    exact .of_set c k _

omit hk

theorem keyMute_on {flag : Nat} (ok : keyOk k = true) (on : (flag != 0) = true) (differs : (c.key k).muted = false) :
    keyMute k flag c = ((c.mutedOn k).keysMoved, bare .ok) := by
  rw [keyMute, on, if_neg (show ¬ keyOk k = false by simp [ok]), differs]
  rfl

theorem keyMute_off {flag : Nat} (ok : keyOk k = true) (off : (flag != 0) = false) (differs : (c.key k).muted = true) :
    keyMute k flag c = ((c.mutedOff k).keysMoved, bare .ok) := by
  rw [keyMute, off, if_neg (show ¬ keyOk k = false by simp [ok]), differs]
  rfl

theorem keyMute_already {flag : Nat} (ok : keyOk k = true) (same : (flag != 0) = (c.key k).muted) :
    keyMute k flag c = (c, bare .already) := by
  rw [keyMute, if_neg (show ¬ keyOk k = false by simp [ok])]
  exact if_pos same

/-! ### KEY_PARAM (R21) -/

include hk

theorem loseCalibration_moved : KeyMoved c (c.loseCalibration k) k
    (if (c.key k).state = .fault then c.key k else if c.calibrating (groupOf k) then { c.key k with calLost := true }
     else (c.key k).entered .uncal)
    (!c.calibrating (groupOf k) && (c.key k).state.up) := by
  unfold loseCalibration
  by_cases fault : (c.key k).state = .fault
  · rw [if_pos fault, if_pos fault, fault, KeyState.up, Bool.and_false]
    have same := KeyMoved.of_set c k (c.key k)
    rw [setKey_self hk] at same
    exact same
  · rw [if_neg fault, if_neg fault]
    cases busy : c.calibrating (groupOf k) with
    | true => exact (KeyMoved.of_set c k { c.key k with calLost := true }).after ((joinOrMark_frame _ _).widen (by simp))
    | false =>
      exact ((KeyMoved.of_enter c k .uncal).after (railTest_frame _)).after ((joinOrMark_frame _ _).widen (by simp))

omit hk

theorem loseCalibration_served (working : (c.key k).state ≠ .fault) : (c.loseCalibration k).served (groupOf k) = true := by
  unfold loseCalibration
  rw [if_neg working]
  split
  · exact joinOrMark_served _ _
  · exact joinOrMark_served _ _

theorem loseCalibration_marks (working : (c.key k).state ≠ .fault) (busy : c.calibrating (groupOf k) = true) :
    ∃ cal, (c.loseCalibration k).trim.cal = some cal ∧ cal.group = groupOf k ∧ cal.rejoin = true := by
  rw [loseCalibration, if_neg working, if_pos busy]
  exact joinOrMark_marks _ busy

theorem keyParam_bad {nominal bottom travel : Nat} {trim : Int} (bad : paramsOk nominal bottom travel trim = false) :
    keyParam k nominal bottom travel trim c = (c, bare .badValue) := if_pos (.inr bad)

theorem keyParam_checked {nominal bottom travel : Nat} {trim : Int} (ok : keyOk k = true)
    (legal : paramsOk nominal bottom travel trim = true) : keyParam k nominal bottom travel trim c =
      if !(nominal != (c.key k).nominal || bottom != (c.key k).bottom) && travel == (c.key k).travel
          && trim == (c.key k).levelTrim then (c, bare .already)
      else
        let c1 := c.setKey k { c.key k with nominal := nominal, bottom := bottom, travel := travel, levelTrim := trim }
        ((if nominal != (c.key k).nominal || bottom != (c.key k).bottom then c1.loseCalibration k else c1).keysMoved,
          bare .ok) := by
  rw [keyParam, if_neg (by rw [ok, legal]; simp)]

end Controller

theorem keyOk_iff (k : Nat) : keyOk k = true ↔ 1 ≤ k ∧ k ≤ 88 := decide_eq_true_iff

theorem paramsOk_iff (nominal bottom travel : Nat) (trim : Int) : paramsOk nominal bottom travel trim = true ↔
    nominal ≤ 4095 ∧ bottom ≤ 4095 ∧ 2000 ≤ travel ∧ travel ≤ 16000 ∧ -16 ≤ trim ∧ trim ≤ 15 ∧ nominal + 256 ≤ bottom :=
  decide_eq_true_iff

/-- R17: an unmuted key is placed by the depth of its latest sample. -/
theorem KeyRec.reevaluated_unmuted (r : KeyRec) (t : Thresholds) : { r with muted := false }.reevaluated t =
    { r with
      muted := false, flight := none, tLift := none, sounded := false, liftSpent := false
      state := if r.latestDepth < t.rest then .rest else .shallow
      holdOff := decide (t.rest ≤ r.latestDepth) } := by
  unfold KeyRec.reevaluated
  by_cases low : r.latestDepth < t.rest
  · have low' : ({ r with flight := none, tLift := none, sounded := false, liftSpent := false, muted := false } :
      KeyRec).latestDepth < t.rest := low
    simp [low, low']
  · have high' : ¬ ({ r with flight := none, tLift := none, sounded := false, liftSpent := false, muted := false } :
      KeyRec).latestDepth < t.rest := low
    simp [low, high', Nat.not_lt.1 low]

/-- R16: the record of a key that enters a condition state, by the manual's list of the positional states. -/
theorem KeyRec.entered_if (r : KeyRec) (into : KeyState) : r.entered into =
    if r.state ∈ [KeyState.rest, .shallow, .held, .armed, .struck] then
      { r with state := into, flight := none, tLift := none, sounded := false, liftSpent := false, holdOff := false }
    else { r with state := into } := by
  rw [KeyRec.entered]
  exact if_congr r.state.positional_iff rfl rfl

/-- Settles O23: each request by the event of its key. -/
theorem keyMuteAndParam : Obligations.KeyMuteAndParam := by
  refine ⟨fun tag k flag n b t l s sv bad => ?_, ?_⟩
  · have unknown : keyOk k = false := Bool.eq_false_iff.2 fun h => by
      have known := (keyOk_iff k).1 h
      omega
    exact ⟨.of_rule rfl sv (if_pos unknown) rfl rfl, .of_rule rfl sv (if_pos (.inl unknown)) rfl rfl⟩
  · intro tag k s sv sized low high c r others touched positional out up handed untouched
    have hk : 1 ≤ k ∧ k ≤ c.keys.length := ⟨low, by
      show k ≤ s.ctl.closeWindow.keys.length
      rw [Controller.closeWindow_keys, sized.keys]
      exact high⟩
    have ok : keyOk k = true := (keyOk_iff k).2 ⟨low, high⟩
    have handed_of {c' : Controller} (h : Controller.FallHanded c c' k) : handed c' := by
      refine ⟨fun i n hn sounding live e => ?_, h.wrote⟩
      have rate := h.onRate i n hn sounding live e
      rw [e] at rate
      exact rate
    refine ⟨fun flag same => .of_rule rfl sv (Controller.keyMute_already ok same) rfl rfl, fun flag differs => ?mute, ?param⟩
    case mute =>
      by_cases zero : flag = 0
      · have off : (flag != 0) = false := by rw [zero]; rfl
        have muted : r.muted = true := by
          rw [off] at differs
          exact Bool.eq_true_of_not_eq_false fun h => differs h.symm
        have event := (Controller.mutedOff_moved hk).after (Controller.keysMoved_frame _)
        refine ⟨_, .of_rule rfl sv (Controller.keyMute_off ok off muted) rfl rfl, event.frame,
          fun j hj _ ne => event.other hk hj ne, ?_, fun h => absurd zero h, fun _ => event.untouched rfl⟩
        rw [event.key hk, if_neg (not_not.2 zero), KeyRec.reevaluated_unmuted]
      · have on : (flag != 0) = true := bne_iff_ne.2 zero
        have sounds : r.muted = false := by
          rw [on] at differs
          exact Bool.eq_false_iff.2 fun h => differs h.symm
        have event := (Controller.mutedOn_moved hk).after (Controller.keysMoved_frame _)
        refine ⟨_, .of_rule rfl sv (Controller.keyMute_on ok on sounds) rfl rfl, event.frame,
          fun j hj _ ne => event.other hk hj ne, ?_, fun _ rose => handed_of (event.handed (r.state.up_iff.2 rose)),
          fun lay => event.untouched (Bool.eq_false_iff.2 fun rose => lay ⟨zero, r.state.up_iff.1 rose⟩)⟩
        rw [event.key hk, if_pos zero]
        by_cases h : positional r.state
        · rw [if_pos h, if_pos (r.state.positional_iff.2 h)]
          exact (if_pos h).symm
        · rw [if_neg h, if_neg (mt r.state.positional_iff.1 h)]
    case param =>
      intro nominal bottom travel trim legal moved same r' replies
      have legal_iff : paramsOk nominal bottom travel trim = true ↔ legal := paramsOk_iff ..
      have moved_iff : (nominal != r.nominal || bottom != r.bottom) = true ↔ moved := by
        rw [Bool.or_eq_true, bne_iff_ne, bne_iff_ne]
      have same_iff : (!(nominal != r.nominal || bottom != r.bottom) && travel == r.travel && trim == r.levelTrim) = true ↔
          same := by
        rw [Bool.and_eq_true, Bool.and_eq_true, Bool.not_eq_true', ← Bool.not_eq_true, moved_iff, beq_iff_eq, beq_iff_eq,
          and_assoc]
      refine ⟨fun bad => .of_rule rfl sv (Controller.keyParam_bad (Bool.eq_false_iff.2 (mt legal_iff.1 bad))) rfl rfl,
        fun good equal => .of_rule rfl sv ((Controller.keyParam_checked ok (legal_iff.2 good)).trans (if_pos (same_iff.2 equal)))
          rfl rfl, fun good differs => ?_⟩
      have rule := (Controller.keyParam_checked (c := c) ok (legal_iff.2 good)).trans (if_neg (mt same_iff.1 differs))
      obtain ⟨c1, hc1⟩ : ∃ c1, c1 = c.setKey k r' := ⟨_, rfl⟩
      have hk1 : 1 ≤ k ∧ k ≤ c1.keys.length := by rw [hc1, Controller.setKey_length]; exact hk
      have key1 : c1.key k = r' := by rw [hc1]; exact c.setKey_key hk r'
      have busy1 : c1.calibrating (groupOf k) = c.calibrating ((k - 1) / 8) := by rw [hc1]; rfl
      by_cases h : moved
      · have event : Controller.KeyMoved c (c1.loseCalibration k).keysMoved k
            (if r.state = .fault then r' else if c.calibrating ((k - 1) / 8) then { r' with calLost := true }
             else r'.entered .uncal) (!c.calibrating ((k - 1) / 8) && r.state.up) := by
          have lost := Controller.loseCalibration_moved hk1
          rw [key1, busy1] at lost
          rw [hc1] at lost ⊢
          exact lost.again.after (Controller.keysMoved_frame _)
        have rule := rule.trans (congrArg (fun x : Controller => (x.keysMoved, bare .ok)) (if_pos (moved_iff.2 h)))
        have working (hr : r.state ≠ .fault) : (c1.key k).state ≠ .fault := by rw [key1]; exact hr
        refine ⟨(c1.loseCalibration k).keysMoved, .of_rule rfl sv (hc1 ▸ rule) rfl rfl, event.frame,
          fun j hj _ ne => event.other hk hj ne, ?_, fun _ rose free => handed_of (event.handed ?_), fun lay => event.untouched ?_,
          fun _ hr => ?_, fun _ hr busy => ?_⟩
        · rw [event.key hk, KeyRec.entered_if]
          exact if_congr ⟨.inr, fun h' => h'.resolve_left (not_not.2 h)⟩ rfl rfl
        · rw [free, r.state.up_iff.2 rose]
          rfl
        · refine Bool.eq_false_iff.2 fun falls => lay ⟨h, ?_⟩
          rw [Bool.and_eq_true, Bool.not_eq_true'] at falls
          exact ⟨r.state.up_iff.1 falls.2, falls.1⟩
        · rw [Controller.keysMoved_served]
          exact Controller.loseCalibration_served (working hr)
        · rw [(Controller.keysMoved_cal _).1]
          exact Controller.loseCalibration_marks (working hr) (busy1.trans busy)
      · have event : Controller.KeyMoved c c1.keysMoved k r' false :=
          (hc1 ▸ Controller.KeyMoved.of_set c k r' : Controller.KeyMoved c c1 k r' false).after (Controller.keysMoved_frame _)
        have rule := rule.trans (congrArg (fun x : Controller => (x.keysMoved, bare .ok)) (if_neg (mt moved_iff.1 h)))
        exact ⟨c1.keysMoved, .of_rule rfl sv (hc1 ▸ rule) rfl rfl, event.frame, fun j hj _ ne => event.other hk hj ne,
          (event.key hk).trans (if_pos (.inl h)).symm, fun h' => absurd h' h, fun _ => event.untouched rfl,
          fun h' => absurd h' h, fun h' => absurd h' h⟩

end Sys2Proof.Machine
end

section
/-! The Rail Drive (R81 to R97): what a fault, a settle, a wait and a placing leave, and its switches and timers. -/

namespace Sys2Proof.Machine

namespace Controller

variable (c : Controller)

/-! ### A rail record replaced and reported -/

/-- The rail record replaced, with its RAIL_STATE report. -/
def railSaid (r : Rail) (discarded : Bool) : Controller := (c.setRail r).railReport discarded

theorem railSaid_frame (r : Rail) (d : Bool) : Frame [.rail, .link] c (c.railSaid r d) :=
  ((c.setRail_frame r).widen (by simp)).trans ((railReport_frame _ d).widen (by simp))

theorem railSaid_rail (r : Rail) (d : Bool) : (c.railSaid r d).rail = r := (railReport_frame _ d).rail (by simp)

theorem railSaid_trim (r : Rail) (d : Bool) : (c.railSaid r d).trim = c.trim := (c.railSaid_frame r d).trim (by simp)

theorem railSaid_tells (r : Rail) (d : Bool) : Tells 1 c (c.railSaid r d) :=
  (Tells.of_link (n := 0) (a := c) (b := c.setRail r) rfl).trans (report_tells _ _)

theorem railSaid_queued (r : Rail) (d : Bool) (on : c.link.mask.getLsbD 3 = true) (room : c.link.queue.length < 64) :
    { time := c.now, report := .railState r.state r.target r.cause d r.lastStop r.recovery } ∈
      (c.railSaid r d).link.queue :=
  report_queued (c := c.setRail r) (r := .railState r.state r.target r.cause d r.lastStop r.recovery) on room

/-- R102: the rail enters SETTLING, FAULT or the state of a stop, and the trim units follow. -/
def railEntered (r : Rail) : Controller := (c.railSaid r false).trimSync

theorem railEntered_frame (r : Rail) : Frame [.rail, .trim, .link] c (c.railEntered r) :=
  ((c.railSaid_frame r false).widen (by simp)).trans ((trimSync_frame _).widen (by simp))

theorem railEntered_rail (r : Rail) : (c.railEntered r).rail = r := c.railSaid_rail r false

theorem railEntered_queued (r : Rail) (on : c.link.mask.getLsbD 3 = true) (room : c.link.queue.length < 64) :
    { time := c.now, report := .railState r.state r.target r.cause false r.lastStop r.recovery } ∈
      (c.railEntered r).link.queue := c.railSaid_queued r false on room

/-! ### The grant after a motion (R53) -/

theorem tryGrant_grants {g : Nat} {gs : List Nat} (fifo : c.trim.fifo = g :: gs) (isOpen : c.grantOpen = true) :
    c.tryGrant.trim.fifo = gs ∧ c.tryGrant.calibrating g = true := by
  obtain e | ⟨head, rest, h, -, e⟩ := c.tryGrant_cases
  · exfalso
    have granted : c.tryGrant = (c.granted g gs).report (.calStart g (c.examsOf g).length gs.length) := by
      rw [tryGrant, fifo]
      exact if_pos isOpen
    have trim : c.tryGrant.trim = (c.granted g gs).trim := by rw [granted, (report_frame _ _).trim (by simp)]
    rw [e] at trim
    have same := congrArg TrimEngine.fifo trim
    rw [fifo] at same
    exact absurd same (List.cons_ne_self g gs)
  · rw [fifo] at h
    obtain ⟨rfl, rfl⟩ := List.cons.inj h
    have trim : c.tryGrant.trim = (c.granted g gs).trim := by rw [e, (report_frame _ _).trim (by simp)]
    refine ⟨by rw [trim]; rfl, ?_⟩
    rw [calibrating, trim]
    exact beq_self_eq_true g

theorem grantOpen_of {c : Controller} (free : c.trim.cal = none) (active : c.link.state = .active)
    (stands : c.rail.state ≠ .engaging ∧ c.rail.state ≠ .disengaging ∧ c.rail.state ≠ .settling) : c.grantOpen = true := by
  obtain ⟨ne1, ne2, ne3⟩ := stands
  rw [grantOpen, free, active]
  cases h : c.rail.state <;> simp_all

/-! ### FAULT (R91, R92, R94, R95) -/

/-- R96: the rail in FAULT. -/
def faultRail (r : Rail) (cause : RailCause) (last : LastStop) : Rail :=
  { r.still with state := .fault, cause := some cause, lastStop := last }

theorem railFault_eq (cause : RailCause) (last : LastStop) : c.railFault cause last =
    (c.railSaid (faultRail c.rail cause last) c.rail.pendingTarget.isSome).tryGrant.trimSync := rfl

theorem railFault_rail (cause : RailCause) (last : LastStop) : (c.railFault cause last).rail = faultRail c.rail cause last := by
  rw [railFault_eq, trimSync_rail, (tryGrant_frame _).rail (by simp), railSaid_rail]

theorem railFault_queued (cause : RailCause) (last : LastStop) (on : c.link.mask.getLsbD 3 = true)
    (room : c.link.queue.length < 64) :
    { time := c.now, report := .railState .fault none (some cause) c.rail.pendingTarget.isSome last false } ∈
      (c.railFault cause last).link.queue :=
  ((tryGrant_keeps (skip := []) _).trans (trimSync_keeps _)).queued
    (c.railSaid_queued (faultRail c.rail cause last) c.rail.pendingTarget.isSome on room) (by simp)

theorem railFault_grants (cause : RailCause) (last : LastStop) {g : Nat} {gs : List Nat} (fifo : c.trim.fifo = g :: gs)
    (free : c.trim.cal = none) (active : c.link.state = .active) :
    (c.railFault cause last).trim.fifo = gs ∧ (c.railFault cause last).calibrating g = true := by
  have trim := c.railSaid_trim (faultRail c.rail cause last) c.rail.pendingTarget.isSome
  have rail := c.railSaid_rail (faultRail c.rail cause last) c.rail.pendingTarget.isSome
  have isOpen : (c.railSaid (faultRail c.rail cause last) c.rail.pendingTarget.isSome).grantOpen = true :=
    grantOpen_of (trim ▸ free) (((c.railSaid_tells _ _).state).trans active) (by rw [rail]; exact ⟨nofun, nofun, nofun⟩)
  exact tryGrant_grants _ (trim ▸ fifo) isOpen

/-! ### WAIT_QUIET (R85, R88) -/

theorem switch_waiting (r : Rail) (t u : Stop) (o : RailOrigin) (rec : Bool) (now : Time) :
    (r.waiting t o rec now).switch u = r.switch u := by cases u <;> rfl

/-- The rail waits, its conditions not yet tested. -/
def railWaited (t : Stop) (o : RailOrigin) (rec : Bool) : Controller := c.railSaid (c.rail.waiting t o rec c.now) false

variable (t : Stop) (o : RailOrigin) (rec : Bool)

theorem railWait_eq : c.railWait t o rec = (c.railWaited t o rec).railTest := rfl

theorem railWaited_rail : (c.railWaited t o rec).rail = c.rail.waiting t o rec c.now := c.railSaid_rail _ _

theorem railWaited_frame : Frame [.rail, .link] c (c.railWaited t o rec) := c.railSaid_frame _ _

theorem railWaited_trim : (c.railWaited t o rec).trim = c.trim := c.railSaid_trim _ _

theorem railWaited_tells : Tells 1 c (c.railWaited t o rec) := c.railSaid_tells _ _

theorem railWait_queued (on : c.link.mask.getLsbD 3 = true) (room : c.link.queue.length < 64) :
    { time := c.now, report := .railState .waitQuiet (some t) none false c.rail.lastStop rec } ∈
      (c.railWait t o rec).link.queue :=
  (railTest_keeps (skip := []) _).queued (c.railSaid_queued (c.rail.waiting t o rec c.now) false on room) (by simp)

theorem railWait_cal : (c.railWait t o rec).trim.cal = c.trim.cal ∧ (c.railWait t o rec).trim.fifo = c.trim.fifo := by
  obtain ⟨cal, fifo⟩ := (c.railWaited t o rec).railTest_cal
  rw [railWait_eq, cal, fifo, railWaited_trim]
  exact ⟨rfl, rfl⟩

theorem railWait_stands (shut : ¬ ((∀ x ∈ c.keys, x.state ∉ [KeyState.shallow, .held, .armed, .struck]) ∧
    c.trim.cal = none)) : c.railWait t o rec = c.railWaited t o rec := by
  refine (c.railWaited t o rec).railTest_stands fun h => shut ?_
  obtain ⟨-, -, isOpen⟩ := h
  rw [motionOpen, Bool.and_eq_true, Bool.and_eq_true, quiet_iff, Option.isNone_iff_eq_none, railWaited_trim,
    (c.railWaited_frame t o rec).keys (by simp)] at isOpen
  exact isOpen.1

section Starts

variable {t o rec} {c} (active : c.link.state = .active)
  (quiet : ∀ x ∈ c.keys, x.state ∉ [KeyState.shallow, .held, .armed, .struck]) (free : c.trim.cal = none)

include active quiet free

theorem railWaited_open : (c.railWaited t o rec).motionOpen = true := by
  rw [motionOpen_iff _ ((c.railWaited_tells t o rec).state.trans active), railWaited_trim,
    (c.railWaited_frame t o rec).keys (by simp)]
  exact ⟨quiet, free⟩

/-- R88: a wait whose conditions hold starts at once, by the switch of its target. -/
theorem railWait_starts : (c.railWait t o rec).rail =
    if (c.rail.switch t).closed then (c.rail.waiting t o rec c.now).settling c.now
    else (c.rail.waiting t o rec c.now).moving t c.now := by
  have now : (c.railWaited t o rec).now = c.now := congrArg StageClock.time ((c.railWaited_frame t o rec).clock (by simp))
  rw [railWait_eq, railTest_rail _ (t := t) (by rw [railWaited_rail]; rfl) (by rw [railWaited_rail]; rfl)
    (railWaited_open active quiet free), startedRail, railWaited_rail, switch_waiting, now]

theorem railWait_started_queued (on : c.link.mask.getLsbD 3 = true) (room : c.link.queue.length < 63) :
    { time := c.now, report := .railState (c.railWait t o rec).rail.state (some t) none false c.rail.lastStop rec } ∈
      (c.railWait t o rec).link.queue := by
  obtain ⟨w, hw⟩ : ∃ w, w = c.railWaited t o rec := ⟨_, rfl⟩
  have rail : w.rail = c.rail.waiting t o rec c.now := hw ▸ c.railWaited_rail t o rec
  have waits : w.rail.state = .waitQuiet := by rw [rail]; rfl
  have target : w.rail.target = some t := by rw [rail]; rfl
  have isOpen : w.motionOpen = true := hw ▸ railWaited_open active quiet free
  have tells : Tells 1 c w := hw ▸ c.railSaid_tells _ _
  have grows := tells.grows
  have said := w.railTest_queued waits target isOpen (by rw [tells.mask]; exact on) (by omega)
  have now : w.now = c.now := by rw [hw]; exact congrArg StageClock.time ((c.railWaited_frame t o rec).clock (by simp))
  rw [← w.railTest_rail waits target isOpen, rail, now] at said
  rw [railWait_eq, ← hw]
  exact said

end Starts

end Controller

/-! ### The switches (R81, R90, R94, R95) -/

namespace Rail

theorem setSwitch_fields (r : Rail) (sw : Stop) (x : Switch) :
    (r.setSwitch sw x).switch sw = x ∧ (r.setSwitch sw x).switch sw.other = r.switch sw.other ∧
    (r.setSwitch sw x).bound = r.bound ∧ (r.setSwitch sw x).place = r.place ∧
    (r.setSwitch sw x).pendingTarget = r.pendingTarget := by
  cases sw <;> exact ⟨rfl, rfl, rfl, rfl, rfl⟩

theorem bound_iff (r : Rail) (sw : Stop) : r.bound = some sw ↔
    (r.state = .engaging ∧ sw = .engaged) ∨ (r.state = .disengaging ∧ sw = .clear) := by
  unfold bound
  cases r.state <;> cases sw <;> simp

theorem place_iff (r : Rail) (sw : Stop) : r.place = some sw ↔ r.state = sw.railState ∨
    (r.state = .settling ∧ r.target = some sw) ∨
    (r.state = .waitQuiet ∧ ∃ o, r.origin = some o ∧ o.state = sw.railState) := by
  unfold place
  cases state : r.state
  case waitQuiet =>
    cases origin : r.origin with
    | none => cases sw <;> simp [Stop.railState]
    | some o =>
      obtain ⟨state, cause⟩ := o
      cases state <;> cases sw <;> simp [Stop.railState]
  all_goals cases sw <;> simp [Stop.railState]

end Rail

namespace Controller

variable (c : Controller)

theorem switchCloses_conflict {sw : Stop} (other : (c.rail.switch sw.other).closed = true) :
    c.switchCloses sw = c.railFault .switchConflict .none := if_pos other

theorem switchCloses_settles {sw : Stop} (other : (c.rail.switch sw.other).closed = false) (bound : c.rail.bound = some sw) :
    c.switchCloses sw = c.railEntered (c.rail.settling c.now) :=
  (if_neg (ne_true_of_eq_false other)).trans (if_pos bound)

theorem switchCloses_alone {sw : Stop} (other : (c.rail.switch sw.other).closed = false) (bound : c.rail.bound ≠ some sw) :
    c.switchCloses sw = c := (if_neg (ne_true_of_eq_false other)).trans (if_neg bound)

/-- The debounced state of a switch taken over. -/
def switched (sw : Stop) : Controller :=
  c.setRail (c.rail.setSwitch sw { c.rail.switch sw with closed := !(c.rail.switch sw).closed, run := 0 })

theorem switchChange_closes {sw : Stop} (span : (c.rail.switch sw).run = 96) (closes : (c.rail.switch sw).closed = false) :
    c.switchChange sw = (c.switched sw).switchCloses sw := (if_pos span).trans (if_neg (ne_true_of_eq_false closes))

theorem switchChange_opens {sw : Stop} (span : (c.rail.switch sw).run = 96) (opens : (c.rail.switch sw).closed = true) :
    c.switchChange sw = (c.switched sw).switchOpens sw := (if_pos span).trans (if_pos opens)

end Controller

/-- Settles O39: the switch taken over, then what its closing or opening makes of the rail. -/
theorem switchesAndOverLimit : Obligations.SwitchesAndOverLimit := by
  refine ⟨?switch, fun set s run => ⟨fun same => ?_, fun differs => ?_⟩⟩
  case switch =>
    intro sw s run span old rl closes endsMotion standsAt still reported faults
    obtain ⟨-, other, bound, place, pending⟩ := old.setSwitch_fields sw { old.switch sw with closed := !(old.switch sw).closed, run := 0 }
    obtain ⟨c1, hc1⟩ : ∃ c1, c1 = s.ctl.switched sw := ⟨_, rfl⟩
    have rail1 : c1.rail = rl := by rw [hc1]; rfl
    have f1 : Controller.Frame [.rail] s.ctl c1 := hc1 ▸ s.ctl.setRail_frame rl
    have link1 : c1.link = s.ctl.link := f1.link (by simp)
    have now1 : c1.now = s.ctl.now := congrArg StageClock.time (f1.clock (by simp))
    have leaves {c : Controller} (h : s.ctl.switchChange sw = c) : Leaves (.switchChange sw) s c :=
      .of_run (by rw [exec, execSwitchChange]) run h
    have ends_iff : c1.rail.bound = some sw ↔ endsMotion := by rw [rail1, bound]; exact old.bound_iff sw
    have stands_iff : c1.rail.place = some sw ↔ standsAt := by rw [rail1, place]; exact old.place_iff sw
    have other1 : c1.rail.switch sw.other = old.switch sw.other := by rw [rail1, other]
    have fails {cause : RailCause} (h : s.ctl.switchChange sw = c1.railFault cause .none) : faults cause := by
      refine ⟨_, leaves h, (f1.widen (by simp)).trans ((c1.railFault_frame cause .none).widen (by simp)), ?_, fun on room => ?_⟩
      · rw [c1.railFault_rail, rail1]
        rfl
      · have said := c1.railFault_queued cause .none (by rw [link1]; exact on) (by rw [link1]; exact room)
        rw [now1, rail1, pending] at said
        exact said
    refine ⟨fun closing shut => ?_, fun closing free ends => ?_, fun closing free stays => ?_, fun opening stands => ?_,
      fun opening away => ?_⟩
    · refine fails ?_
      rw [s.ctl.switchChange_closes span closing, ← hc1]
      exact c1.switchCloses_conflict (by rw [other1]; exact shut)
    · have settles := c1.switchCloses_settles (by rw [other1]; exact free) (ends_iff.2 ends)
      refine ⟨_, leaves (by rw [s.ctl.switchChange_closes span closing, ← hc1, settles]),
        (f1.widen (by simp)).trans (c1.railEntered_frame _), ?_, fun on room => ?_⟩
      · rw [c1.railEntered_rail, rail1, now1]
        rfl
      · have said := c1.railEntered_queued (c1.rail.settling c1.now) (by rw [link1]; exact on) (by rw [link1]; exact room)
        have fields : (rl.target, rl.cause, rl.lastStop, rl.recovery) = (old.target, old.cause, old.lastStop, old.recovery) := by
          cases sw <;> rfl
        simp only [Prod.mk.injEq] at fields
        obtain ⟨target, cause, lastStop, recovery⟩ := fields
        rw [← target, ← cause, ← lastStop, ← recovery, ← now1, ← rail1]
        exact said
    · refine leaves ?_
      rw [s.ctl.switchChange_closes span closing, ← hc1,
        c1.switchCloses_alone (by rw [other1]; exact free) (mt ends_iff.1 stays), hc1]
      rfl
    · refine fails ?_
      rw [s.ctl.switchChange_opens span (Bool.not_eq_false _ ▸ opening), ← hc1]
      exact if_pos (stands_iff.2 stands)
    · refine leaves ?_
      rw [s.ctl.switchChange_opens span (Bool.not_eq_false _ ▸ opening), ← hc1]
      exact (if_neg (mt stands_iff.1 away)).trans hc1
  · have rule : s.ctl.overLimitChange set = s.ctl := if_pos same
    exact .of_run (by rw [exec, execOverLimitChange]) run rule
  · have runs : (set && s.ctl.motorRunning) = true ↔ set = true ∧ s.ctl.rail.motor ≠ .off := by
      rw [Controller.motorRunning, Bool.and_eq_true, bne_iff_ne]
    have rule : s.ctl.overLimitChange set = s.ctl.setRail
        { s.ctl.rail with
          overLimit := set
          stallTimer := if set = true ∧ s.ctl.rail.motor ≠ .off then some (s.ctl.now + 200000#32) else none } := by
      rw [← if_congr runs rfl rfl]
      exact if_neg differs
    exact .of_run (by rw [exec, execOverLimitChange]) run rule

end Sys2Proof.Machine
end

section
/-! The timers of the rail (R89, R91 to R93) and its requests (R85 to R87, R97). -/

namespace Sys2Proof.Machine

namespace Controller

variable (c : Controller)

/-! ### A wait, whatever its conditions -/

theorem railWait_cases (t : Stop) (o : RailOrigin) (rec : Bool) :
    (c.railWait t o rec).rail = c.rail.waiting t o rec c.now ∨
    (c.railWait t o rec).rail = (c.rail.waiting t o rec c.now).settling c.now ∨
    (c.railWait t o rec).rail = (c.rail.waiting t o rec c.now).moving t c.now := by
  have now : (c.railWaited t o rec).now = c.now := congrArg StageClock.time ((c.railWaited_frame t o rec).clock (by simp))
  by_cases isOpen : (c.railWaited t o rec).motionOpen = true
  · right
    rw [railWait_eq, railTest_rail _ (t := t) (by rw [railWaited_rail]; rfl) (by rw [railWaited_rail]; rfl) isOpen, startedRail,
      railWaited_rail, now]
    split
    · exact .inl rfl
    · exact .inr rfl
  · left
    rw [railWait_eq, railTest_stands _ (fun h => isOpen h.2.2), railWaited_rail]

theorem railWait_target (t : Stop) (o : RailOrigin) (rec : Bool) : (c.railWait t o rec).rail.target = some t ∧
    (c.railWait t o rec).rail.recovery = rec ∧ (c.railWait t o rec).rail.pendingTarget = none ∧
    (c.railWait t o rec).rail.cause = none := by
  obtain e | e | e := c.railWait_cases t o rec <;> rw [e] <;> exact ⟨rfl, rfl, rfl, rfl⟩

theorem railWait_kept (t : Stop) (o : RailOrigin) (rec : Bool) : (c.railWait t o rec).rail.lastStop = c.rail.lastStop ∧
    (c.railWait t o rec).rail.overLimit = c.rail.overLimit ∧ (c.railWait t o rec).rail.clearSwitch = c.rail.clearSwitch ∧
    (c.railWait t o rec).rail.engagedSwitch = c.rail.engagedSwitch := by
  obtain e | e | e := c.railWait_cases t o rec <;> rw [e] <;> exact ⟨rfl, rfl, rfl, rfl⟩

/-! ### The placing (R93) -/

def placedRail (r : Rail) (t : Stop) : Rail := { r.still with state := t.railState, cause := none, lastStop := t.lastStop }

/-- The rail at its stop, with its report and the grant tried. -/
def railAt (t : Stop) : Controller := (c.railSaid (placedRail c.rail t) false).tryGrant

theorem railAt_frame (t : Stop) : Frame [.rail, .trim, .link] c (c.railAt t) :=
  ((c.railSaid_frame _ _).widen (by simp)).trans ((tryGrant_frame _).widen (by simp))

theorem railAt_rail (t : Stop) : (c.railAt t).rail = placedRail c.rail t := by
  rw [railAt, (tryGrant_frame _).rail (by simp), railSaid_rail]

theorem railAt_tells (t : Stop) : Tells 2 c (c.railAt t) := (c.railSaid_tells _ _).trans (tryGrant_tells _)

theorem railAt_queued (t : Stop) (on : c.link.mask.getLsbD 3 = true) (room : c.link.queue.length < 64) :
    { time := c.now, report := .railState t.railState none none false t.lastStop false } ∈ (c.railAt t).link.queue :=
  (tryGrant_keeps (skip := []) _).queued (c.railSaid_queued (placedRail c.rail t) false on room) (by simp)

theorem railAt_grants (t : Stop) {g : Nat} {gs : List Nat} (fifo : c.trim.fifo = g :: gs) (free : c.trim.cal = none)
    (active : c.link.state = .active) : (c.railAt t).trim.fifo = gs ∧ (c.railAt t).calibrating g = true := by
  have trim := c.railSaid_trim (placedRail c.rail t) false
  have rail := c.railSaid_rail (placedRail c.rail t) false
  have isOpen : (c.railSaid (placedRail c.rail t) false).grantOpen = true :=
    grantOpen_of (trim ▸ free) (((c.railSaid_tells _ _).state).trans active) (by
      rw [rail]
      cases t <;> exact ⟨nofun, nofun, nofun⟩)
  exact tryGrant_grants _ (trim ▸ fifo) isOpen

theorem railPlaced_alone {t : Stop} (h : c.rail.pendingTarget = none) : c.railPlaced t = (c.railAt t).trimSync := by
  rw [railPlaced, h]
  rfl

theorem railPlaced_next {t p : Stop} (h : c.rail.pendingTarget = some p) : c.railPlaced t =
    ((c.railAt t).railWait p { state := t.railState, cause := none } false).trimSync := by
  rw [railPlaced, h]
  rfl

/-! ### The timers -/

theorem railAbandoned_due {o : RailOrigin} (waits : c.rail.state = .waitQuiet) (origin : c.rail.origin = some o)
    (due : c.expired c.rail.quietTimer = true) : c.railAbandoned =
      (c.setRail { c.rail.still with state := o.state, cause := o.cause }).report
        (.railAbandoned c.rail.target o.state o.cause) := by
  rw [railAbandoned, waits, origin]
  exact if_pos due

theorem settleExpiry_due {t : Stop} (settles : c.rail.state = .settling) (target : c.rail.target = some t)
    (due : c.expired c.rail.settleTimer = true) : c.settleExpiry =
      if (c.rail.switch t.other).closed then c.railFault .switchConflict .none else c.railPlaced t := by
  rw [settleExpiry, settles, target]
  exact if_pos due

end Controller

/-- Settles O38: each expiry by the state it leaves. -/
theorem railTimers : Obligations.RailTimers := by
  intro s run awake rl due still granted faults
  have due_iff {t : Option Time} (h : due t) : s.ctl.expired t = true := by
    obtain ⟨d, timer, now⟩ := h
    exact Controller.expired_of_due awake timer now
  have runs (h : rl.motor ≠ .off) : s.ctl.motorRunning = true := bne_iff_ne.2 h
  have fails {i : Instr} {f : Controller → Controller} {cause : RailCause} {last : LastStop} (e : exec i s = s.run f)
      (h : f s.ctl = s.ctl.railFault cause last) : faults i cause last :=
    ⟨_, .of_run e run h, (s.ctl.railFault_frame cause last).widen (by simp), s.ctl.railFault_rail cause last,
      fun _ _ fifo free active => s.ctl.railFault_grants cause last fifo free active, s.ctl.railFault_queued cause last⟩
  refine ⟨fun o waits origin now => ?_, fun motor now => ?_, fun motor now => ?_, fun t settles target now shut => ?_,
    fun t settles target now free => ?_⟩
  · exact .of_run (by rw [exec, execRailAbandoned]) run (s.ctl.railAbandoned_due waits origin (due_iff now))
  · have rule : s.ctl.travelTimeout = s.ctl.railFault .travelTimeout rl.lastStop := if_pos ⟨runs motor, due_iff now⟩
    exact fails (by rw [exec, execTravelTimeout]) rule
  · have rule : s.ctl.stall = s.ctl.railFault .stall rl.lastStop := if_pos ⟨runs motor, due_iff now⟩
    exact fails (by rw [exec, execStall]) rule
  · exact fails (by rw [exec, execSettleExpiry]) ((s.ctl.settleExpiry_due settles target (due_iff now)).trans (if_pos shut))
  · obtain ⟨p1, hp1⟩ : ∃ p1, p1 = s.ctl.railAt t := ⟨_, rfl⟩
    have rail1 : p1.rail = Controller.placedRail rl t := hp1 ▸ s.ctl.railAt_rail t
    have f1 : Controller.Frame [.rail, .trim, .link] s.ctl p1 := hp1 ▸ s.ctl.railAt_frame t
    have now1 : p1.now = s.ctl.now := congrArg StageClock.time (f1.clock (by simp))
    have tells : Controller.Tells 2 s.ctl p1 := hp1 ▸ s.ctl.railAt_tells t
    have grants1 : granted p1 := fun g gs fifo free active => hp1 ▸ s.ctl.railAt_grants t fifo free active
    have leaves {c : Controller} (h : s.ctl.railPlaced t = c) : Leaves .settleExpiry s c :=
      .of_run (by rw [exec, execSettleExpiry]) run
        ((s.ctl.settleExpiry_due settles target (due_iff now)).trans ((if_neg (ne_true_of_eq_false free)).trans h))
    have said := s.ctl.railAt_queued t
    rw [← hp1] at said
    cases pending : rl.pendingTarget with
    | none =>
      refine ⟨p1.trimSync, leaves (by rw [s.ctl.railPlaced_alone pending, hp1]), f1.trans ((Controller.trimSync_frame _).widen (by simp)),
        grants1, ?_, ?_, ?_, fun _ => rail1, nofun, said⟩
      · rw [Controller.trimSync_rail, rail1]
        rfl
      · rw [Controller.trimSync_rail, rail1]
        rfl
      · rw [Controller.trimSync_rail, rail1]
        rfl
    | some p =>
      obtain ⟨o, ho⟩ : ∃ o : RailOrigin, o = { state := t.railState, cause := none } := ⟨_, rfl⟩
      obtain ⟨cal, fifo⟩ := p1.railWait_cal p o false
      obtain ⟨lastStop, -, clear, engaged⟩ := p1.railWait_kept p o false
      obtain ⟨aims, -, alone, -⟩ := p1.railWait_target p o false
      have waited := p1.railWait_queued p o false
      rw [rail1, now1] at waited
      rw [rail1] at lastStop clear engaged
      refine ⟨(p1.railWait p o false).trimSync, leaves (by rw [s.ctl.railPlaced_next pending, hp1, ho]),
        f1.trans (((p1.railWait_frame p o false).widen (by simp)).trans ((Controller.trimSync_frame _).widen (by simp))),
        fun g gs waits free active => ?_, lastStop, clear, engaged, nofun, fun q hq => ?_, fun on room => ?_⟩
      · obtain ⟨rest, busy⟩ := grants1 g gs waits free active
        refine ⟨fifo.trans rest, ?_⟩
        rw [Controller.calibrating] at busy ⊢
        show (match (p1.railWait p o false).trim.cal with | some cal => cal.group == g | none => false) = true
        rw [cal]
        exact busy
      · obtain rfl := Option.some.inj hq
        refine ⟨aims, alone, fun busy => ?_, fun free active quiet => ?_, fun on room => ?_⟩
        · have stands := p1.railWait_stands p o false fun h => busy (cal.trans h.2)
          rw [Controller.trimSync_rail, stands, Controller.railWaited_rail, now1, ho]
          exact ⟨rfl, rfl, rfl⟩
        · have free1 : p1.trim.cal = none := cal.symm.trans free
          have active1 : p1.link.state = .active := tells.state.trans active
          have quiet1 : ∀ x ∈ p1.keys, x.state ∉ [KeyState.shallow, .held, .armed, .struck] := by
            rw [f1.keys (by simp)]
            exact quiet
          have starts := Controller.railWait_starts (t := p) (o := o) (rec := false) active1 quiet1 free1
          have same : p1.rail.switch p = rl.switch p := by
            rw [rail1]
            cases p <;> rfl
          rw [same] at starts
          refine ⟨?_, ?_, fun on room => ?_⟩
          · rw [Controller.trimSync_rail, starts]
            split <;> rfl
          · rw [Controller.trimSync_rail, starts, apply_ite Rail.state]
            rfl
          · have grows := tells.grows
            have began := Controller.railWait_started_queued (t := p) (o := o) (rec := false) active1 quiet1 free1
              (by rw [tells.mask]; exact on) (by omega)
            rw [now1, rail1] at began
            exact began
        · have grows := tells.grows
          exact waited (by rw [tells.mask]; exact on) (by omega)
      · have known : o.state = .clear ∨ o.state = .engaged ∨ o.state = .unplaced ∨ o.state = .fault := by
          rw [ho]
          cases t <;> simp [Stop.railState]
        exact (Controller.railWait_keeps (skip := []) _ _ _ known).queued (said on room) (by simp)

/-! ### RAIL_SET and RAIL_RECOVER -/

theorem stopOf_code (t : Stop) : stopOf t.code = some t := by cases t <;> rfl

theorem stopOf_unknown {n : Nat} (h : 1 < n) : stopOf n = none := by
  obtain ⟨n, rfl⟩ := Nat.exists_eq_add_of_lt h
  rw [show 1 + n + 1 = n + 2 by omega]
  rfl

theorem railSet_of {c c' : Controller} {t : Stop} {code : ResultCode} (h : railOutcome c t = (code, c')) :
    railSet t.code c = (c', { code := code, fields := railFields c' }) := by
  rw [railSet, stopOf_code]
  dsimp only
  rw [h]

section Outcome

variable {c : Controller} {t : Stop}

theorem railOutcome_failed (h : c.rail.state = .fault ∨ c.rail.state = .unplaced) : railOutcome c t = (.badState, c) := by
  rcases h with h | h <;> rw [railOutcome, h]

theorem railOutcome_there (h : c.rail.state = t.railState) : railOutcome c t = (.already, c) := by
  cases t <;> (rw [railOutcome, h]; rfl)

theorem railOutcome_opposite (h : c.rail.state = t.other.railState) :
    railOutcome c t = (.accepted, c.railWait t { state := c.rail.state, cause := none } false) := by
  cases t <;> (rw [railOutcome, h]; rfl)

theorem railOutcome_waits (h : c.rail.state = .waitQuiet) (same : c.rail.target = some t) : railOutcome c t = (.already, c) := by
  rw [railOutcome, h]
  exact if_pos same

theorem railOutcome_recovers (h : c.rail.state = .waitQuiet) (other : c.rail.target ≠ some t) (rec : c.rail.recovery = true) :
    railOutcome c t = (.badState, c) := by
  rw [railOutcome, h]
  exact (if_neg other).trans (if_pos rec)

theorem railOutcome_cancels (h : c.rail.state = .waitQuiet) (other : c.rail.target ≠ some t) (rec : c.rail.recovery = false)
    {o : RailOrigin} (origin : c.rail.origin = some o) : railOutcome c t =
      (.ok, (c.setRail { c.rail.still with state := o.state, cause := o.cause }).report (.railCancelled o.state c.rail.target)) := by
  have cancel : c.railCancel =
      (c.setRail { c.rail.still with state := o.state, cause := o.cause }).report (.railCancelled o.state c.rail.target) := by
    rw [Controller.railCancel, origin]
  rw [railOutcome, h, ← cancel]
  exact (if_neg other).trans (if_neg (ne_true_of_eq_false rec))

variable (moves : c.rail.state = .engaging ∨ c.rail.state = .disengaging ∨ c.rail.state = .settling)

include moves

theorem railOutcome_underWay (same : c.rail.target = some t) (alone : c.rail.pendingTarget = none) :
    railOutcome c t = (.already, c) := by
  rcases moves with h | h | h <;> (rw [railOutcome, h]; dsimp only; rw [if_pos same, alone])

theorem railOutcome_drops (same : c.rail.target = some t) {p : Stop} (pending : c.rail.pendingTarget = some p) :
    railOutcome c t =
      (.ok, (c.setRail { c.rail with pendingTarget := none }).report
        (.railCancelled c.rail.state (some p))) := by
  rcases moves with h | h | h <;> (rw [railOutcome, h]; dsimp only; rw [if_pos same, pending])

theorem railOutcome_defers (other : c.rail.target ≠ some t) (alone : c.rail.pendingTarget = none) :
    railOutcome c t = (.accepted, c.setRail { c.rail with pendingTarget := some t }) := by
  rcases moves with h | h | h <;> (rw [railOutcome, h]; dsimp only; rw [if_neg other, alone])

theorem railOutcome_deferred (other : c.rail.target ≠ some t) (pending : c.rail.pendingTarget ≠ none) :
    railOutcome c t = (.already, c) := by
  obtain ⟨p, pending⟩ := Option.ne_none_iff_exists'.1 pending
  rcases moves with h | h | h <;> (rw [railOutcome, h]; dsimp only; rw [if_neg other, pending])

end Outcome

/-- R97: a recovery at the closed clear switch settles at once. -/
def Rail.recovered (r : Rail) (now : Time) : Rail :=
  Rail.settling { r.still with target := some .clear, recovery := true, cause := none } now

/-- R97: an accepted RAIL_RECOVER shows the state that it leaves. -/
def recovering (c : Controller) : Controller × Answer := (c, { code := .accepted, fields := railStateField c })

section Recover

variable {c : Controller}

theorem railRecover_bad (h : ¬ (c.rail.state = .fault ∨ c.rail.state = .unplaced)) :
    railRecover c = (c, { code := .badState, fields := railStateField c }) := if_pos (not_or.1 h)

variable (h : c.rail.state = .fault ∨ c.rail.state = .unplaced)

include h

theorem railRecover_settles (closed : c.rail.clearSwitch.closed = true) (away : c.rail.engagedSwitch.closed = false)
    (free : c.trim.cal = none) : railRecover c = recovering (c.railEntered (c.rail.recovered c.now)) := by
  have all : (c.rail.clearSwitch.closed && !c.rail.engagedSwitch.closed && c.trim.cal.isNone) = true := by
    rw [closed, away, free]
    rfl
  exact (if_neg (not_and_or.2 (h.imp not_not.2 not_not.2))).trans (if_pos all)

theorem railRecover_waits (shut : ¬ (c.rail.clearSwitch.closed = true ∧ c.rail.engagedSwitch.closed = false ∧
    c.trim.cal = none)) :
    railRecover c = recovering (c.railWait .clear { state := c.rail.state, cause := c.rail.cause } true) := by
  have not_all : ¬ (c.rail.clearSwitch.closed && !c.rail.engagedSwitch.closed && c.trim.cal.isNone) = true := by
    rw [Bool.and_eq_true, Bool.and_eq_true, Bool.not_eq_true', Option.isNone_iff_eq_none, and_assoc]
    exact shut
  exact (if_neg (not_and_or.2 (h.imp not_not.2 not_not.2))).trans (if_neg not_all)

end Recover

/-- Settles O37: RAIL_SET by the table of R85 to R87, and RAIL_RECOVER. -/
theorem railRequests : Obligations.RailRequests := by
  intro tag s sv c now rl fields quiet none' reported waits moving failed
  have active : c.link.state = .active := (Controller.closeWindow_link s.ctl) ▸ sv.2
  have waited (t : Stop) (o : RailOrigin) (rec : Bool) : waits t o rec (c.railWait t o rec) := by
    obtain ⟨target, recovery, pending, cause⟩ := c.railWait_target t o rec
    obtain ⟨lastStop, overLimit, clear, engaged⟩ := c.railWait_kept t o rec
    refine ⟨fun on room => c.railWait_queued t o rec on (by omega),
      fun calm free on room => Controller.railWait_started_queued active calm free on (by omega), target, recovery, pending,
      cause, lastStop, overLimit, clear, engaged, fun shut => ?_, fun calm free closed => ?_, fun calm free away => ?_⟩
    · rw [c.railWait_stands t o rec shut, Controller.railWaited_rail]
      exact ⟨rfl, rfl, rfl, rfl⟩
    · rw [Controller.railWait_starts active calm free, if_pos closed]
      exact ⟨rfl, rfl, rfl, rfl⟩
    · rw [Controller.railWait_starts active calm free, if_neg (ne_true_of_eq_false away)]
      exact ⟨rfl, rfl, rfl, rfl⟩
  refine ⟨fun n big => ?unknown, fun t => ?set, fun working => ?working, fun failing => ?recover⟩
  case unknown =>
    have rule : railSet n c = (c, { code := .badValue, fields := railFields c }) := by rw [railSet, stopOf_unknown big]
    exact .of_rule rfl sv rule rfl rfl
  case set =>
    intro replies
    have answers {c' : Controller} {code : ResultCode} (h : railOutcome c t = (code, c')) : replies c' code :=
      .of_rule rfl sv (railSet_of h) rfl rfl
    refine ⟨fun h => answers (railOutcome_failed h), fun h => answers (railOutcome_there h), fun h => ?_,
      fun h same => answers (railOutcome_waits h same), fun h other rec => answers (railOutcome_recovers h other rec),
      fun o h other rec origin => ?cancels,
      fun h same alone => answers (railOutcome_underWay h same alone),
      fun p h same pending => answers (railOutcome_drops h same pending),
      fun h other alone => answers (railOutcome_defers h other alone),
      fun h other pending => answers (railOutcome_deferred h other pending)⟩
    case cancels =>
      intro cancelled
      have same : cancelled = { rl.still with state := o.state, cause := o.cause } := by
        simp only [cancelled, Rail.still, rec]
      rw [same]
      exact answers (railOutcome_cancels h other rec origin)
    exact ⟨_, answers (railOutcome_opposite h), (c.railWait_frame t _ false).widen (by simp), waited t _ false⟩
  case working => exact .of_rule rfl sv (railRecover_bad working) rfl rfl
  case recover =>
    by_cases settles : rl.clearSwitch.closed = true ∧ rl.engagedSwitch.closed = false ∧ c.trim.cal = none
    · obtain ⟨closed, away, free⟩ := settles
      refine ⟨_, .of_rule rfl sv (railRecover_settles failing closed away free) rfl rfl, c.railEntered_frame _,
        fun _ _ _ => ?_, fun shut => absurd ⟨closed, away, free⟩ shut⟩
      rw [c.railEntered_rail]
      exact ⟨rfl, rfl, rfl, rfl, rfl, rfl, fun on room => c.railEntered_queued (rl.recovered now) on (by omega)⟩
    · refine ⟨_, .of_rule rfl sv (railRecover_waits failing settles) rfl rfl, (c.railWait_frame _ _ _).widen (by simp),
        fun closed away free => absurd ⟨closed, away, free⟩ settles, fun _ => waited .clear _ true⟩

end Sys2Proof.Machine
end

section
/-! The machine: its step, the held reset, the commands that answer, and the events that are not due (R1, R207). -/

namespace Sys2Proof.Machine

/-! ### How a command is run -/

/-- A command that faults, with the fault that names what does not exist. -/
def Unanswered (i : Instr) (e : Fault) : Prop :=
  i.wf = false ∧
    match e with
    | .noSuchKey => ∃ k, (k < 1 ∨ 88 < k) ∧ (i = .silentPress k ∨ i = .keyFault k ∨ i = .keyClear k ∨
        ∃ raw, i = .keySample k raw ∨ i = .wakeCheck k raw)
    | .noSuchGroup => ∃ g, 10 < g ∧ i = .roundExpiry g
    | .noSuchPedal => ∃ p, 2 < p ∧ (i = .pedalFault p ∨ i = .pedalClear p ∨ ∃ raw, i = .pedalSample p raw)
    | .noSuchVoice => ∃ v, 63 < v ∧ i = .voiceEnd v
    | .noSuchReading => ∃ n raw, 4095 < raw ∧ (i = .keySample n raw ∨ i = .wakeCheck n raw ∨ i = .pedalSample n raw)

/-- A command is run on every state, or it faults on every state. -/
def Settled (i : Instr) : Prop := (∃ f, ∀ s, exec i s = s.run f) ∨ ∃ e, Unanswered i e ∧ ∀ s, exec i s = .fault e

theorem wfKey_eq_false {k : Nat} (h : ¬ (1 ≤ k ∧ k ≤ 88)) : wfKey k = false := decide_eq_false h

theorem wfRaw_eq_false {raw : Nat} (h : ¬ raw < 4096) : wfRaw raw = false := decide_eq_false h

/-- A command of a key that does not exist faults (R8). -/
theorem settled_of_key {i : Instr} {k : Nat} {f : Controller → Controller} (e : ∀ s, exec i s = s.runKey k f)
    (wf : ¬ (1 ≤ k ∧ k ≤ 88) → i.wf = false)
    (name : i = .silentPress k ∨ i = .keyFault k ∨ i = .keyClear k ∨ ∃ raw, i = .keySample k raw ∨ i = .wakeCheck k raw) :
    Settled i := by
  by_cases hk : 1 ≤ k ∧ k ≤ 88
  · exact .inl ⟨f, fun s => (e s).trans (if_pos hk)⟩
  · exact .inr ⟨.noSuchKey, ⟨wf hk, k, by omega, name⟩, fun s => (e s).trans (if_neg hk)⟩

theorem settled_of_pedal {i : Instr} {p : Nat} {f : Controller → Controller} (e : ∀ s, exec i s = s.runPedal p f)
    (wf : ¬ p < 3 → i.wf = false) (name : i = .pedalFault p ∨ i = .pedalClear p ∨ ∃ raw, i = .pedalSample p raw) :
    Settled i := by
  by_cases hp : p < 3
  · exact .inl ⟨f, fun s => (e s).trans (if_pos hp)⟩
  · exact .inr ⟨.noSuchPedal, ⟨wf hp, p, by omega, name⟩, fun s => (e s).trans (if_neg hp)⟩

/-- A sample of a reading that does not exist faults (R3, R64). -/
theorem settled_of_reading {i : Instr} {n raw : Nat} {r : State → Result} (e : ∀ s, exec i s = runReading raw (r s))
    (wf : ¬ raw < 4096 → i.wf = false) (name : i = .keySample n raw ∨ i = .wakeCheck n raw ∨ i = .pedalSample n raw)
    (rest : (∀ s, exec i s = r s) → Settled i) : Settled i := by
  by_cases hraw : raw < 4096
  · exact rest fun s => (e s).trans (if_pos hraw)
  · exact .inr ⟨.noSuchReading, ⟨wf hraw, n, raw, by omega, name⟩, fun s => (e s).trans (if_neg hraw)⟩

theorem settled_of_length {i : Instr} {p : Prop} [Decidable p] {f g : Controller → Controller}
    (e : ∀ s, exec i s = if p then s.run f else s.run g) : Settled i := by
  by_cases h : p
  · exact .inl ⟨f, fun s => (e s).trans (if_pos h)⟩
  · exact .inl ⟨g, fun s => (e s).trans (if_neg h)⟩

/-- R207: the controller held in power-on reset, its line silent. -/
def Controller.heldInReset (c : Controller) : Controller := { c with inReset := true, link := { c.link with line := none } }

/-- Every command but the power-on reset is run or faults. -/
theorem settled {i : Instr} (h : ∀ a b, i ≠ .powerOnReset a b) : Settled i := by
  cases i with
  | powerOnReset a b => exact absurd rfl (h a b)
  | keySample k raw =>
    exact settled_of_reading (fun _ => rfl) (fun bad => by simp [Instr.wf, wfRaw_eq_false bad]) (.inl rfl) fun e =>
      settled_of_key e (fun bad => by simp [Instr.wf, wfKey_eq_false bad]) (.inr (.inr (.inr ⟨raw, .inl rfl⟩)))
  | wakeCheck k raw =>
    exact settled_of_reading (fun _ => rfl) (fun bad => by simp [Instr.wf, wfRaw_eq_false bad]) (.inr (.inl rfl)) fun e =>
      settled_of_key e (fun bad => by simp [Instr.wf, wfKey_eq_false bad]) (.inr (.inr (.inr ⟨raw, .inr rfl⟩)))
  | pedalSample p raw =>
    exact settled_of_reading (fun _ => rfl) (fun bad => by simp [Instr.wf, wfRaw_eq_false bad]) (.inr (.inr rfl)) fun e =>
      settled_of_pedal e (fun bad => by simp [Instr.wf, bad]) (.inr (.inr ⟨raw, rfl⟩))
  | silentPress k => exact settled_of_key (fun _ => rfl) wfKey_eq_false (.inl rfl)
  | keyFault k => exact settled_of_key (fun _ => rfl) wfKey_eq_false (.inr (.inl rfl))
  | keyClear k => exact settled_of_key (fun _ => rfl) wfKey_eq_false (.inr (.inr (.inl rfl)))
  | pedalFault p => exact settled_of_pedal (fun _ => rfl) (fun bad => decide_eq_false bad) (.inl rfl)
  | pedalClear p => exact settled_of_pedal (fun _ => rfl) (fun bad => decide_eq_false bad) (.inr (.inl rfl))
  | roundExpiry g =>
    by_cases hg : g < 11
    · exact .inl ⟨_, fun s => if_pos hg⟩
    · exact .inr ⟨.noSuchGroup, ⟨decide_eq_false hg, g, by omega, rfl⟩, fun s => if_neg hg⟩
  | voiceEnd v =>
    by_cases hv : v < 64
    · exact .inl ⟨_, fun s => if_pos hv⟩
    · exact .inr ⟨.noSuchVoice, ⟨decide_eq_false hv, v, by omega, rfl⟩, fun s => if_neg hv⟩
  | softReset a b => exact .inl ⟨fun c => if c.link.resetDue then c.softReset a b else c, fun _ => rfl⟩
  | resetnLow => exact .inl ⟨Controller.heldInReset, fun _ => rfl⟩
  | curveLoad | decayLoad | takeData => exact settled_of_length fun _ => rfl
  | _ => exact .inl ⟨_, fun _ => rfl⟩

/-- A command whose operands fit is run. -/
theorem runs_of_wf {i : Instr} (wf : i.wf = true) (h : ∀ a b, i ≠ .powerOnReset a b) : ∃ f, ∀ s, exec i s = s.run f := by
  obtain runs | ⟨e, bad, -⟩ := settled h
  · exact runs
  · exact absurd bad.1 (by simp [wf])

/-- Settles O1: the queue's front is run, and an empty queue idles. -/
theorem stepTakesFrontOrIdles : Obligations.StepTakesFrontOrIdles := by
  refine ⟨fun i s => rfl, fun s empty => ⟨fun held => ?_, fun run due => ?_, fun run none asleep => ?_, fun run none awake => ?_⟩⟩
  · rw [step, empty, idle, if_pos held]
  · rw [step, empty, idle, if_neg (ne_true_of_eq_false run), if_neg (by simpa using due)]
  · rw [step, empty, idle, if_neg (ne_true_of_eq_false run), none]
    show Host.Outcome.next { s with ctl := s.ctl.tick } = _
    rw [Controller.tick, if_pos asleep]
  · rw [step, empty, idle, if_neg (ne_true_of_eq_false run), none]
    show Host.Outcome.next { s with ctl := s.ctl.tick } = _
    rw [Controller.tick, if_neg (ne_true_of_eq_false awake)]
    rfl

/-- Settles O2. -/
theorem heldResetIgnoresCommands : Obligations.HeldResetIgnoresCommands := by
  refine ⟨fun s run => .of_run (f := Controller.heldInReset) rfl run rfl, fun i s held wf other => ?_⟩
  obtain ⟨f, runs⟩ := runs_of_wf wf other
  rw [runs, State.run_held held]

/-- Settles O3: every command but the power-on reset is run or faults. -/
theorem wellFormedCommandsAnswer : Obligations.WellFormedCommandsAnswer := by
  refine ⟨fun i s wf => ?_, fun i s e h => ?_⟩
  · by_cases reset : ∃ a b, i = .powerOnReset a b
    · obtain ⟨a, b, rfl⟩ := reset
      exact ⟨_, rfl, rfl⟩
    · obtain ⟨f, runs⟩ := runs_of_wf wf fun a b e => reset ⟨a, b, e⟩
      rw [runs]
      exact s.run_next f
  · have other : ∀ a b, i ≠ .powerOnReset a b := fun a b reset => by
      subst reset
      cases h
    obtain ⟨f, runs⟩ | ⟨e', bad, faults⟩ := settled other
    · obtain ⟨t, next, -⟩ := s.run_next f
      rw [runs, next] at h
      cases h
    · rw [faults] at h
      obtain rfl := Host.Outcome.fault.inj h
      exact bad

/-! ### The events that are due -/

namespace Controller

variable {c : Controller}

theorem mem_dueIf {due : Bool} {i : Instr} (h : due = true) : i ∈ dueIf due i := by
  rw [dueIf, if_pos h]
  exact List.mem_singleton_self i

theorem mem_dueEvents (i : Instr) : i ∈ c.dueEvents ↔
    (∃ k ∈ allKeys, i ∈ c.keyDue k) ∨ (∃ g ∈ List.range 11, i ∈ dueIf (c.expired (c.roundTimer g)) (.roundExpiry g)) ∨
    i ∈ dueIf c.calDue .calComplete ∨ i ∈ dueIf (c.expired c.pedals.hold) .sostenutoOn ∨
    (∃ p ∈ List.range 3, i ∈ c.pedalDue p) ∨ i ∈ c.railDue ∨ (∃ v ∈ List.range 64, i ∈ c.voiceDue v) ∨
    i ∈ dueIf c.recLimitDue .recTimeLimit ∨ i ∈ dueIf c.playDue .dueTimerExpiry ∨ i ∈ dueIf c.rampDue .rampEnd ∨
    i ∈ c.glideDue .master ∨ i ∈ c.glideDue .liveMix ∨ i ∈ c.glideDue .playbackMix ∨
    i ∈ dueIf (c.phones.jackRun == jackSpan) .jackChange ∨ i ∈ c.linkDue := by
  simp only [dueEvents, List.mem_append, List.mem_flatMap, or_assoc]

theorem mem_allKeys {k : Nat} : k ∈ allKeys ↔ 1 ≤ k ∧ k ≤ 88 := by
  simp only [allKeys, List.mem_map, List.mem_range]
  exact ⟨fun ⟨i, hi, e⟩ => by omega, fun ⟨low, high⟩ => ⟨k - 1, by omega, by omega⟩⟩

variable {i : Instr} (h : i ∉ c.dueEvents)

include h

theorem notDue_key {k : Nat} (hk : 1 ≤ k ∧ k ≤ 88) : i ∉ c.keyDue k :=
  fun mem => h ((mem_dueEvents i).2 (.inl ⟨k, mem_allKeys.2 hk, mem⟩))

theorem notDue_pedal {p : Nat} (hp : p < 3) : i ∉ c.pedalDue p :=
  fun mem => h ((mem_dueEvents i).2 (by simp only [List.mem_range]; exact .inr (.inr (.inr (.inr (.inl ⟨p, hp, mem⟩))))))

theorem notDue_voice {v : Nat} (hv : v < 64) : i ∉ c.voiceDue v :=
  fun mem => h ((mem_dueEvents i).2
    (.inr (.inr (.inr (.inr (.inr (.inr (.inl ⟨v, List.mem_range.2 hv, mem⟩))))))))

theorem notDue_rail : i ∉ c.railDue := fun mem => h ((mem_dueEvents i).2 (by simp [mem]))

theorem notDue_glide (l : Level) : i ∉ c.glideDue l := fun mem => h ((mem_dueEvents i).2 (by cases l <;> simp [mem]))

theorem notDue_link : i ∉ c.linkDue := fun mem => h ((mem_dueEvents i).2 (by simp [mem]))

end Controller

/-! ### Events that are not due -/

namespace Controller

variable {c : Controller}

theorem dueIf_false {due : Bool} {i : Instr} {l : List Instr} (sub : i ∈ dueIf due i → i ∈ l) (h : i ∉ l) : due = false :=
  Bool.eq_false_iff.2 fun e => h (sub (mem_dueIf e))

theorem silentPress_idle {k : Nat} (h : .silentPress k ∉ c.keyDue k) : c.silentPress k = c := by
  have due := dueIf_false (due := (c.key k).state == .armed && c.expired (c.key k).flight)
    (fun m => List.mem_append_left _ (List.mem_append_left _ m)) h
  unfold silentPress
  dsimp only
  split
  · next state flight =>
    rw [state, flight] at due
    exact if_neg (ne_true_of_eq_false due)
  · rfl

theorem keyFault_idle {k : Nat} (h : .keyFault k ∉ c.keyDue k) : c.keyFault k = c := by
  have due := dueIf_false (due := (c.key k).state != .fault && c.expired (c.key k).faultTimer)
    (fun m => List.mem_append_left _ (List.mem_append_right _ m)) h
  refine if_neg fun ⟨state, now⟩ => ?_
  rw [now, Bool.and_true] at due
  exact absurd (bne_iff_ne.2 state) (ne_true_of_eq_false due)

theorem keyClear_idle {k : Nat} (h : .keyClear k ∉ c.keyDue k) : c.keyClear k = c := by
  have due := dueIf_false (due := (c.key k).state == .fault && c.expired (c.key k).recovery)
    (fun m => List.mem_append_right _ m) h
  refine if_neg fun ⟨state, now⟩ => ?_
  rw [now, Bool.and_true] at due
  exact absurd (beq_iff_eq.2 state) (ne_true_of_eq_false due)

theorem roundExpiry_idle {g : Nat} (due : c.expired (c.roundTimer g) = false) : c.roundExpiry g = c := by
  unfold roundExpiry
  split
  · rfl
  · next d timer =>
    rw [timer] at due
    exact if_neg (ne_true_of_eq_false due)

theorem calComplete_idle (due : c.calDue = false) : c.calComplete = c := by
  unfold calComplete
  split
  · exact if_neg (ne_true_of_eq_false due)
  · rfl

theorem pedalFault_idle {p : Nat} (h : .pedalFault p ∉ c.pedalDue p) : c.pedalFault p = c := by
  have due := dueIf_false (due := !(c.pedal p).fault && c.expired (c.pedal p).faultTimer)
    (fun m => List.mem_append_left _ m) h
  refine if_neg fun ⟨working, now⟩ => ?_
  rw [now, working] at due
  cases due

theorem pedalClear_idle {p : Nat} (h : .pedalClear p ∉ c.pedalDue p) : c.pedalClear p = c := by
  have due := dueIf_false (due := (c.pedal p).fault && c.expired (c.pedal p).recovery)
    (fun m => List.mem_append_right _ m) h
  refine if_neg fun ⟨failed, now⟩ => ?_
  rw [now, failed] at due
  cases due

theorem mem_railDue (i : Instr) : i ∈ c.railDue ↔
    i ∈ dueIf (c.rail.clearSwitch.run == debounceSpan) (.switchChange .clear) ∨
    i ∈ dueIf (c.rail.engagedSwitch.run == debounceSpan) (.switchChange .engaged) ∨
    i ∈ dueIf (c.rail.state == .waitQuiet && c.rail.origin.isSome && c.expired c.rail.quietTimer) .railAbandoned ∨
    i ∈ dueIf (c.motorRunning && c.expired c.rail.travelTimer) .travelTimeout ∨
    i ∈ dueIf (c.motorRunning && c.expired c.rail.stallTimer) .stall ∨
    i ∈ dueIf (c.rail.state == .settling && c.rail.target.isSome && c.expired c.rail.settleTimer) .settleExpiry := by
  simp only [railDue, List.mem_append, or_assoc]

theorem switchChange_idle {sw : Stop} (h : .switchChange sw ∉ c.railDue) : c.switchChange sw = c := by
  have due : ((c.rail.switch sw).run == debounceSpan) = false := by
    cases sw with
    | clear => exact dueIf_false (fun m => (mem_railDue _).2 (.inl m)) h
    | engaged => exact dueIf_false (fun m => (mem_railDue _).2 (.inr (.inl m))) h
  exact if_neg (beq_eq_false_iff_ne.1 due)

theorem railAbandoned_idle (h : .railAbandoned ∉ c.railDue) : c.railAbandoned = c := by
  have due := dueIf_false (fun m => (mem_railDue _).2 (.inr (.inr (.inl m)))) h
  unfold railAbandoned
  split
  · next o state origin =>
    rw [state, origin] at due
    exact if_neg (ne_true_of_eq_false due)
  · rfl

theorem travelTimeout_idle (h : .travelTimeout ∉ c.railDue) : c.travelTimeout = c := by
  have due := dueIf_false (fun m => (mem_railDue _).2 (.inr (.inr (.inr (.inl m))))) h
  exact if_neg fun ⟨runs, now⟩ => by simp [runs, now] at due

theorem stall_idle (h : .stall ∉ c.railDue) : c.stall = c := by
  have due := dueIf_false (fun m => (mem_railDue _).2 (.inr (.inr (.inr (.inr (.inl m)))))) h
  exact if_neg fun ⟨runs, now⟩ => by simp [runs, now] at due

theorem settleExpiry_idle (h : .settleExpiry ∉ c.railDue) : c.settleExpiry = c := by
  have due := dueIf_false (fun m => (mem_railDue _).2 (.inr (.inr (.inr (.inr (.inr m)))))) h
  unfold settleExpiry
  split
  · next t state target =>
    rw [state, target] at due
    exact if_neg (ne_true_of_eq_false due)
  · rfl

theorem voiceEnd_idle {v : Nat} (h : .voiceEnd v ∉ c.voiceDue v) : c.voiceEnd v = c := by
  unfold voiceEnd
  split
  · next n voice =>
    rw [voiceDue, voice] at h
    exact if_neg (ne_true_of_eq_false (dueIf_false id h))
  · rfl

theorem recTimeLimit_idle (due : c.recLimitDue = false) : c.recTimeLimit = c := by
  unfold recTimeLimit
  split
  · next j job =>
    split
    · next t _ run =>
      refine if_neg fun ⟨awake, now⟩ => ?_
      obtain ⟨target, mode, r⟩ := j
      obtain rfl : r = _ := run
      rw [recLimitDue, job, awake] at due
      exact absurd (decide_eq_true now) (ne_true_of_eq_false due)
    · rfl
  · rfl

theorem dueTimerExpiry_idle (due : c.playDue = false) : c.dueTimerExpiry = c := by
  unfold dueTimerExpiry
  split
  · next x session =>
    refine if_neg fun ⟨playing, now⟩ => ?_
    rw [playDue, session] at due
    dsimp only at due
    rw [playing, now] at due
    cases due
  · rfl

theorem glideEnd_idle {l : Level} (h : .glideEnd l ∉ c.glideDue l) : c.glideEnd l = c := by
  have same : (c.phones.level l).finish = c.phones.level l := by
    unfold LevelRec.finish
    split
    · next g glide =>
      rw [glideDue, glide] at h
      exact if_neg (of_decide_eq_false (dueIf_false id h))
    · rfl
  have self : c.phones.setLevel l (c.phones.level l) = c.phones := by cases l <;> rfl
  rw [glideEnd, modPhones, same, self]

theorem mem_linkDue (i : Instr) : i ∈ c.linkDue ↔ i ∈ dueIf (c.frameReached c.link.rxTimer) .rxTimeout ∨
    i ∈ dueIf (c.link.state == .waking && c.link.wakeSource.isSome && c.frameReached c.link.wakeTimer) .wakeComplete ∨
    i ∈ dueIf c.link.resetDue (.softReset c.rail.clearSwitch.level c.rail.engagedSwitch.level) ∨
    i ∈ dueIf c.dispatchDue .dispatchFrame ∨ i ∈ dueIf c.sendDue .lineGrant := by
  simp only [linkDue, List.mem_append, or_assoc]

theorem wakeComplete_idle (h : .wakeComplete ∉ c.linkDue) : c.wakeComplete = c := by
  have due := dueIf_false (fun m => (mem_linkDue _).2 (.inr (.inl m))) h
  unfold wakeComplete
  split
  · next src state source =>
    rw [state, source] at due
    exact if_neg (ne_true_of_eq_false due)
  · rfl

/-- R201: an arbiter that finds nothing to send gives the line to nothing. -/
theorem lineGrant_idle (h : .lineGrant ∉ c.linkDue) : c.lineGrant = c := by
  have due := dueIf_false (fun m => (mem_linkDue _).2 (.inr (.inr (.inr (.inr m))))) h
  by_cases free : c.grantDue = true
  · rw [sendDue, free, Bool.true_and, Bool.not_eq_false', Bool.and_eq_true, Bool.and_eq_true] at due
    simp only [List.isEmpty_iff] at due
    obtain ⟨⟨replies, busy⟩, queue⟩ := due
    have still : c.link.grant c.now = c.link := by rw [Link.grant, replies, busy, queue]
    rw [lineGrant, if_pos free, still]
  · exact if_neg free

end Controller

/-- Settles O4: an event that is not in the list of the due ones finds its condition false. -/
theorem eventsNotDueChangeNothing : Obligations.EventsNotDueChangeNothing := by
  refine ⟨fun s run silent => ?_, fun a b s run calm => ?_, fun i s run wf h event => ?_⟩
  · exact Leaves.of_run (i := .txEnd) (f := Controller.txEnd) rfl run (by rw [Controller.txEnd, silent])
  · exact Leaves.of_run (i := .softReset a b) (f := fun c => if c.link.resetDue then c.softReset a b else c) rfl run
      (if_neg (ne_true_of_eq_false calm))
  · have still {f : Controller → Controller} (e : exec i s = s.run f) (idle : f s.ctl = s.ctl) : exec i s = .next s :=
      Leaves.of_run e run idle
    have absent {due : Bool} (sub : i ∈ Controller.dueIf due i → i ∈ s.ctl.dueEvents) : due = false :=
      Controller.dueIf_false sub h
    rcases event with ⟨k, rfl | rfl | rfl⟩ | ⟨g, rfl⟩ | rfl | rfl | ⟨p, rfl | rfl⟩ | ⟨sw, rfl⟩ | rfl | rfl | rfl | rfl | ⟨v, rfl⟩ |
      rfl | rfl | rfl | ⟨l, rfl⟩ | rfl | rfl | rfl | rfl | rfl
    · have hk : 1 ≤ k ∧ k ≤ 88 := of_decide_eq_true wf
      exact still (if_pos hk) (Controller.silentPress_idle (Controller.notDue_key h hk))
    · have hk : 1 ≤ k ∧ k ≤ 88 := of_decide_eq_true wf
      exact still (if_pos hk) (Controller.keyFault_idle (Controller.notDue_key h hk))
    · have hk : 1 ≤ k ∧ k ≤ 88 := of_decide_eq_true wf
      exact still (if_pos hk) (Controller.keyClear_idle (Controller.notDue_key h hk))
    · have hg : g < 11 := of_decide_eq_true wf
      exact still (if_pos hg) (Controller.roundExpiry_idle (absent fun m =>
        (Controller.mem_dueEvents _).2 (.inr (.inl ⟨g, List.mem_range.2 hg, m⟩))))
    · exact still rfl (Controller.calComplete_idle (absent fun m => (Controller.mem_dueEvents _).2 (by simp [m])))
    · have due := absent (due := s.ctl.expired s.ctl.pedals.hold) fun m => (Controller.mem_dueEvents _).2 (by simp [m])
      exact still (f := Controller.sostenutoOn) rfl (if_neg (ne_true_of_eq_false due))
    · have hp : p < 3 := of_decide_eq_true wf
      exact still (if_pos hp) (Controller.pedalFault_idle (Controller.notDue_pedal h hp))
    · have hp : p < 3 := of_decide_eq_true wf
      exact still (if_pos hp) (Controller.pedalClear_idle (Controller.notDue_pedal h hp))
    · exact still rfl (Controller.switchChange_idle (Controller.notDue_rail h))
    · exact still rfl (Controller.railAbandoned_idle (Controller.notDue_rail h))
    · exact still rfl (Controller.travelTimeout_idle (Controller.notDue_rail h))
    · exact still rfl (Controller.stall_idle (Controller.notDue_rail h))
    · exact still rfl (Controller.settleExpiry_idle (Controller.notDue_rail h))
    · have hv : v < 64 := of_decide_eq_true wf
      exact still (if_pos hv) (Controller.voiceEnd_idle (Controller.notDue_voice h hv))
    · exact still rfl (Controller.recTimeLimit_idle (absent fun m => (Controller.mem_dueEvents _).2 (by simp [m])))
    · exact still rfl (Controller.dueTimerExpiry_idle (absent fun m => (Controller.mem_dueEvents _).2 (by simp [m])))
    · have due := absent (due := s.ctl.rampDue) fun m => (Controller.mem_dueEvents _).2 (by simp [m])
      exact still (f := Controller.rampEnd) rfl (if_neg (ne_true_of_eq_false due))
    · exact still rfl (Controller.glideEnd_idle (Controller.notDue_glide h l))
    · have due := absent (due := s.ctl.phones.jackRun == jackSpan) fun m => (Controller.mem_dueEvents _).2 (by simp [m])
      exact still (f := Controller.jackChange) rfl (if_neg (beq_eq_false_iff_ne.1 due))
    · have due := Controller.dueIf_false (fun m => (Controller.mem_linkDue _).2 (.inl m)) (Controller.notDue_link h)
      exact still (f := Controller.rxTimeout) rfl (if_neg (ne_true_of_eq_false due))
    · exact still rfl (Controller.wakeComplete_idle (Controller.notDue_link h))
    · have due := Controller.dueIf_false (fun m => (Controller.mem_linkDue _).2 (.inr (.inr (.inr (.inl m))))) (Controller.notDue_link h)
      exact still (f := Controller.dispatchFrame) rfl (if_neg (ne_true_of_eq_false due))
    · exact still rfl (Controller.lineGrant_idle (Controller.notDue_link h))

end Sys2Proof.Machine
end

section
/-! The Headphone Path (R133 to R141): what deciding the output leaves, its requests and timers, and a frame. -/

namespace Sys2Proof.Machine

/-! ### The output decided afresh (R135 to R137) -/

/-- R137: the path at OFF, the freeing no longer owed. -/
def HeadphonePath.arrived (p : HeadphonePath) : HeadphonePath := { p with output := .off, ramp := 0, freeingOwed := false }

/-- R135, R136: the path after the decision whether the output is wanted on. -/
def HeadphonePath.decided (p : HeadphonePath) (wanted : Bool) : HeadphonePath :=
  if wanted then
    match p.output with
    | .off => { p with output := .rising, ramp := 0 }
    | .falling => { p with output := .rising, ramp := max p.ramp 1 }
    | .rising | .on => p
  else
    match p.output with
    | .on => { p with output := .falling, ramp := 2400 }
    | .rising => { p with output := .falling, ramp := min p.ramp 2399 }
    | .off => if p.freeingOwed then p.arrived else p
    | .falling => p

namespace Controller

variable (c : Controller)

theorem toneCheck_voices : c.toneCheck.pool.voices = c.pool.voices := by
  unfold toneCheck
  split
  · split
    · rw [(report_frame _ _).pool (by simp)]
    · rfl
  · rfl

theorem arriveOff_phones : c.arriveOff.phones = c.phones.arrived := by
  unfold arriveOff
  dsimp only
  split
  · rw [(toneCheck_frame _).phones (by simp)]
    rfl
  · rfl

theorem arriveOff_empty (owed : c.phones.freeingOwed = true) : c.arriveOff.poolEmpty = true := by
  have freed : c.arriveOff.pool.voices = c.pool.voices.map fun _ => none := by
    rw [arriveOff, if_pos owed, toneCheck_voices]
    rfl
  exact poolEmpty_of_voices_freed freed

theorem arriveOff_alone (free : c.phones.freeingOwed = false) :
    c.arriveOff = { c with phones := { c.phones with output := .off, ramp := 0 } } := by
  have same : c.phones.arrived = { c.phones with output := .off, ramp := 0 } := by rw [HeadphonePath.arrived, ← free]
  exact (if_neg (ne_true_of_eq_false free)).trans (congrArg (fun p => { c with phones := p }) same)

theorem outputDecide_phones : c.outputDecide.phones = c.phones.decided c.outputWanted := by
  unfold outputDecide HeadphonePath.decided
  split
  · cases c.phones.output <;> rfl
  · cases h : c.phones.output
    case off =>
      dsimp only
      split
      · exact c.arriveOff_phones
      · rfl
    all_goals rfl

theorem arriveOff_tells : Tells 1 c c.arriveOff := by
  unfold arriveOff
  dsimp only
  split
  · have freed : Tells 0 c (c.modPhones fun p => { p with output := .off, ramp := 0, freeingOwed := false }).freeVoices :=
      .of_link rfl
    exact freed.trans (toneCheck_tells _)
  · exact .of_link rfl

theorem outputDecide_tells : Tells 1 c c.outputDecide := by
  unfold outputDecide
  split
  · split
    · exact .of_link rfl
    · exact .of_link rfl
    · exact .refl _ _
    · exact .refl _ _
  · split
    · exact .of_link rfl
    · exact .of_link rfl
    · exact .ite (c.arriveOff_tells) (.refl _ _)
    · exact .refl _ _

end Controller

/-! ### What a decision may do -/

/-- R135, R136: the output and the ramp before and after a decision. -/
structure Decided (wanted owed : Bool) (p p' : HeadphonePath) : Prop where
  on : wanted = true → p'.output = (if p.output = .on then .on else .rising)
  off : wanted = false → p'.output = (if p.output = .off then .off else .falling)
  rises : p.output = .off → wanted = true → p'.ramp = 0
  falls : p.output = .on → wanted = false → p'.ramp = 2400
  turnsUp : p.output = .falling → wanted = true → 1 ≤ p.ramp → p'.ramp = p.ramp
  turnsDown : p.output = .rising → wanted = false → p.ramp ≤ 2399 → p'.ramp = p.ramp
  stays : p'.output = p.output → (p.output = .off → owed = false) → p'.ramp = p.ramp

theorem HeadphonePath.decided_decided (p : HeadphonePath) (wanted : Bool) :
    Decided wanted p.freeingOwed p (p.decided wanted) := by
  unfold decided
  cases wanted with
  | true =>
    cases h : p.output <;> constructor <;> simp [h]
  | false =>
    cases h : p.output
    case off =>
      cases owed : p.freeingOwed <;> constructor <;> simp [h, arrived]
    all_goals constructor <;> simp [h]

theorem HeadphonePath.decided_kept (p : HeadphonePath) (wanted : Bool) : ∃ output ramp owed, p.decided wanted =
    { p with output := output, ramp := ramp, freeingOwed := owed } := by
  unfold decided
  cases wanted with
  | true => cases h : p.output <;> exact ⟨_, _, _, rfl⟩
  | false =>
    cases h : p.output
    case off =>
      cases owed : p.freeingOwed with
      | true => exact ⟨.off, 0, false, rfl⟩
      | false => exact ⟨p.output, p.ramp, p.freeingOwed, rfl⟩
    all_goals exact ⟨_, _, _, rfl⟩

/-! ### PHONES, the jack and the ends (R134, R137, R138, R141) -/

/-- R141: the path with the settings of a PHONES. -/
def HeadphonePath.given (p : HeadphonePath) (on : Bool) (v l b : Nat) : HeadphonePath :=
  { p with
    enable := on
    master := p.master.give v (volumeAttenuation v)
    liveMix := p.liveMix.give l (mixAttenuation l)
    playbackMix := p.playbackMix.give b (mixAttenuation b) }

theorem LevelRec.give_setting (l : LevelRec) (setting target : Nat) : (l.give setting target).setting = setting := by
  unfold give
  split
  · next e => exact e.symm
  · rfl

theorem LevelRec.give_eq (l : LevelRec) (setting target : Nat) : l.give setting target = if setting = l.setting then l
    else { setting := setting, applied := l.applied, glide := some { start := l.applied, target := target, count := 0 } } := rfl

/-- R141: an accepted PHONES answers with the fields of the path as it then stands. -/
def phonesAnswered (v l b : Nat) (c : Controller) : Controller × Answer := (c, { code := .ok, fields := phonesFields c v l b })

theorem phonesRequest_same {c : Controller} {e v l b : Nat} (h : (e != 0) = c.phones.enable ∧
    min v 63 = c.phones.master.setting ∧ min l 31 = c.phones.liveMix.setting ∧ min b 31 = c.phones.playbackMix.setting) :
    phonesRequest e v l b c = (c, { code := .already, fields := phonesFields c v l b }) := if_pos h

theorem phonesRequest_new {c : Controller} {e v l b : Nat} (h : ¬ ((e != 0) = c.phones.enable ∧
    min v 63 = c.phones.master.setting ∧ min l 31 = c.phones.liveMix.setting ∧ min b 31 = c.phones.playbackMix.setting)) :
    phonesRequest e v l b c = phonesAnswered v l b
      (c.modPhones fun p => p.given (e != 0) (min v 63) (min l 31) (min b 31)).outputDecide := if_neg h

namespace Controller

variable {c : Controller}

/-- R134: the jack state changed, its report made and the output decided. -/
def jackTaken (c : Controller) : Controller :=
  ((c.modPhones fun p => { p with jackPresent := !p.jackPresent, jackRun := 0 }).report
    (if c.phones.jackPresent then .jackOut else .jackIn)).outputDecide

theorem jackChange_due (run : c.phones.jackRun = 4800) : c.jackChange =
    if (!c.phones.jackPresent) = true ∧ c.jackTaken.link.state = .standby then c.jackTaken.wakeBegin .jack else c.jackTaken := by
  have said : (if c.phones.jackPresent then Report.jackOut else .jackIn) =
      if !c.phones.jackPresent then .jackIn else .jackOut := by cases c.phones.jackPresent <;> rfl
  rw [jackChange, if_pos (show c.phones.jackRun = jackSpan from run), jackTaken, said]
  rfl

theorem rampEnd_rises (rising : c.phones.output = .rising) (full : 2400 ≤ c.phones.ramp) :
    c.rampEnd = { c with phones := { c.phones with output := .on, ramp := 2400 } } := by
  have due : c.rampDue = true := by rw [rampDue, rising]; exact decide_eq_true full
  rw [rampEnd, if_pos due, rising]
  rfl

theorem rampEnd_falls (falling : c.phones.output = .falling) (low : c.phones.ramp = 0) : c.rampEnd = c.arriveOff := by
  have due : c.rampDue = true := by rw [rampDue, falling]; exact beq_iff_eq.2 low
  rw [rampEnd, if_pos due, falling]

end Controller

theorem HeadphonePath.setLevel_level (p : HeadphonePath) (name : Level) (l : LevelRec) :
    (p.setLevel name l).level name = l ∧ (∀ other, other ≠ name → (p.setLevel name l).level other = p.level other) ∧
    ((p.setLevel name l).output, (p.setLevel name l).ramp, (p.setLevel name l).jackPresent, (p.setLevel name l).enable,
      (p.setLevel name l).frame) = (p.output, p.ramp, p.jackPresent, p.enable, p.frame) := by
  cases name <;> refine ⟨rfl, fun other ne => ?_, rfl⟩ <;> cases other <;> first | rfl | exact absurd rfl ne

/-- Settles O43. -/
theorem phonesAndOutputState : Obligations.PhonesAndOutputState := by
  unfold Obligations.PhonesAndOutputState
  intro decided
  have decided_of {wanted owed : Bool} {p p' : HeadphonePath} (h : Decided wanted owed p p') : decided wanted owed p p' :=
    ⟨h.on, h.off, h.rises, h.falls, h.turnsUp, h.turnsDown, h.stays⟩
  refine ⟨?phones, ?jack, ?ramp, ?glide⟩
  case phones =>
    intro tag e v l b s sv c v' l' b' fields given same
    have active : c.link.state = .active := (Controller.closeWindow_link s.ctl) ▸ sv.2
    refine ⟨fun h => .of_rule rfl sv (phonesRequest_same h) rfl rfl, fun h => ?_⟩
    obtain ⟨c1, hc1⟩ : ∃ c1, c1 = c.modPhones fun p => p.given (e != 0) v' l' b' := ⟨_, rfl⟩
    have phones1 : c1.phones = c.phones.given (e != 0) v' l' b' := by rw [hc1]; rfl
    have wanted : c1.outputWanted = ((e != 0) && c.phones.jackPresent && decide (0 < v')) := by
      have link : c1.link = c.link := by rw [hc1]; rfl
      rw [Controller.outputWanted, link, active, phones1]
      show ((e != 0) && c.phones.jackPresent && (LinkState.active == LinkState.active) && decide (0 < (c.phones.master.give v' _).setting)) = _
      rw [LevelRec.give_setting]
      simp
    have phones2 := c1.outputDecide_phones
    obtain ⟨output, ramp, owed, kept⟩ := c1.phones.decided_kept c1.outputWanted
    rw [kept, phones1] at phones2
    refine ⟨c1.outputDecide, .of_rule rfl sv (hc1 ▸ phonesRequest_new h) rfl rfl,
      hc1 ▸ ((c.modPhones_frame _).widen (by simp)).trans ((Controller.outputDecide_frame _).widen (by simp)), ?_, ?_, ?_, ?_, ?_, ?_⟩
    · rw [phones2]
      rfl
    · rw [phones2]
      exact LevelRec.give_eq _ _ _
    · rw [phones2]
      exact LevelRec.give_eq _ _ _
    · rw [phones2]
      exact LevelRec.give_eq _ _ _
    · have d := c1.phones.decided_decided c1.outputWanted
      rw [← c1.outputDecide_phones, wanted, phones1] at d
      exact decided_of ⟨d.on, d.off, d.rises, d.falls, d.turnsUp, d.turnsDown, d.stays⟩
    · rw [phones2]
      rfl
  case jack =>
    intro s run full p
    obtain ⟨c1, hc1⟩ : ∃ c1, c1 = (s.ctl.modPhones fun p => { p with jackPresent := !p.jackPresent, jackRun := 0 }).report
      (if p.jackPresent then .jackOut else .jackIn) := ⟨_, rfl⟩
    obtain ⟨c2, hc2⟩ : ∃ c2, c2 = c1.outputDecide := ⟨_, rfl⟩
    have taken : s.ctl.jackTaken = c2 := by rw [hc2, hc1]; rfl
    have phones1 : c1.phones = { p with jackPresent := !p.jackPresent, jackRun := 0 } := by
      rw [hc1, (Controller.report_frame _ _).phones (by simp)]
      rfl
    have tells1 : Controller.Tells 1 s.ctl c1 := hc1 ▸ (Controller.Tells.of_link (n := 0) (a := s.ctl)
      (b := s.ctl.modPhones fun p => { p with jackPresent := !p.jackPresent, jackRun := 0 }) rfl).trans (Controller.report_tells _ _)
    have tells2 : Controller.Tells 1 c1 c2 := hc2 ▸ c1.outputDecide_tells
    have state2 : c2.link.state = s.ctl.link.state := tells2.state.trans tells1.state
    have f1 : Controller.Frame [.phones, .link] s.ctl c1 := hc1 ▸
      ((s.ctl.modPhones_frame _).widen (by simp)).trans ((Controller.report_frame _ _).widen (by simp))
    have f2 : Controller.Frame [.pool, .phones, .link] c1 c2 := hc2 ▸ c1.outputDecide_frame
    have phones2 : c2.phones = c1.phones.decided c1.outputWanted := hc2 ▸ c1.outputDecide_phones
    obtain ⟨output, ramp, owed, kept⟩ := c1.phones.decided_kept c1.outputWanted
    have fields2 := phones2.trans kept
    rw [phones1] at fields2
    have wanted : c1.outputWanted =
        (p.enable && !p.jackPresent && (s.ctl.link.state == .active) && decide (0 < p.master.setting)) := by
      rw [Controller.outputWanted, phones1, tells1.state]
    have d := c1.phones.decided_decided c1.outputWanted
    rw [← phones2, wanted, phones1] at d
    have said : s.ctl.link.mask.getLsbD 7 = true → s.ctl.link.queue.length < 64 →
        { time := s.ctl.now, report := if p.jackPresent then .jackOut else .jackIn } ∈ c2.link.queue := fun on room => by
      have told : { time := s.ctl.now, report := if p.jackPresent then Report.jackOut else .jackIn } ∈ c1.link.queue := by
        rw [hc1]
        cases p.jackPresent with
        | true =>
          exact Controller.report_queued (c := s.ctl.modPhones fun p => { p with jackPresent := !p.jackPresent, jackRun := 0 })
            (r := .jackOut) on room
        | false =>
          exact Controller.report_queued (c := s.ctl.modPhones fun p => { p with jackPresent := !p.jackPresent, jackRun := 0 })
            (r := .jackIn) on room
      rw [hc2]
      exact (Controller.outputDecide_keeps (skip := []) _).queued told (by simp)
    have frame2 : Controller.Frame [.phones, .pool, .link] s.ctl c2 := (f1.widen (by simp)).trans (f2.widen (by simp))
    have rule := Controller.jackChange_due (c := s.ctl) full
    rw [taken, state2] at rule
    have decided2 := decided_of ⟨d.on, d.off, d.rises, d.falls, d.turnsUp, d.turnsDown, d.stays⟩
    have frame : c2.phones.frame = p.frame := by rw [fields2]
    have present : c2.phones.jackPresent = !p.jackPresent := by rw [fields2]
    have restarts : c2.phones.jackRun = 0 := by rw [fields2]
    by_cases wakes : s.ctl.link.state = .standby ∧ p.jackPresent = false
    · obtain ⟨standby, out⟩ := wakes
      rw [if_pos ⟨by rw [show s.ctl.phones.jackPresent = false from out]; rfl, standby⟩] at rule
      refine ⟨c2.wakeBegin .jack, .of_run (by rw [exec, execJackChange]) run rule,
        frame2.trans ((c2.wakeBegin_frame _).widen (by simp)), present, restarts, decided2, fun _ _ => ⟨rfl, rfl, ?_⟩,
        fun h => absurd ⟨standby, out⟩ h, said⟩
      rw [← frame]
      rfl
    · rw [if_neg fun h => wakes ⟨h.2, by simpa using h.1⟩] at rule
      exact ⟨c2, .of_run (by rw [exec, execJackChange]) run rule, frame2, present, restarts, decided2,
        fun standby out => absurd ⟨standby, out⟩ wakes, fun _ => state2, said⟩
  case ramp =>
    intro s run p
    refine ⟨fun rising full => .of_run (by rw [exec, execRampEnd]) run (Controller.rampEnd_rises rising full),
      fun falling low free => ?_, fun falling low owed => ?_⟩
    · refine .of_run (by rw [exec, execRampEnd]) run ((Controller.rampEnd_falls falling low).trans ?_)
      exact s.ctl.arriveOff_alone free
    · exact ⟨s.ctl.arriveOff, .of_run (by rw [exec, execRampEnd]) run (Controller.rampEnd_falls falling low),
        s.ctl.arriveOff_frame.widen (by simp), s.ctl.arriveOff_phones, s.ctl.arriveOff_empty owed⟩
  case glide =>
    intro name g s run glide full
    obtain ⟨level, others, kept⟩ := s.ctl.phones.setLevel_level name (s.ctl.phones.level name).finish
    have finished : (s.ctl.phones.level name).finish = { s.ctl.phones.level name with applied := g.target, glide := none } := by
      rw [LevelRec.finish, glide]
      exact if_pos full
    exact ⟨_, .of_run (f := Controller.glideEnd name) rfl run rfl, s.ctl.modPhones_frame _, level.trans finished, others, kept⟩

end Sys2Proof.Machine
end

section
/-! One output frame (R81, R133, R134, R136, R138 to R140). -/

namespace Sys2Proof.Machine

/-! ### The sample of a voice (R139) -/

/-- R139: the scaled magnitude is the greatest whose power fits. -/
theorem scaledMagnitude_bounds (a m : Nat) : scaledMagnitude a m ^ 200 * 10 ^ a ≤ m ^ 200 ∧
    m ^ 200 < (scaledMagnitude a m + 1) ^ 200 * 10 ^ a := by
  obtain ⟨le, admits, most⟩ := greatestUpTo_spec (fun n => decide (n ^ 200 * 10 ^ a ≤ m ^ 200)) m
  constructor
  · by_cases zero : scaledMagnitude a m = 0
    · rw [zero, Nat.zero_pow (by decide), Nat.zero_mul]
      exact Nat.zero_le _
    · exact of_decide_eq_true (admits zero)
  · refine Nat.lt_of_not_le fun fits => Nat.not_succ_le_self _ (most (scaledMagnitude a m + 1) ?_ (decide_eq_true fits))
    refine (Nat.pow_le_pow_iff_left (by decide : (200 : Nat) ≠ 0)).1 ?_
    exact (Nat.le_mul_of_pos_right _ (Nat.pow_pos (by decide))).trans fits

theorem scaledMagnitude_zero (a : Nat) : scaledMagnitude a 0 = 0 := rfl

theorem scaledSample_natAbs (a : Nat) (w : Int) : (scaledSample a w).natAbs = scaledMagnitude a w.natAbs := by
  rw [scaledSample, Int.natAbs_mul, Int.natAbs_natCast]
  by_cases h : w = 0
  · rw [h, Int.natAbs_zero, scaledMagnitude_zero, Nat.mul_zero]
  · rw [Int.natAbs_sign_of_ne_zero h, Nat.one_mul]

theorem scaledSample_sign (a : Nat) (w : Int) : (0 ≤ w → 0 ≤ scaledSample a w) ∧ (w ≤ 0 → scaledSample a w ≤ 0) :=
  ⟨fun h => Int.mul_nonneg (Int.sign_nonneg_iff.2 h) (Int.natCast_nonneg _),
    fun h => Int.mul_nonpos_of_nonpos_of_nonneg (Int.sign_nonpos_iff.2 h) (Int.natCast_nonneg _)⟩

namespace Controller

variable (c : Controller)

theorem outputAttenuation_eq (n : Note) : c.outputAttenuation n = n.attenuation c.now +
    (if n.source = .live then c.phones.liveMix.applied else c.phones.playbackMix.applied) + c.phones.master.applied := by
  rw [outputAttenuation]
  cases n.source <;> rfl

/-! ### The frame (R140) -/

/-- The frame counted, its samples not yet made. -/
def framed (jack clear engaged : Bool) : Controller :=
  { c with
    phones := c.phones.tick jack
    rail := { c.rail with clearSwitch := c.rail.clearSwitch.frame clear, engagedSwitch := c.rail.engagedSwitch.frame engaged } }

/-- R140: the samples of the frame made. -/
def sampledFrame : Controller :=
  { c with phones := { c.phones with left := c.channel fun q => 174 - q, right := c.channel fun q => 87 + q } }

theorem outputFrame_eq (jack clear engaged : Bool) : c.outputFrame jack clear engaged = (c.framed jack clear engaged).sampledFrame :=
  rfl

theorem outputFrame_frame (jack clear engaged : Bool) : Frame [.phones, .rail] c (c.outputFrame jack clear engaged) :=
  (((c.modPhones_frame _).widen (by simp)).trans ((setRail_frame _ _).widen (by simp))).trans
    ((modPhones_frame _ _).widen (by simp))

theorem channel_sounding (weight : Nat → Nat) (sounds : c.phones.ramp ≠ 0) :
    c.channel weight = clip ((c.channelSum weight * (c.phones.ramp : Int)).fdiv 2400) := if_neg sounds

end Controller

theorem clip_bounds (h : Config.fullScaleMin ≤ Config.fullScaleMax) (x : Int) :
    Config.fullScaleMin ≤ clip x ∧ clip x ≤ Config.fullScaleMax := by
  unfold clip
  split_ifs <;> omega

theorem LevelRec.frame_glides (l : LevelRec) : l.frame.setting = l.setting ∧ (l.glide = none → l.frame = l) ∧
    ∀ g, l.glide = some g → l.frame.glide = some { g with count := min (g.count + 1) 480 } ∧
      l.frame.applied = ((g.start : Int) + (((g.target : Int) - g.start) * (min (g.count + 1) 480 : Nat)).tdiv 480).toNat := by
  unfold frame
  cases h : l.glide with
  | none => exact ⟨rfl, fun _ => rfl, nofun⟩
  | some g =>
    refine ⟨rfl, nofun, fun g' e => ?_⟩
    obtain rfl := Option.some.inj e
    exact ⟨rfl, rfl⟩

/-- Settles O44: the voices by the greatest magnitude that fits, the frame by the counts and the two channels. -/
theorem outputFrameCounts : Obligations.OutputFrameCounts := by
  refine ⟨?voices, ?frames⟩
  case voices =>
    intro c n a w v
    have attenuation : c.outputAttenuation n = a := c.outputAttenuation_eq n
    refine ⟨fun silent => if_pos (attenuation ▸ silent), fun sounds => ?_⟩
    have sample : v = scaledSample a w := by
      rw [← attenuation]
      exact if_neg (Nat.not_le.2 (attenuation ▸ sounds))
    obtain ⟨up, down⟩ := scaledSample_sign a w
    obtain ⟨fits, least⟩ := scaledMagnitude_bounds a w.natAbs
    rw [sample, scaledSample_natAbs]
    exact ⟨up, down, fits, least⟩
  case frames =>
    intro jack clear engaged s run p rl framed glides
    obtain ⟨c1, hc1⟩ : ∃ c1, c1 = s.ctl.framed jack clear engaged := ⟨_, rfl⟩
    have phones1 : c1.phones = p.tick jack := by rw [hc1]; rfl
    have voices1 : c1.pool.voices = s.ctl.pool.voices := by rw [hc1]; rfl
    have same : c1.sampledFrame.voiceSample = c1.voiceSample := rfl
    have ramp : c1.sampledFrame.phones.ramp = c1.phones.ramp := rfl
    refine ⟨c1.sampledFrame, .of_run (f := Controller.outputFrame jack clear engaged) rfl run
      (by rw [s.ctl.outputFrame_eq, hc1]), ?frame, ?_⟩
    case frame =>
      rw [hc1, ← s.ctl.outputFrame_eq]
      exact s.ctl.outputFrame_frame jack clear engaged
    · refine ⟨by rw [hc1]; rfl, by rw [hc1]; rfl, by rw [hc1]; rfl, ?_⟩
      have master : c1.sampledFrame.phones.master = p.master.frame := congrArg HeadphonePath.master phones1
      have live : c1.sampledFrame.phones.liveMix = p.liveMix.frame := congrArg HeadphonePath.liveMix phones1
      have playback : c1.sampledFrame.phones.playbackMix = p.playbackMix.frame := congrArg HeadphonePath.playbackMix phones1
      rw [master, live, playback]
      refine ⟨p.master.frame_glides, p.liveMix.frame_glides, p.playbackMix.frame_glides, by rw [hc1]; rfl, by rw [hc1]; rfl, ?_,
        by rw [hc1]; rfl, by rw [hc1]; rfl, by rw [hc1]; rfl, by rw [hc1]; rfl, by rw [hc1]; rfl, fun silent => ?_, ?_,
        fun order sounds => ?_⟩
      · have run1 : c1.sampledFrame.phones.jackRun =
            if p.jackRun = 4800 then p.jackRun else if jack = p.jackPresent then 0 else p.jackRun + 1 :=
          congrArg HeadphonePath.jackRun phones1
        rw [run1]
        split
        · next full => exact full
        · rfl
      · exact ⟨if_pos silent, if_pos silent⟩
      · intro channel sounds
        have each (weight : Nat → Nat) : c1.channel weight = channel weight := by
          rw [c1.channel_sounding weight sounds, c1.channelSum_eq_sum, voices1]
          rfl
        exact ⟨each _, each _⟩
      · have left : c1.sampledFrame.phones.left = c1.channel fun q => 174 - q := rfl
        have right : c1.sampledFrame.phones.right = c1.channel fun q => 87 + q := rfl
        rw [left, right, c1.channel_sounding _ sounds, c1.channel_sounding _ sounds]
        obtain ⟨leftLow, leftHigh⟩ := clip_bounds order ((c1.channelSum (fun q => 174 - q) * (c1.phones.ramp : Int)).fdiv 2400)
        exact ⟨leftLow, leftHigh, clip_bounds order _⟩

end Sys2Proof.Machine
end

section
/-! Crossing times and the key speed (R7, R31), the beginnings of a wake (R26, R209), and the requests that give settings (R5, R77, R126, R203). -/

namespace Sys2Proof.Machine

/-! ### Crossing times and the key speed (R7, R31) -/

theorem risingTime_between {p : Sample} {d : Sample} {t : Nat} (below : p.depth < t) :
    risingTime (some p) d t = p.time + BitVec.ofNat 32 (20 * (t - p.depth) / (d.depth - p.depth)) := if_pos below

theorem fallingTime_between {p : Sample} {d : Sample} {t : Nat} (room : 8 ≤ t) (above : t - 8 ≤ p.depth) :
    fallingTime (some p) d t = p.time + BitVec.ofNat 32 (20 * (p.depth - (t - 8)) / (p.depth - d.depth)) := by
  have near : t ≤ p.depth + hysteresis := Nat.sub_le_iff_le_add.1 above
  have drop : p.depth + hysteresis - t = p.depth - (t - 8) := by
    rw [hysteresis]
    omega
  rw [← drop]
  exact if_pos near

/-- A part of the 20 µs between two samples is at most the whole. -/
theorem part_le_twenty {a b : Nat} (le : a ≤ b) : 20 * a / b ≤ 20 :=
  Nat.div_le_of_le_mul (Nat.mul_comm b 20 ▸ Nat.mul_le_mul_left 20 le)

/-- R31: the limit of 6000 mm/s is reached by a flight of at most a sixth of the travel. -/
theorem keySpeed_limit {travel flight : Nat} (reach : 2000 ≤ travel) :
    6000 ≤ travel * 1000 / limitedFlight flight ↔ flight ≤ travel / 6 := by
  unfold limitedFlight
  split
  · rw [Nat.le_div_iff_mul_le (by decide)]
    omega
  · rw [Nat.le_div_iff_mul_le (by omega), Nat.le_div_iff_mul_le (by decide)]
    omega

theorem keySpeed_low {travel flight : Nat} (reach : 2000 ≤ travel) (short : flight ≤ 120000) :
    16 ≤ travel * 1000 / limitedFlight flight := by
  unfold limitedFlight
  split
  · rw [Nat.le_div_iff_mul_le (by decide)]
    omega
  · rw [Nat.le_div_iff_mul_le (by omega)]
    omega

/-- Settles O27: the parts of the 20 µs between two samples, and the limits of the quotient. -/
theorem crossingTimesAndSpeed : Obligations.CrossingTimesAndSpeed := by
  refine ⟨fun p d low high below order above => ?rising, fun p d t room above below => ?falling,
    fun p d t => ⟨fun h => if_neg (Nat.not_lt.2 h), fun h => ?far, rfl, rfl⟩, fun travel flight reach _ _ short => ?speed⟩
  case rising =>
    exact ⟨_, _, Nat.div_le_div_right (Nat.mul_le_mul_left 20 (Nat.sub_le_sub_right order _)),
      part_le_twenty (Nat.sub_le_sub_right above _), rfl, rfl, risingTime_between below,
      risingTime_between (Nat.lt_of_lt_of_le below order)⟩
  case falling =>
    exact ⟨_, part_le_twenty (Nat.sub_le_sub_left (Nat.le_of_lt below) _), rfl, fallingTime_between room above⟩
  case far =>
    refine if_neg (Nat.not_le.2 ?_)
    rw [hysteresis]
    omega
  case speed =>
    have limit := keySpeed_limit (flight := flight) reach
    refine ⟨Nat.le_min.2 ⟨by decide, keySpeed_low reach short⟩, Nat.min_le_left _ _, min_eq_left_iff.trans limit,
      fun long slow => ?_⟩
    have unlimited : limitedFlight flight = flight := if_neg (Nat.not_lt.2 long)
    have below := Nat.lt_of_not_le (mt limit.1 (Nat.not_le.2 slow))
    rw [keySpeed, Nat.min_eq_right (Nat.le_of_lt below), unlimited]

/-! ### The beginnings of a wake (R26, R209) -/

theorem wakeRequest_standby {c : Controller} (h : c.link.state = .standby) :
    wakeRequest c = (c.wakeBegin .request, { code := .accepted, fields := [] }) := by
  rw [wakeRequest, h]
  rfl

theorem wakeRequest_awake {c : Controller} (h : c.link.state ≠ .standby) :
    wakeRequest c = (c, { code := .already, fields := [] }) := by
  rw [wakeRequest]
  cases state : c.link.state with
  | standby => exact absurd state h
  | active => rfl
  | waking => rfl

namespace Controller

variable (c : Controller)

/-- R26: what a wake check keeps of its sample. -/
def checkedKey (k raw : Nat) : KeyRec :=
  (c.key k).keepSample { time := c.now, raw := raw, depth := (c.key k).depth raw }

theorem wakeCheck_eq {c : Controller} {k : Nat} (raw : Nat) (standby : c.link.state = .standby) (rest : (c.key k).state = .rest) :
    c.wakeCheck k raw =
      if (c.key k).latestDepth < c.thresholds.lift ∧ c.thresholds.lift ≤ (c.key k).depth raw then
        ((c.setKey k { c.checkedKey k raw with state := .held, holdOff := true }).report (.wakeKey k)).wakeBegin (.key k)
      else c.setKey k (c.checkedKey k raw) := by
  refine (if_pos ⟨standby, rest⟩).trans ?_
  by_cases wakes : (c.key k).latestDepth < c.thresholds.lift ∧ c.thresholds.lift ≤ (c.key k).depth raw
  · exact (if_pos (decide_eq_true wakes)).trans (if_pos wakes).symm
  · exact (if_neg (mt of_decide_eq_true wakes)).trans (if_neg wakes).symm

end Controller

/-- Settles O19: the request by the state of the Link, the check by the two depths. -/
theorem wakeBegins : Obligations.WakeBegins := by
  refine ⟨fun tag s run => ⟨fun standby => .of_answered rfl run (wakeRequest_standby standby) rfl rfl rfl,
    fun awake => .of_answered rfl run (wakeRequest_awake awake) rfl rfl rfl⟩, ?check⟩
  intro k raw s run low high hraw standby rest c r depth kept
  have leaves {c1 : Controller} : c.wakeCheck k raw = c1 → Leaves (.wakeCheck k raw) s c1 :=
    .of_run (by rw [exec, execWakeCheck, runReading, if_pos hraw, State.runKey, if_pos ⟨low, high⟩]) run
  have rule := Controller.wakeCheck_eq raw standby rest
  refine ⟨fun wakes => ?_, fun sleeps => leaves (rule.trans (if_neg sleeps))⟩
  intro woken
  have phones : woken.phones = c.phones := (c.setKey k { kept with state := .held, holdOff := true }).report_phones (.wakeKey k)
  refine leaves (rule.trans ((if_pos wakes).trans ?_))
  rw [← phones]
  rfl

/-! ### The requests that give settings (R5, R77, R126, R203) -/

theorem thresholdsRequest_refused {a b l k : Nat} {c : Controller}
    (bad : ¬ (16 ≤ a ∧ a + 16 ≤ b ∧ b + 16 ≤ l ∧ l + 64 ≤ k ∧ k ≤ 1000)) :
    thresholdsRequest a b l k c = (c, { code := .badValue, fields := thresholdFields c.thresholds }) :=
  if_pos (decide_eq_false bad)

theorem thresholdsRequest_good {a b l k : Nat} {c : Controller}
    (good : 16 ≤ a ∧ a + 16 ≤ b ∧ b + 16 ≤ l ∧ l + 64 ≤ k ∧ k ≤ 1000) :
    thresholdsRequest a b l k c =
      if { rest := a, damp := b, lift := l, strike := k } = c.thresholds then
        (c, { code := .already, fields := thresholdFields c.thresholds })
      else ({ c with thresholds := { rest := a, damp := b, lift := l, strike := k } },
        { code := .ok, fields := thresholdFields { rest := a, damp := b, lift := l, strike := k } }) :=
  if_neg (Bool.not_eq_false _ ▸ decide_eq_true good)

/-- R77: the values that PEDAL_PARAM accepts. -/
theorem pedalParam_legal {p rest full cut : Nat} :
    (2 < p ∨ 4095 < rest ∨ 4095 < full ∨ full < rest + 64 ∨ 24 < cut) ↔
      ¬ (p < 3 ∧ rest ≤ 4095 ∧ full ≤ 4095 ∧ rest + 64 ≤ full ∧ cut ≤ 24) := by
  omega

theorem pedalFields_known {c : Controller} {p : Nat} (h : p < 3) :
    pedalFields c p = bytesLE 2 (c.pedal p).restRaw ++ bytesLE 2 (c.pedal p).fullRaw ++ bytesLE 2 c.pedals.softCut :=
  congrArg (· ++ bytesLE 2 c.pedals.softCut) (if_pos h)

theorem pedalFields_unknown {c : Controller} {p : Nat} (h : ¬ p < 3) :
    pedalFields c p = absent 4 ++ bytesLE 2 c.pedals.softCut :=
  congrArg (· ++ bytesLE 2 c.pedals.softCut) (if_neg h)

theorem pedalParam_refused {p rest full cut : Nat} {c : Controller}
    (bad : ¬ (p < 3 ∧ rest ≤ 4095 ∧ full ≤ 4095 ∧ rest + 64 ≤ full ∧ cut ≤ 24)) :
    pedalParam p rest full cut c = (c, { code := .badValue, fields := pedalFields c p }) :=
  if_pos (pedalParam_legal.2 bad)

theorem pedalParam_same {p rest full cut : Nat} {c : Controller}
    (good : p < 3 ∧ rest ≤ 4095 ∧ full ≤ 4095 ∧ rest + 64 ≤ full ∧ cut ≤ 24)
    (same : rest = (c.pedal p).restRaw ∧ full = (c.pedal p).fullRaw ∧ cut = c.pedals.softCut) :
    pedalParam p rest full cut c = (c, { code := .already, fields := pedalFields c p }) :=
  (if_neg (mt pedalParam_legal.1 (not_not_intro good))).trans (if_pos same)

/-- R77: the Pedal Unit with new readings of one pedal and a new cut. -/
def Controller.pedalsTuned (c : Controller) (p rest full cut : Nat) : Controller :=
  { c with pedals :=
    { c.pedals with recs := c.pedals.recs.set p { c.pedal p with restRaw := rest, fullRaw := full }, softCut := cut } }

theorem Controller.pedalsTuned_pedal {c : Controller} {p : Nat} (h : p < c.pedals.recs.length) (rest full cut : Nat) :
    (c.pedalsTuned p rest full cut).pedal p = { c.pedal p with restRaw := rest, fullRaw := full } :=
  c.setPedal_pedal h { c.pedal p with restRaw := rest, fullRaw := full }

theorem pedalParam_tunes {p rest full cut : Nat} {c : Controller}
    (good : p < 3 ∧ rest ≤ 4095 ∧ full ≤ 4095 ∧ rest + 64 ≤ full ∧ cut ≤ 24)
    (other : ¬ (rest = (c.pedal p).restRaw ∧ full = (c.pedal p).fullRaw ∧ cut = c.pedals.softCut)) :
    pedalParam p rest full cut c = (c.pedalsTuned p rest full cut,
      { code := .ok, fields := pedalFields (c.pedalsTuned p rest full cut) p }) :=
  (if_neg (mt pedalParam_legal.1 (not_not_intro good))).trans (if_neg other)

/-- R99: the live path is closed only at a closed clear switch, with the motor off and layer off. -/
theorem Controller.livePath_closed {c : Controller} :
    c.livePath = false ↔ c.rail.clearSwitch.closed = true ∧ c.rail.motor = .off ∧ c.pool.layer = false := by
  simp [livePath, motorRunning, and_assoc]

/-- Settles O21: each request by its refused, its ALREADY and its OK branch. -/
theorem settingsRequests : Obligations.SettingsRequests := by
  refine ⟨?thresholds, ?pedals, ?layer, ?reports⟩
  case thresholds =>
    intro tag a b l k s sv c t fields legal replies
    refine ⟨fun bad => .of_rule rfl sv (thresholdsRequest_refused bad) rfl rfl, fun good same => ?_, fun good other =>
      .of_rule rfl sv ((thresholdsRequest_good good).trans (if_neg other)) rfl rfl⟩
    rw [same]
    exact .of_rule rfl sv ((thresholdsRequest_good good).trans (if_pos same)) rfl rfl
  case pedals =>
    intro tag p rest full cut s sv sized c r fields legal same replies
    have ans {c1 : Controller} {code : ResultCode} {shown : List Byte}
        (rule : pedalParam p rest full cut c = (c1, { code := code, fields := shown })) : replies c1 code shown :=
      .of_rule rfl sv rule rfl rfl
    refine ⟨fun bad known => ?_, fun unknown => ?_, fun good same => ?_, fun good other => ?_⟩
    · have shown : pedalFields c p = fields r.restRaw r.fullRaw c.pedals.softCut := pedalFields_known known
      exact ans (shown ▸ pedalParam_refused bad)
    · have shown : pedalFields c p = absent 4 ++ bytesLE 2 c.pedals.softCut := pedalFields_unknown (Nat.not_lt.2 unknown)
      exact ans (shown ▸ pedalParam_refused fun good => Nat.not_lt.2 unknown good.1)
    · have shown : pedalFields c p = fields rest full cut := by
        rw [pedalFields_known good.1, same.1, same.2.1, same.2.2]
      exact ans (shown ▸ pedalParam_same good same)
    · have present : p < c.pedals.recs.length := by
        rw [Controller.closeWindow_pedals, sized.pedals]
        exact good.1
      have shown : pedalFields (c.pedalsTuned p rest full cut) p = fields rest full cut := by
        rw [pedalFields_known good.1, Controller.pedalsTuned_pedal present]
        rfl
      exact ans (shown ▸ pedalParam_tunes good other)
  case layer =>
    intro tag flag s sv c on set
    refine ⟨fun same => ?_, fun other => .of_rule rfl sv (if_neg other) rfl rfl, Controller.livePath_closed⟩
    rw [same]
    exact .of_rule rfl sv (if_pos same) rfl rfl
  case reports =>
    intro tag mask s sv _ c m fields
    refine ⟨fun same => ?_, fun other => .of_rule rfl sv (if_neg other) rfl rfl⟩
    have shown : fields = reportsFields c := by
      rw [reportsFields, ← same]
    rw [shown]
    exact .of_rule rfl sv (if_pos same) rfl rfl

end Sys2Proof.Machine
end

section
/-! The requests of the Trim Engine (R43, R51 to R53, R57). -/

namespace Sys2Proof.Machine

namespace Controller

variable (c : Controller)

/-! ### TRIM_SET (R43, R51) -/

theorem startRounds_timer {g : Nat} (hg : g < 11) : c.startRounds.roundTimer g =
    some (after c.now (c.trim.interval * 1000000 + g * (c.trim.interval * 1000000) / 11)) := by
  simp [roundTimer, startRounds, hg]

/-- R51: the interval and the pull-in in force, the rounds started afresh where the interval changed. -/
def trimTuned (i : Nat) (pull : Bool) : Controller :=
  let tuned : Controller := { c with trim := { c.trim with interval := i, pullIn := pull } }
  if i = c.trim.interval then tuned else tuned.startRounds

theorem trimTuned_cases {motive : Controller → Prop} (i : Nat) (pull : Bool)
    (kept : motive { c with trim := { c.trim with interval := i, pullIn := pull } })
    (afresh : motive (startRounds { c with trim := { c.trim with interval := i, pullIn := pull } })) :
    motive (c.trimTuned i pull) := by
  unfold trimTuned
  dsimp only
  split
  · exact kept
  · exact afresh

/-- Starting the rounds touches the round timers of the Trim Engine alone. -/
theorem trimTuned_trim (i : Nat) (pull : Bool) :
    ∃ rounds, (c.trimTuned i pull).trim = { c.trim with interval := i, pullIn := pull, rounds := rounds } :=
  c.trimTuned_cases
    (motive := fun b => ∃ rounds, b.trim = { c.trim with interval := i, pullIn := pull, rounds := rounds }) i pull ⟨_, rfl⟩
    ⟨_, rfl⟩

theorem trimTuned_timer (i : Nat) (pull : Bool) {g : Nat} (hg : g < 11) : (c.trimTuned i pull).roundTimer g =
    if i = c.trim.interval then c.roundTimer g else some (after c.now (i * 1000000 + g * (i * 1000000) / 11)) := by
  unfold trimTuned
  dsimp only
  split
  · rfl
  · exact startRounds_timer _ hg

theorem trimTuned_frame (i : Nat) (pull : Bool) : Frame [.trim] c (c.trimTuned i pull) :=
  c.trimTuned_cases i pull (c.trim_frame _) ((c.trim_frame _).trans (startRounds_frame _))

end Controller

theorem trimSet_refused {i : Nat} (p : Nat) {c : Controller} (bad : i < 1 ∨ 60 < i) :
    trimSet i p c = (c, { code := .badValue, fields := trimFields c }) := if_pos bad

theorem trimSet_good {i : Nat} (p : Nat) {c : Controller} (low : 1 ≤ i) (high : i ≤ 60) :
    trimSet i p c = if i = c.trim.interval ∧ (p != 0) = c.trim.pullIn then (c, { code := .already, fields := trimFields c })
      else ((c.trimTuned i (p != 0)).trimSync, { code := .ok, fields := trimFields (c.trimTuned i (p != 0)) }) := by
  have good : ¬ (i < 1 ∨ 60 < i) := by omega
  refine (if_neg good).trans ?_
  split
  · rfl
  · by_cases same : i = c.trim.interval
    · simp [Controller.trimTuned, ← same]
    · have changed : (i != c.trim.interval) = true := bne_iff_ne.2 same
      simp [Controller.trimTuned, same]

/-! ### CAL_FULL (R52, R53, R57) -/

namespace Controller

variable (c : Controller)

/-- A grant is open only with no calibration in progress. -/
theorem calibrating_of_open {c : Controller} (isOpen : c.grantOpen = true) (g : Nat) : c.calibrating g = false := by
  rw [grantOpen, Bool.and_eq_true, Bool.and_eq_true, Option.isNone_iff_eq_none] at isOpen
  rw [calibrating, isOpen.1.1]

theorem tryGrant_served_iff (g : Nat) : c.tryGrant.served g = true ↔ c.served g = true := by
  refine ⟨fun h => ?_, c.tryGrant_served⟩
  obtain e | ⟨head, rest, fifo, isOpen, e⟩ := c.tryGrant_cases
  · rwa [e] at h
  · rw [e, served_iff, calibrating, (report_frame _ _).trim (by simp)] at h
    rw [served_iff, fifo]
    rcases h with waits | ofHead
    · exact .inl (List.mem_cons_of_mem _ waits)
    · exact .inl (eq_of_beq ofHead ▸ List.mem_cons_self ..)

/-- R52: a group that joins is served from then on, and no other group by that. -/
theorem joinFifo_served_iff (g h : Nat) : (c.joinFifo g).served h = true ↔ c.served h = true ∨ h = g := by
  obtain ⟨waits, e⟩ | e := c.joinFifo_cases g
  · rw [e]
    refine ⟨.inl, fun h => h.elim id ?_⟩
    rintro rfl
    exact (c.served_iff _).2 (.inl waits)
  · rw [e, tryGrant_served_iff, served_iff, served_iff]
    have here : h ∈ (c.joined g).trim.fifo ↔ h ∈ c.trim.fifo ∨ h = g := by
      show h ∈ c.trim.fifo ++ [g] ↔ _
      simp
    have busy : (c.joined g).calibrating h = c.calibrating h := rfl
    rw [here, busy, or_right_comm]

/-- The groups of a list that are not served. -/
def unserved (gs : List Nat) : List Nat := gs.filter fun g => !c.served g

theorem joinGroups_frame (gs : List Nat) : Frame [.trim, .link] c (joinGroups gs c).1 := by
  induction gs generalizing c with
  | nil => exact .refl _ _
  | cons g gs ih =>
    unfold joinGroups
    split
    · exact ih c
    · exact (c.joinFifo_frame g).trans (ih _)

/-- R57: the groups that join are those that are not served, in their order. -/
theorem joinGroups_joined {gs : List Nat} (once : gs.Nodup) : (joinGroups gs c).2 = c.unserved gs := by
  induction gs generalizing c with
  | nil => rfl
  | cons g gs ih =>
    obtain ⟨fresh, once⟩ := List.nodup_cons.1 once
    unfold joinGroups
    split
    · next served =>
      rw [ih c once, unserved, unserved, List.filter_cons_of_neg (by simp [served])]
    · next unserved' =>
      have later : (c.joinFifo g).unserved gs = c.unserved gs := by
        refine List.filter_congr fun h mem => ?_
        have ne : h ≠ g := fun e => fresh (e ▸ mem)
        rw [Bool.not_inj_iff, Bool.eq_iff_iff, joinFifo_served_iff, or_iff_left ne]
      show g :: (joinGroups gs (c.joinFifo g)).2 = _
      rw [ih _ once, later, unserved, unserved, List.filter_cons_of_pos (by simp [unserved'])]

theorem joinGroups_served {gs : List Nat} {g : Nat} (h : c.served g = true ∨ g ∈ gs) : (joinGroups gs c).1.served g = true := by
  induction gs generalizing c with
  | nil => exact h.resolve_right (List.not_mem_nil)
  | cons x gs ih =>
    unfold joinGroups
    split
    · next served =>
      refine ih c (h.elim .inl fun mem => ?_)
      exact (List.mem_cons.1 mem).imp_left fun same : g = x => same ▸ served
    · refine ih _ ?_
      rw [joinFifo_served_iff, or_assoc]
      exact h.imp_right List.mem_cons.1

/-- R52: while no grant is open the groups that join stand in the FIFO, and no calibration begins. -/
theorem joinGroups_shut (shut : c.grantOpen = false) {gs : List Nat} (once : gs.Nodup) :
    (joinGroups gs c).1.trim.fifo = c.trim.fifo ++ c.unserved gs ∧ (joinGroups gs c).1.trim.cal = c.trim.cal := by
  rw [← c.joinGroups_joined once]
  clear once
  induction gs generalizing c with
  | nil => exact ⟨(List.append_nil _).symm, rfl⟩
  | cons g gs ih =>
    unfold joinGroups
    split
    · exact ih c shut
    · next unserved =>
      have waits : c.joinFifo g = c.joined g := by
        obtain ⟨mem, -⟩ | e := c.joinFifo_cases g
        · exact absurd ((c.served_iff g).2 (.inl mem)) unserved
        · obtain e' | ⟨_, _, _, isOpen, _⟩ := (c.joined g).tryGrant_cases
          · exact e.trans e'
          · exact absurd (shut.symm.trans isOpen) Bool.false_ne_true
      obtain ⟨fifo, cal⟩ := ih (c.joined g) shut
      rw [waits]
      refine ⟨fifo.trans ?_, cal⟩
      exact List.append_assoc c.trim.fifo [g] _

/-- R53: a group that finds the FIFO empty and the grant open is granted at once. -/
theorem joinFifo_grants {c : Controller} (isOpen : c.grantOpen = true) (none : c.trim.fifo = []) (g : Nat) :
    (c.joinFifo g).trim = (c.granted g []).trim := by
  obtain ⟨mem, -⟩ | e := c.joinFifo_cases g
  · rw [none] at mem
    cases mem
  · have fifo : (c.joined g).trim.fifo = g :: [] := congrArg (· ++ [g]) none
    have e' : (c.joined g).tryGrant = ((c.joined g).granted g []).report (.calStart g ((c.joined g).examsOf g).length 0) := by
      rw [tryGrant, fifo]
      exact if_pos isOpen
    rw [e, e', (report_frame _ _).trim (by simp)]
    rfl

/-- R53: the conditions of the grant that the request does not rule out. -/
theorem grantOpen_iff {c : Controller} (active : c.link.state = .active) : c.grantOpen = true ↔
    c.trim.cal = none ∧ c.rail.state ≠ .engaging ∧ c.rail.state ≠ .disengaging ∧ c.rail.state ≠ .settling := by
  refine ⟨fun isOpen => ?_, fun ⟨free, stands⟩ => grantOpen_of free active stands⟩
  rw [grantOpen, Bool.and_eq_true, Bool.and_eq_true, Option.isNone_iff_eq_none] at isOpen
  obtain ⟨⟨free, stands⟩, -⟩ := isOpen
  refine ⟨free, ?_⟩
  cases h : c.rail.state <;> simp_all

theorem examsOf_key_filter (g : Nat) : (c.examsOf g).map Exam.key =
    (groupKeys g).filter fun k => decide ((c.key k).state ≠ .fault ∧ (c.key k).state ≠ .muted) := by
  rw [examsOf, List.map_map]
  have keys : (Exam.key ∘ fun k =>
      { key := k, positional := (c.key k).state.positional, readings := Readings.none, allRest := true }) = id := rfl
  rw [keys, List.map_id]
  refine List.filter_congr fun k _ => ?_
  rw [Bool.eq_iff_iff]
  simp

end Controller

theorem calFull_unknown {g : Nat} {c : Controller} (ne : g ≠ 255) (out : 10 < g) :
    calFull g c = (c, { code := .badValue, fields := calFields [] c }) := if_pos ⟨ne, out⟩

theorem calFull_known {g : Nat} {c : Controller} (h : g ≤ 10) : calFull g c =
    if c.served g = true then (c, { code := .already, fields := calFields [] c })
    else ((c.joinFifo g).trimSync, { code := .accepted, fields := calFields [g] (c.joinFifo g) }) := by
  have one : g ≠ allGroups := fun e => absurd (e ▸ h) (by decide)
  have known : ¬ (g ≠ allGroups ∧ 10 < g) := fun bad => Nat.not_lt.2 h bad.2
  refine (if_neg known).trans ?_
  rw [if_neg one]
  by_cases served : c.served g = true
  · simp [joinGroups, served]
  · simp [joinGroups, served]

theorem calFull_all (c : Controller) : calFull 255 c =
    if c.unserved (List.range 11) = [] then (c, { code := .already, fields := calFields [] c })
    else ((joinGroups (List.range 11) c).1.trimSync,
      { code := .accepted, fields := calFields (c.unserved (List.range 11)) (joinGroups (List.range 11) c).1 }) := by
  rw [← c.joinGroups_joined List.nodup_range]
  have all : ¬ ((255 : Nat) ≠ allGroups ∧ 10 < 255) := fun h => h.1 rfl
  refine (if_neg all).trans ?_
  have whole : (if 255 = allGroups then List.range 11 else [255]) = List.range 11 := rfl
  rw [whole]
  simp only [List.isEmpty_iff]

/-- Settles O31: TRIM_SET by its checks, CAL_FULL by the groups that are not served. -/
theorem trimRequests : Obligations.TrimRequests := by
  intro tag s sv sized c fields listed grantable
  have active : c.link.state = .active := by
    rw [Controller.closeWindow_link]
    exact sv.2
  refine ⟨fun i p => ?tune, fun g => ?one, ?all⟩
  case tune =>
    intro same replies
    refine ⟨fun bad => .of_rule rfl sv (trimSet_refused p bad) rfl rfl, fun low high same =>
      .of_rule rfl sv ((trimSet_good p low high).trans (if_pos same)) rfl rfl, fun low high other => ?_⟩
    obtain ⟨rounds, trim⟩ := c.trimTuned_trim i (p != 0)
    have fifo : (c.trimTuned i (p != 0)).trim.fifo = c.trim.fifo := by rw [trim]
    have cal : (c.trimTuned i (p != 0)).trim.cal = c.trim.cal := by rw [trim]
    refine ⟨(c.trimTuned i (p != 0)).trimSync, .of_rule rfl sv ((trimSet_good p low high).trans (if_neg other)) rfl rfl,
      (c.trimTuned_frame _ _).trans (Controller.trimSync_frame _), congrArg TrimEngine.interval trim,
      congrArg TrimEngine.pullIn trim, fifo, cal, fun g hg =>
      ⟨c.trimTuned_timer i (p != 0) hg, ?_⟩⟩
    rw [Controller.trimSync_unit _ hg]
    show ((c.trimTuned i (p != 0)).trimUnit g).passedOver = _
    rw [Controller.trimUnit, trim]
    rfl
  case one =>
    intro replies
    refine ⟨fun out ne => .of_rule rfl sv (calFull_unknown ne out) rfl rfl, fun known served =>
      .of_rule rfl sv ((calFull_known known).trans (if_pos served)) rfl rfl, fun known unserved => ?_⟩
    have alone : (joinGroups [g] c).1 = c.joinFifo g := by simp [joinGroups, unserved]
    refine ⟨(c.joinFifo g).trimSync, .of_rule rfl sv
        ((calFull_known known).trans (if_neg (Bool.eq_false_iff.1 unserved))) rfl rfl,
      (c.joinFifo_frame g).trans ((Controller.trimSync_frame _).widen (by simp)), fun shut => ?_, fun isOpen none => ?_⟩
    · have kept := c.joinGroups_shut (Bool.eq_false_iff.2 (mt (Controller.grantOpen_iff active).1 shut))
        (List.nodup_singleton g)
      have here : c.unserved [g] = [g] := by simp [Controller.unserved, unserved]
      rw [alone, here] at kept
      exact kept
    · have trim := Controller.joinFifo_grants ((Controller.grantOpen_iff active).2 isOpen) none g
      exact ⟨congrArg TrimEngine.fifo trim, _, congrArg TrimEngine.cal trim, rfl, rfl, c.examsOf_key_filter g⟩
  case all =>
    intro gs
    have all : c.unserved (List.range 11) = gs := rfl
    have rule := calFull_all c
    rw [all] at rule
    by_cases none : gs = []
    · have served (g : Nat) (hg : g < 11) : c.served g = true := by
        have := List.filter_eq_nil_iff.1 none g (List.mem_range.2 hg)
        simpa using this
      refine ⟨c, ?_, .refl _ _, fun _ => rfl, served, fun _ => ⟨?_, rfl⟩⟩
      · rw [if_pos none, none]
        exact .of_rule rfl sv (rule.trans (if_pos none)) rfl rfl
      · rw [none, List.append_nil]
    · refine ⟨(joinGroups (List.range 11) c).1.trimSync, ?_,
        (c.joinGroups_frame _).trans ((Controller.trimSync_frame _).widen (by simp)), fun h => absurd h none,
        fun g hg => c.joinGroups_served (.inr (List.mem_range.2 hg)), fun shut => ?_⟩
      · rw [if_neg none]
        exact .of_rule rfl sv (rule.trans (if_neg none)) rfl rfl
      · exact c.joinGroups_shut (Bool.eq_false_iff.2 (mt (Controller.grantOpen_iff active).1 shut)) List.nodup_range

end Sys2Proof.Machine
end

section
/-! What the Player takes: the batch of due records, the loop jump and the end (R175, R179, R184, R189 to R191). -/

namespace Sys2Proof.Machine

/-! ### Settings and state of play -/

/-- The settings of the Player, which no event of a take changes (R177, R178). -/
def Player.settings (p : Player) : Nat × Nat × Bool × Bool × GuideHand × Nat :=
  (p.tempo, p.splitKey, p.muteLeft, p.muteRight, p.guide, p.chordWindow)

theorem Player.mutes_congr {p q : Player} (h : q.settings = p.settings) : q.mutes = p.mutes := by
  simp only [settings, Prod.mk.injEq] at h
  obtain ⟨-, split, left, right, -, -⟩ := h
  funext k
  rw [mutes, mutes, isLeft, isLeft, split, left, right]

theorem Player.guides_congr {p q : Player} (h : q.settings = p.settings) : q.guides = p.guides := by
  have mutes := mutes_congr h
  simp only [settings, Prod.mk.injEq] at h
  obtain ⟨-, split, -, -, guide, -⟩ := h
  funext k
  simp only [guides, mutes, isLeft, split, guide]

theorem playing_iff (c : Controller) : c.playerState = .playing ↔ ∃ x, c.player.session = some x ∧ x.phase = .playing := by
  rw [Controller.playerState]
  cases h : c.player.session with
  | none => simp
  | some x => cases phase : x.phase <;> simp [phase]

/-- R179: the take time has reached a record, which no armed loop holds back. -/
def Session.reaches (x : Session) (r : TakeRec) : Bool := decide (r.time * 1000 ≤ x.time ∧ x.holdsBack r.time = false)

theorem Session.holdsBack_iff (x : Session) (t : Nat) :
    x.holdsBack t = true ↔ ∃ l, x.loop = some l ∧ l.armed = true ∧ l.stop ≤ t := by
  rw [holdsBack]
  cases x.loop <;> simp

theorem Session.armed_eq_false (x : Session) : x.armed = false ↔ ∀ l, x.loop = some l → l.armed = false := by
  rw [armed]
  cases x.loop <;> simp

/-- R179: a record that is not taken lies ahead of the take time, or at or beyond the end of an armed loop. -/
theorem Session.not_reaches_iff {x : Session} {r : TakeRec} :
    x.reaches r = false ↔ x.time < r.time * 1000 ∨ ∃ l, x.loop = some l ∧ l.armed = true ∧ l.stop ≤ r.time := by
  rw [reaches, decide_eq_false_iff_not, not_and_or, Nat.not_le, Bool.not_eq_false, holdsBack_iff]

theorem jumpDue_eq_some {x : Session} {l : Loop} :
    Controller.jumpDue x = some l ↔ x.phase = .playing ∧ x.loop = some l ∧ l.armed = true ∧ l.stop * 1000 ≤ x.time := by
  rw [Controller.jumpDue]
  cases phase : x.phase <;> cases loop : x.loop <;> simp_all
  refine ⟨?_, ?_⟩
  · rintro ⟨⟨armed, ends⟩, rfl⟩
    exact ⟨rfl, armed, ends⟩
  · rintro ⟨rfl, armed, ends⟩
    exact ⟨⟨armed, ends⟩, rfl⟩

/-- The first element of a list that fails a test stands behind those before it that pass. -/
theorem getElem?_takeWhile_length {α : Type} {p : α → Bool} {l : List α} {a : α}
    (h : l[(l.takeWhile p).length]? = some a) : p a = false := by
  induction l with
  | nil => simp at h
  | cons x l ih =>
    by_cases hx : p x = true
    · rw [List.takeWhile_cons_of_pos hx, List.length_cons, List.getElem?_cons_succ] at h
      exact ih h
    · rw [List.takeWhile_cons_of_neg hx] at h
      exact Option.some.inj h ▸ Bool.eq_false_iff.2 hx

namespace Controller

variable (c : Controller)

/-! ### One record (R180, R181) -/

theorem playPedal_session (p v : Nat) :
    (c.playPedal p v).player.session = c.player.session ∧ (c.playPedal p v).player.settings = c.player.settings := by
  unfold playPedal
  split
  · rw [(reevaluateSource_frame _ _).player (by simp)]
    exact ⟨rfl, rfl⟩
  · rw [playSostenuto_player]
    split_ifs <;> exact ⟨rfl, rfl⟩
  · exact ⟨rfl, rfl⟩

/-- A record touches neither the session nor the settings of the Player. -/
theorem applyRecord_session (x : Session) (r : TakeRec) :
    (c.applyRecord x r).player.session = c.player.session ∧ (c.applyRecord x r).player.settings = c.player.settings := by
  unfold applyRecord
  split
  · split_ifs
    · exact ⟨rfl, rfl⟩
    · exact ⟨rfl, rfl⟩
    · rw [(poolStrike_frame _ _ _ _).player (by simp), raiseDamper_player]
      exact ⟨rfl, rfl⟩
  · split_ifs
    · exact ⟨rfl, rfl⟩
    · rw [raiseDamper_player]
      exact ⟨rfl, rfl⟩
  · split_ifs
    · exact ⟨rfl, rfl⟩
    · rw [lowerDamper_player]
      exact ⟨rfl, rfl⟩
  · exact c.playPedal_session _ _
  · rw [report_player]
    exact ⟨rfl, rfl⟩

/-- R179: the cursor passes a record: one consumed is skipped, any other applied. -/
def passRecord (x : Session) (r : TakeRec) : Controller :=
  if c.player.consumed.contains x.cursor then
    { c with player :=
      { c.player with session := some { x with cursor := x.cursor + 1 }, consumed := leaveKey x.cursor c.player.consumed } }
  else (c.setSession (some { x with cursor := x.cursor + 1 })).applyRecord { x with cursor := x.cursor + 1 } r

theorem passRecord_session (x : Session) (r : TakeRec) :
    (c.passRecord x r).player.session = some { x with cursor := x.cursor + 1 } ∧
      (c.passRecord x r).player.settings = c.player.settings := by
  unfold passRecord
  split
  · exact ⟨rfl, rfl⟩
  · exact applyRecord_session _ _ _

theorem applyBatch_stands {c : Controller} {x : Session} {r : TakeRec} (session : c.player.session = some x)
    (ahead : x.reaches r = false) (rs : List TakeRec) : applyBatch (r :: rs) c = c := by
  rw [applyBatch, session]
  exact if_neg (of_decide_eq_false ahead)

theorem applyBatch_passes {c : Controller} {x : Session} {r : TakeRec} (session : c.player.session = some x)
    (reached : x.reaches r = true) (rs : List TakeRec) : applyBatch (r :: rs) c = applyBatch rs (c.passRecord x r) := by
  rw [applyBatch, session]
  refine (if_pos (of_decide_eq_true reached)).trans ?_
  unfold passRecord
  split
  · next consumed => exact if_pos consumed
  · next fresh => exact if_neg fresh

/-! ### The batch (R179) -/

/-- What a batch makes of the controller, from what one record makes of it: the records taken are those that the take time has reached, one after another. -/
theorem applyBatch_induct {motive : List TakeRec → Session → Controller → Prop}
    (done : ∀ c x, c.player.session = some x → motive [] x c)
    (passes : ∀ r rs x b, motive rs { x with cursor := x.cursor + 1 } b → motive (r :: rs) x b)
    (rs : List TakeRec) {c : Controller} {x : Session} (session : c.player.session = some x) :
    motive (rs.takeWhile x.reaches) x (applyBatch rs c) := by
  induction rs generalizing c x with
  | nil => exact done c x session
  | cons r rs ih =>
    by_cases reached : x.reaches r = true
    · rw [applyBatch_passes session reached, List.takeWhile_cons_of_pos reached]
      exact passes _ _ _ _ (ih (c.passRecord_session x r).1)
    · rw [applyBatch_stands session (Bool.eq_false_iff.2 reached), List.takeWhile_cons_of_neg reached]
      exact done c x session

/-- R179: the cursor passes the records that a batch takes. -/
theorem applyBatch_session (rs : List TakeRec) {c : Controller} {x : Session} (session : c.player.session = some x) :
    (applyBatch rs c).player.session = some { x with cursor := x.cursor + (rs.takeWhile x.reaches).length } := by
  refine applyBatch_induct
    (motive := fun rs x b => b.player.session = some { x with cursor := x.cursor + rs.length }) (fun c x h => h)
    (fun r rs x b h => ?_) rs session
  rw [h, List.length_cons, Nat.add_assoc, Nat.add_comm 1]

theorem applyBatch_settings (rs : List TakeRec) : (applyBatch rs c).player.settings = c.player.settings := by
  induction rs generalizing c with
  | nil => rfl
  | cons r rs ih =>
    cases session : c.player.session with
    | none => rw [applyBatch, session]
    | some x =>
      by_cases reached : x.reaches r = true
      · rw [applyBatch_passes session reached, ih]
        exact (c.passRecord_session x r).2
      · rw [applyBatch_stands session (Bool.eq_false_iff.2 reached)]

/-- R179: the records of its slot that a session takes now. -/
def reachedRecords (x : Session) : List TakeRec := ((c.records x.slot).drop x.cursor).takeWhile x.reaches

/-- R179: the session with its cursor past what it takes now. -/
def advanced (x : Session) : Session := { x with cursor := x.cursor + (c.reachedRecords x).length }

/-- R179: the controller after the batch of a session. -/
def batched (x : Session) : Controller := applyBatch ((c.records x.slot).drop x.cursor) c

theorem advanced_ahead (x : Session) {r : TakeRec} (h : (c.records x.slot)[(c.advanced x).cursor]? = some r) :
    x.reaches r = false := by
  refine getElem?_takeWhile_length (l := (c.records x.slot).drop x.cursor) ?_
  rw [List.getElem?_drop]
  exact h

/-- R179, R191: a batch ends with no key expected, or in a wait. -/
theorem runBatch_cases {c : Controller} {x : Session} (session : c.player.session = some x) :
    ((c.batched x).player.expected = [] ∧ c.runBatch = c.batched x) ∨
      ((c.batched x).player.expected ≠ [] ∧ c.runBatch =
        ((c.batched x).setSession (some { c.advanced x with phase := .waiting, due := none })).reportState
          { c.advanced x with phase := .waiting, due := none } (.waiting (c.batched x).player.expected)) := by
  have moved : (applyBatch ((c.records x.slot).drop x.cursor) c).player.session = some (c.advanced x) :=
    applyBatch_session _ session
  have run : c.runBatch = if (c.batched x).player.expected.isEmpty then c.batched x else
      ((c.batched x).setSession (some { c.advanced x with phase := .waiting, due := none })).reportState
        { c.advanced x with phase := .waiting, due := none } (.waiting (c.batched x).player.expected) := by
    rw [runBatch, session]
    dsimp only
    rw [moved]
    rfl
  by_cases none : (c.batched x).player.expected = []
  · exact .inl ⟨none, run.trans (if_pos (List.isEmpty_iff.2 none))⟩
  · exact .inr ⟨none, run.trans (if_neg (mt List.isEmpty_iff.1 none))⟩

/-- The session after a batch: where it was with its cursor moved, or in a wait. -/
theorem runBatch_session {c : Controller} {x : Session} (session : c.player.session = some x) :
    ∃ y, c.runBatch.player.session = some y ∧ y.loop = x.loop ∧ y.time = x.time ∧
      (y.phase = .waiting ∨ (y = c.advanced x ∧ c.runBatch.player.expected = [])) := by
  have moved : (c.batched x).player.session = some (c.advanced x) := applyBatch_session _ session
  obtain ⟨none, e⟩ | ⟨-, e⟩ := runBatch_cases session
  · rw [e]
    exact ⟨_, moved, rfl, rfl, .inr ⟨rfl, none⟩⟩
  · rw [e, reportState, report_player]
    exact ⟨_, rfl, rfl, rfl, .inl rfl⟩

theorem runBatch_settings : c.runBatch.player.settings = c.player.settings := by
  cases session : c.player.session with
  | none => rw [runBatch, session]
  | some x =>
    obtain ⟨-, e⟩ | ⟨-, e⟩ := runBatch_cases session
    · rw [e]
      exact c.applyBatch_settings _
    · rw [e, reportState, report_player]
      exact c.applyBatch_settings _

/-- Where the next record is not reached and no key is expected, a batch takes nothing. -/
theorem runBatch_nothing {c : Controller} {x : Session} (session : c.player.session = some x)
    (ahead : ∀ r, (c.records x.slot)[x.cursor]? = some r → x.reaches r = false) (none : c.player.expected = []) :
    c.runBatch = c := by
  have stands : c.batched x = c := by
    unfold batched
    cases rest : (c.records x.slot).drop x.cursor with
    | nil => rfl
    | cons r rs =>
      refine applyBatch_stands session (ahead r ?_) rs
      rw [← List.head?_drop, rest]
      rfl
  obtain ⟨-, e⟩ | ⟨some, -⟩ := runBatch_cases session
  · exact e.trans stands
  · rw [stands] at some
    exact absurd none some

/-! ### The end and the due timer (R175, R184) -/

/-- R175, R179, R190: a playing session has taken what its take time has reached, the natural end apart. -/
structure Taken (x : Session) : Prop where
  records : ∀ r, (c.records x.slot)[x.cursor]? = some r → x.reaches r = false
  loop : ∀ l, x.loop = some l → l.armed = true → x.time < l.stop * 1000
  nothingExpected : c.player.expected = []

/-- R175: the due timer of a playing session computed afresh. -/
def dueSet (x : Session) : Controller := c.setSession (some { x with due := some (c.dueDeadline x) })

theorem setDue_playing {c : Controller} {x : Session} (session : c.player.session = some x) (playing : x.phase = .playing) :
    c.setDue = c.dueSet x := by
  rw [setDue, session]
  dsimp only
  split
  · rfl
  · next waits => cases playing.symm.trans waits
  · next stands => cases playing.symm.trans stands

theorem endOrDue_ends {c : Controller} {x : Session} (session : c.player.session = some x) (ends : c.atEnd x = true) :
    c.endOrDue = c.naturalEnd x := by
  rw [endOrDue, session]
  exact if_pos ends

theorem endOrDue_goesOn {c : Controller} {x : Session} (session : c.player.session = some x) (playing : x.phase = .playing)
    (goesOn : c.atEnd x = false) : c.endOrDue = c.dueSet x := by
  rw [endOrDue, session]
  exact (if_neg (Bool.eq_false_iff.1 goesOn)).trans (setDue_playing session playing)

/-- R184: the natural end, in the fields of a session. -/
theorem atEnd_iff {x : Session} (playing : x.phase = .playing) : c.atEnd x = true ↔
    c.count x.slot ≤ x.cursor ∧ c.length x.slot * 1000 ≤ x.time ∧ x.armed = false := by
  simp [atEnd, playing, and_assoc]

/-- A Player without a playing session has nothing to catch up with. -/
theorem caughtUp_of_not_playing {c : Controller} (h : ∀ x, c.player.session = some x → x.phase ≠ .playing) : c.CaughtUp :=
  ⟨fun x _ e p => absurd p (h x e), fun x _ e p => absurd p (h x e), fun x e p => absurd p (h x e),
    fun x e p => absurd p (h x e), fun x e p => absurd p (h x e)⟩

theorem dueSet_caughtUp {c : Controller} {x : Session} (taken : c.Taken x) (playing : x.phase = .playing)
    (goesOn : c.atEnd x = false) : (c.dueSet x).CaughtUp := by
  have here {y : Session} (h : (c.dueSet x).player.session = some y) : y = { x with due := some (c.dueDeadline x) } :=
    (Option.some.inj h).symm
  constructor
  case records =>
    intro y r h _ hr
    obtain rfl := here h
    exact Session.not_reaches_iff.1 (taken.records r hr)
  case loop =>
    intro y l h _ hl armed
    obtain rfl := here h
    exact taken.loop l hl armed
  case finish =>
    intro y h _ past unarmed
    obtain rfl := here h
    refine Nat.lt_of_not_le fun reached => Bool.eq_false_iff.1 goesOn ((c.atEnd_iff playing).2 ⟨past, reached, ?_⟩)
    exact x.armed_eq_false.2 unarmed
  case nothingExpected => exact fun _ _ _ => taken.nothingExpected
  case timer =>
    intro y h _
    obtain rfl := here h
    rfl

/-- R184: what the natural end leaves of the Player. -/
theorem naturalEnd_session (x : Session) : (c.naturalEnd x).player.session = none := by
  rw [naturalEnd_player]
  rfl

theorem endOrDue_caughtUp {c : Controller} {x : Session} (session : c.player.session = some x)
    (taken : x.phase = .playing → c.Taken x) : c.endOrDue.CaughtUp := by
  by_cases ends : c.atEnd x = true
  · rw [endOrDue_ends session ends]
    exact caughtUp_of_not_playing fun y h => by rw [naturalEnd_session] at h; cases h
  · by_cases playing : x.phase = .playing
    · rw [endOrDue_goesOn session playing (Bool.eq_false_iff.2 ends)]
      exact dueSet_caughtUp (taken playing) playing (Bool.eq_false_iff.2 ends)
    · have due : c.endOrDue = c.setSession (some { x with due := none }) := by
        rw [endOrDue, session]
        refine (if_neg ends).trans ?_
        rw [setDue, session]
        dsimp only
        split
        · next plays => exact absurd plays playing
        · rfl
        · rfl
      rw [due]
      exact caughtUp_of_not_playing fun y h => Option.some.inj h ▸ playing

/-! ### The loop jump (R190) -/

/-- R190: the loop of a jump, a pass counted and armed afresh at its start. -/
def jumpedLoop (l : Loop) : Loop := { l with passes := l.passes + 1 }.rearm (l.start * 1000)

/-- R190: the session that a jump leaves, before what it finds there. -/
def jumpedSession (x : Session) (l : Loop) : Session :=
  { x with
    cursor := indexAt (c.records x.slot) l.start, time := l.start * 1000, remainder := 0, since := c.now
    loop := some (jumpedLoop l) }

/-- R190: the controller at the start of the loop, before the records that it finds there. -/
def jumped (x : Session) (l : Loop) : Controller :=
  ((c.fadePlayback.setPlayPedals l.damper l.sostenuto l.soft).setSession (some (c.jumpedSession x l))).report
    (.loopJump l.start l.stop l.count (l.passes + 1))

theorem loopJump_eq (x : Session) (l : Loop) : c.loopJump x l = (c.jumped x l).runBatch := by
  have takes : c.fadePlayback.takes = c.takes := c.fadePlayback_frame.takes (by simp)
  have now : c.fadePlayback.now = c.now := congrArg StageClock.time (c.fadePlayback_frame.clock (by simp))
  rw [loopJump, jumped, jumpedSession, ← records_congr takes, ← now]
  rfl

theorem jumped_session (x : Session) (l : Loop) : (c.jumped x l).player.session = some (c.jumpedSession x l) := by
  rw [jumped, report_player]
  rfl

/-- R190: the jump stands before the end of its loop while the loop is armed. -/
theorem jumpedLoop_before {l : Loop} (armed : (jumpedLoop l).armed = true) : l.start * 1000 < l.stop * 1000 := by
  rw [jumpedLoop, Loop.rearm, Bool.and_eq_true, decide_eq_true_eq] at armed
  exact armed.2

/-! ### Everything reached (R175) -/

theorem takeReached_jumps {c : Controller} {x y : Session} {l : Loop} (session : c.player.session = some x)
    (playing : x.phase = .playing) (after : c.runBatch.player.session = some y) (jump : jumpDue y = some l) :
    c.takeReached = (c.runBatch.loopJump y l).endOrDue := by
  rw [takeReached, if_pos ((playing_iff c).2 ⟨x, session, playing⟩)]
  dsimp only
  rw [after]
  dsimp only
  rw [jump]

theorem takeReached_stays {c : Controller} {x y : Session} (session : c.player.session = some x)
    (playing : x.phase = .playing) (after : c.runBatch.player.session = some y) (stays : jumpDue y = none) :
    c.takeReached = c.runBatch.endOrDue := by
  rw [takeReached, if_pos ((playing_iff c).2 ⟨x, session, playing⟩)]
  dsimp only
  rw [after]
  dsimp only
  rw [stays]

/-- R179: after a batch the next record of a session that plays on is not reached, and no key is expected. -/
theorem runBatch_ahead {c : Controller} {x y : Session} (session : c.player.session = some x)
    (after : c.runBatch.player.session = some y) (playing : y.phase = .playing) :
    (∀ r, (c.runBatch.records y.slot)[y.cursor]? = some r → y.reaches r = false) ∧ c.runBatch.player.expected = [] := by
  obtain ⟨z, hz, -, -, waiting | ⟨moved, none⟩⟩ := runBatch_session session
  · obtain rfl := Option.some.inj (hz.symm.trans after)
    rw [waiting] at playing
    cases playing
  · obtain rfl := Option.some.inj (hz.symm.trans after)
    refine ⟨fun r hr => ?_, none⟩
    rw [records_congr (c.runBatch_frame.takes (by simp)), moved] at hr
    rw [moved]
    exact c.advanced_ahead x hr

/-- R175: in PLAYING, the Player is caught up with its take time. -/
theorem takeReached_caughtUp (h : c.playerState = .playing) : c.takeReached.CaughtUp := by
  obtain ⟨x, session, playing⟩ := (playing_iff c).1 h
  obtain ⟨y, after, -, -, -⟩ := runBatch_session session
  cases jump : jumpDue y with
  | some l =>
    have fresh := c.runBatch.jumped_session y l
    obtain ⟨z, afterJump, loop, time, -⟩ := runBatch_session fresh
    rw [takeReached_jumps session playing after jump, loopJump_eq]
    refine endOrDue_caughtUp afterJump fun plays => ?_
    obtain ⟨ahead, none⟩ := runBatch_ahead fresh afterJump plays
    refine ⟨ahead, fun m hm armed => ?_, none⟩
    obtain rfl := Option.some.inj (loop.symm.trans hm)
    rw [time]
    exact jumpedLoop_before armed
  | none =>
    rw [takeReached_stays session playing after jump]
    refine endOrDue_caughtUp after fun plays => ?_
    obtain ⟨ahead, none⟩ := runBatch_ahead session after plays
    refine ⟨ahead, fun l hl armed => Nat.lt_of_not_le fun ends => ?_, none⟩
    rw [jumpDue_eq_some.2 ⟨plays, hl, armed, ends⟩] at jump
    cases jump

theorem takeReached_caughtUp_of {c : Controller} {x : Session} (session : c.player.session = some x)
    (playing : x.phase = .playing) : c.takeReached.CaughtUp :=
  c.takeReached_caughtUp ((playing_iff c).2 ⟨x, session, playing⟩)

/-- R175: a session that has taken what it reached, and is not at its end, has its due timer computed afresh alone. -/
theorem takeReached_dueSet {c : Controller} {x : Session} (session : c.player.session = some x) (playing : x.phase = .playing)
    (taken : c.Taken x) (goesOn : c.atEnd x = false) : c.takeReached = c.dueSet x := by
  have batch := runBatch_nothing session taken.records taken.nothingExpected
  have after : c.runBatch.player.session = some x := by rw [batch, session]
  have stays : jumpDue x = none := by
    cases jump : jumpDue x with
    | none => rfl
    | some l =>
      obtain ⟨-, loop, armed, ends⟩ := jumpDue_eq_some.1 jump
      exact absurd (taken.loop l loop armed) (Nat.not_lt.2 ends)
  rw [takeReached_stays session playing after stays, batch, endOrDue_goesOn session playing goesOn]

/-- A record that lies ahead holds the session short of its end. -/
theorem atEnd_of_record {x : Session} {r : TakeRec} (h : (c.records x.slot)[x.cursor]? = some r) : c.atEnd x = false := by
  have inside : x.cursor < c.count x.slot := (List.getElem?_eq_some_iff.1 h).1
  rw [atEnd, decide_eq_false (Nat.not_le.2 inside), Bool.and_false, Bool.false_and, Bool.false_and]

/-- R175: a Player of which nothing is due. -/
theorem takeReached_nothingDue {c : Controller} {x : Session} (session : c.player.session = some x) (playing : x.phase = .playing)
    (nothing : c.NothingDue x) : c.takeReached = c.dueSet x := by
  obtain ⟨loop, none, r, next, ahead⟩ := nothing
  refine takeReached_dueSet session playing ⟨fun q hq => ?_, fun l hl => ?_, none⟩ (c.atEnd_of_record next)
  · obtain rfl := Option.some.inj (next.symm.trans hq)
    exact Session.not_reaches_iff.2 (.inl ahead)
  · rw [loop] at hl
    cases hl

/-! ### Settings through all of it -/

theorem naturalEnd_settings (x : Session) : (c.naturalEnd x).player.settings = c.player.settings := by
  rw [naturalEnd_player]
  rfl

theorem endOrDue_settings : c.endOrDue.player.settings = c.player.settings := by
  unfold endOrDue
  split
  · split
    · exact c.naturalEnd_settings _
    · unfold setDue
      split
      · split <;> rfl
      · rfl
  · rfl

theorem loopJump_settings (x : Session) (l : Loop) : (c.loopJump x l).player.settings = c.player.settings := by
  rw [loopJump_eq, runBatch_settings, jumped, report_player]
  show c.fadePlayback.player.settings = c.player.settings
  rw [c.fadePlayback_frame.player (by simp)]

/-- R177, R178: no event of a take touches the settings of the Player. -/
theorem takeReached_settings : c.takeReached.player.settings = c.player.settings := by
  by_cases h : c.playerState = .playing
  · obtain ⟨x, session, playing⟩ := (playing_iff c).1 h
    obtain ⟨y, after, -⟩ := runBatch_session session
    cases jump : jumpDue y with
    | some l =>
      rw [takeReached_jumps session playing after jump, endOrDue_settings, loopJump_settings, runBatch_settings]
    | none => rw [takeReached_stays session playing after jump, endOrDue_settings, runBatch_settings]
  · rw [c.takeReached_of_not_playing h]

/-! ### The take time brought up to date (R174) -/

/-- R174: the take time of a playing session at a stage time. -/
def brought (x : Session) : Session :=
  { x with
    time := x.time + (elapsed c.now x.since * c.player.tempo + x.remainder) / 100
    remainder := (elapsed c.now x.since * c.player.tempo + x.remainder) % 100, since := c.now }

theorem bringUp_playing {c : Controller} {x : Session} (session : c.player.session = some x) (playing : x.phase = .playing) :
    c.bringUp = c.setSession (some (c.brought x)) := by
  rw [bringUp, session]
  dsimp only
  rw [Session.upTo]
  split
  · rfl
  · next waits => cases playing.symm.trans waits
  · next stands => cases playing.symm.trans stands

theorem bringUp_still {c : Controller} (h : c.playerState ≠ .playing) : c.bringUp = c := by
  cases session : c.player.session with
  | none => rw [bringUp, session]
  | some x =>
    have stands : x.upTo c.player.tempo c.now = x := by
      rw [Session.upTo]
      cases phase : x.phase with
      | playing => exact absurd ((playing_iff c).2 ⟨x, session, phase⟩) h
      | waiting | paused => rfl
    rw [bringUp, session]
    dsimp only
    rw [stands, ← session, setSession_self]

/-- R174: bringing the take time up to date changes the session alone, and of it only the time. -/
theorem bringUp_session {c : Controller} {x : Session} (session : c.bringUp.player.session = some x) :
    ∃ y, c.player.session = some y ∧ x.phase = y.phase ∧ x.slot = y.slot ∧ x.loop = y.loop ∧ x.cursor = y.cursor ∧
      (y.phase ≠ .playing → x = y) ∧ (y.phase = .playing → x = c.brought y) := by
  cases h : c.player.session with
  | none =>
    rw [bringUp, h] at session
    dsimp only at session
    rw [h] at session
    cases session
  | some y =>
    by_cases playing : y.phase = .playing
    · rw [bringUp_playing h playing] at session
      obtain rfl := Option.some.inj session
      exact ⟨y, rfl, rfl, rfl, rfl, rfl, fun no => absurd playing no, fun _ => rfl⟩
    · have still : c.playerState ≠ .playing := fun plays => by
        obtain ⟨z, hz, phase⟩ := (playing_iff c).1 plays
        exact playing (Option.some.inj (h.symm.trans hz) ▸ phase)
      rw [bringUp_still still] at session
      obtain rfl := Option.some.inj (h.symm.trans session)
      exact ⟨y, rfl, rfl, rfl, rfl, rfl, fun _ => rfl, fun yes => absurd yes playing⟩

theorem bringUp_player : c.bringUp.player = { c.player with session := c.bringUp.player.session } := by
  unfold bringUp
  split <;> rfl

end Controller
end Sys2Proof.Machine
end

section
/-! The requests that read a block (R22, R41, R78, R103, R128, R155, R196). -/

namespace Sys2Proof.Machine

theorem keyRead_known {n : Nat} {c : Controller} (h : 1 ≤ n ∧ n ≤ 88) : keyRead n c =
    (c, { code := .ok, fields :=
      codeByte (c.key n).state.code ++ optLE 2 ((c.key n).latest.map Sample.depth) ++ optLE 2 (c.key n).restRaw
        ++ bytesLE 2 (c.key n).nominal ++ bytesLE 2 (c.key n).bottom ++ bytesLE 2 (c.key n).travel
        ++ signed2 (c.key n).levelTrim ++ signed2 (c.key n).debt ++ flagByte (c.key n).stale ++ flagByte (c.key n).muted
        ++ flagByte (c.key n).holdOff ++ thresholdFields c.thresholds }) := by
  have known : keyOk n = true := (keyOk_iff n).2 h
  exact if_neg (Bool.not_eq_false _ ▸ known)

theorem keyRead_unknown {n : Nat} {c : Controller} (h : n = 0 ∨ 88 < n) :
    keyRead n c = (c, { code := .badValue, fields := [] }) := by
  refine if_pos (Bool.eq_false_iff.2 fun known => ?_)
  have := (keyOk_iff n).1 known
  omega

theorem curveRead_known (name : Curve) (c : Controller) : curveRead name.code c =
    (c, { code := .ok, fields := ((c.curve name).flatMap fun l => bytesLE 2 l) ++ codeByte c.curveInUse.code }) := by
  rw [curveRead, curveOf_code]

theorem curveRead_unknown {n : Nat} {c : Controller} (h : 1 < n) : curveRead n c = (c, { code := .badValue, fields := [] }) := by
  obtain ⟨m, rfl⟩ := Nat.exists_eq_add_of_le' h
  rfl

/-- R38: the curve in use is SILENT at a rail that stands engaged. -/
theorem curveInUse_code (c : Controller) : c.curveInUse.code =
    if c.rail.lastStop = .engaged then Curve.silent.code else Curve.acoustic.code := by
  rw [Controller.curveInUse]
  cases c.rail.lastStop <;> rfl

theorem hasRecovery_iff (x : RailState) : x.hasRecovery = true ↔ x = .waitQuiet ∨ x = .disengaging ∨ x = .settling := by
  cases x <;> decide

theorem voiceRead_unknown {n : Nat} {c : Controller} (h : 7 < n) :
    voiceRead n c = (c, { code := .badValue, fields := usedFields c }) := if_pos h

theorem takeInfo_unknown {n : Nat} {c : Controller} (h : 1 < n) : takeInfo n c = (c, { code := .badValue, fields := [] }) := by
  rw [takeInfo, slotOf_unknown h]
  rfl

/-- R155: the time of the last record, absent in an empty slot. -/
theorem lastTime_field (rs : List TakeRec) :
    (if rs.isEmpty then none else some (lastTime rs)) = rs.getLast?.map TakeRec.time := by
  cases h : rs.getLast? with
  | none =>
    rw [List.getLast?_eq_none_iff.1 h]
    rfl
  | some r =>
    have some : ¬ rs.isEmpty := fun e => by
      rw [List.isEmpty_iff.1 e] at h
      cases h
    rw [if_neg some, lastTime, h]
    rfl

/-- The state a pause was taken from, in the snapshot of the Player (R196). -/
def pausedFrom (c : Controller) : Option Nat :=
  match c.player.session with
  | some { phase := .paused true, .. } => some PlayerState.waiting.code
  | some { phase := .paused false, .. } => some PlayerState.playing.code
  | _ => none

theorem playerSnapshot_eq (c : Controller) : playerSnapshot c =
    codeByte c.playerState.code ++ optLE 1 (pausedFrom c) ++ optLE 1 (c.player.session.map fun x => x.slot.code)
      ++ optLE 2 (c.player.session.map fun x => x.cursor) ++ optLE 5 (c.player.session.map fun x => x.time)
      ++ optLE 2 (c.player.session.map fun x => x.remainder) ++ bytesLE 2 c.player.tempo ++ codeByte c.player.splitKey
      ++ codeByte (muteMask c.player) ++ codeByte c.player.guide.code ++ bytesLE 3 c.player.chordWindow ++ loopFields c
      ++ bytesLE 2 c.player.damper ++ bytesLE 2 c.player.sostenuto ++ bytesLE 2 c.player.soft ++ flagByte c.player.engaged
      ++ keyBitmap c.player.keyDown ++ keyBitmap c.player.held ++ keyBitmap c.player.expected
      ++ bytesLE 2 c.player.consumed.length := by
  have from_ : (match c.player.session with
      | some { phase := .paused w, .. } => some (if w then PlayerState.waiting.code else PlayerState.playing.code)
      | _ => none) = pausedFrom c := by
    unfold pausedFrom
    rcases c.player.session with _ | ⟨phase, _, _, _, _, _, _, _⟩
    · rfl
    · rcases phase with _ | _ | _ | _ <;> rfl
  rw [← from_]
  rfl

/-- R174: the session of a Player brought up to date. -/
theorem bringUp_map (c : Controller) : c.bringUp.player.session =
    c.player.session.map fun x => if x.phase = .playing then c.brought x else x := by
  cases session : c.player.session with
  | none => rw [Controller.bringUp, session]; exact session
  | some x =>
    by_cases playing : x.phase = .playing
    · rw [Controller.bringUp_playing session playing, Option.map_some, if_pos playing]
      rfl
    · have still : c.playerState ≠ .playing := fun plays => by
        obtain ⟨z, hz, phase⟩ := (playing_iff c).1 plays
        exact playing (Option.some.inj (session.symm.trans hz) ▸ phase)
      rw [Controller.bringUp_still still, session, Option.map_some, if_neg playing]

/-- Settles O22: each request by its rule; PLAY_READ by what the take time has reached. -/
theorem snapshotReplies : Obligations.SnapshotReplies := by
  intro tag n s sv c bad
  refine ⟨fun out => .of_rule rfl sv (keyRead_unknown out) rfl rfl, ?key, fun out =>
    .of_rule rfl sv (curveRead_unknown out) rfl rfl, ?curve, ?reading, ?rail, fun out =>
    .of_rule rfl sv (voiceRead_unknown out) rfl rfl, ?voices, fun out => .of_rule rfl sv (takeInfo_unknown out) rfl rfl,
    ?slot, ?player⟩
  case key =>
    intro low high r
    have rule := keyRead_known (c := c) ⟨low, high⟩
    simp only [thresholdFields, ← List.append_assoc] at rule
    exact .of_rule rfl sv rule rfl rfl
  case curve =>
    rintro name rfl
    rw [← curveInUse_code]
    exact .of_rule rfl sv (curveRead_known name c) rfl rfl
  case reading =>
    refine .of_rule rfl sv ?_ rfl rfl
    simp only [List.flatMap_cons, List.flatMap_nil, List.append_nil]
    rw [pedalRead, ← List.append_assoc]
    rfl
  case rail =>
    simp only [← hasRecovery_iff]
    exact .of_rule rfl sv rfl rfl rfl
  case voices =>
    intro within
    refine .of_rule rfl sv ((if_neg (Nat.not_lt.2 within)).trans ?_) rfl rfl
    simp only [usedFields, toneFields, layerFields, ← List.append_assoc]
    rfl
  case slot =>
    rintro sl rfl
    refine .of_rule rfl sv ?_ rfl rfl
    rw [takeInfo, slotOf_code]
    dsimp only
    rw [lastTime_field]
    rfl
  case player =>
    have rule : playRead c = (c.bringUp.takeReached, { code := .ok, fields := playerSnapshot c.bringUp }) := rfl
    rw [playerSnapshot_eq] at rule
    refine ⟨c.bringUp, c.bringUp.takeReached, ?_, c.bringUp_frame, ?_, c.bringUp.takeReached_frame,
      c.bringUp.takeReached_of_not_playing, c.bringUp.takeReached_caughtUp, fun x session playing nothing =>
      ⟨_, Controller.takeReached_nothingDue session playing nothing⟩⟩
    · exact .of_rule rfl sv rule rfl rfl
    · rw [c.bringUp_player, bringUp_map]
      rfl

end Sys2Proof.Machine
end

section
/-! Guided waiting: what a guided STRIKE expects, and what a LIVE strike takes of it (R191, R192). -/

namespace Sys2Proof.Machine

theorem Session.holdsBack_eq_false (x : Session) (t : Nat) :
    x.holdsBack t = false ↔ ∀ l, x.loop = some l → l.armed = true → t < l.stop := by
  rw [← Bool.not_eq_true, holdsBack_iff]
  simp only [not_exists, not_and, Nat.not_le]

theorem mem_foldl_joinKey {α : Type} (f : α → Nat) (k : Nat) (l : List α) (ks : List Nat) :
    k ∈ (l.map f).foldl (fun acc x => joinKey x acc) ks ↔ k ∈ ks ∨ ∃ a ∈ l, f a = k := by
  induction l generalizing ks with
  | nil => simp
  | cons a l ih =>
    rw [List.map_cons, List.foldl_cons, ih, mem_joinKey]
    simp only [List.exists_mem_cons_iff, eq_comm (a := f a), or_assoc, or_left_comm]

namespace Controller

variable (c : Controller)

/-- R191: a STRIKE record that a guided strike of time `t` takes with it, at its index in the slot. -/
def InChord (x : Session) (t i : Nat) (q : TakeRec) : Prop :=
  q.kind = .strike ∧ c.player.guides q.subject = true ∧ t ≤ q.time ∧ q.time ≤ t + c.player.chordWindow ∧
    x.holdsBack q.time = false ∧ c.player.consumed.contains i = false

theorem mem_chordRecords (x : Session) (t : Nat) {i j k : Nat} (rs : List TakeRec) :
    (j, k) ∈ c.chordRecords x t i rs ↔ ∃ q, i ≤ j ∧ rs[j - i]? = some q ∧ c.InChord x t j q ∧ q.subject = k := by
  induction rs generalizing i with
  | nil => simp [chordRecords]
  | cons r rs ih =>
    have later : (∃ q, i ≤ j ∧ (r :: rs)[j - i]? = some q ∧ c.InChord x t j q ∧ q.subject = k) ↔
        (j = i ∧ c.InChord x t i r ∧ r.subject = k) ∨
          ∃ q, i + 1 ≤ j ∧ rs[j - (i + 1)]? = some q ∧ c.InChord x t j q ∧ q.subject = k := by
      rcases Nat.lt_trichotomy j i with lt | rfl | gt
      · have out : ¬ i ≤ j := Nat.not_le.2 lt
        have out' : ¬ i + 1 ≤ j := fun h => out (Nat.le_of_succ_le h)
        simp [out, out', Nat.ne_of_lt lt]
      · simp
      · have inside : j - i = j - (i + 1) + 1 := by omega
        simp [inside, Nat.le_of_lt gt, Nat.succ_le_of_lt gt, Nat.ne_of_gt gt]
    rw [later, ← ih, chordRecords]
    split
    · next taken =>
      rw [List.mem_cons, Prod.mk.injEq]
      refine or_congr_left ⟨?_, ?_⟩
      · rintro ⟨rfl, rfl⟩
        exact ⟨rfl, taken, rfl⟩
      · rintro ⟨rfl, -, rfl⟩
        exact ⟨rfl, rfl⟩
    · next refused => exact ⟨.inr, fun h => h.resolve_left fun ⟨_, taken, _⟩ => refused taken⟩

/-- R191: the records of a session that a guided strike takes with it. -/
theorem mem_found (x : Session) (t j k : Nat) :
    (j, k) ∈ c.chordRecords x t x.cursor ((c.records x.slot).drop x.cursor) ↔
      ∃ q, x.cursor ≤ j ∧ (c.records x.slot)[j]? = some q ∧ c.InChord x t j q ∧ q.subject = k := by
  rw [mem_chordRecords]
  refine exists_congr fun q => and_congr_right fun le => ?_
  rw [List.getElem?_drop, Nat.add_sub_cancel' le]

theorem applyRecord_guided {c : Controller} {x : Session} {r : TakeRec} (strike : r.kind = .strike)
    (guided : c.player.guides r.subject = true) : c.applyRecord x r = c.formWait x r.subject r.time := by
  have open_ : ¬ c.player.mutes r.subject = true := fun muted => by simp [Player.guides, muted] at guided
  rw [applyRecord, strike]
  exact (if_neg open_).trans (if_pos guided)

/-! ### A LIVE strike (R192) -/

theorem session_still {c : Controller} {x : Session} (session : c.player.session = some x) (still : x.phase ≠ .playing) :
    c.playerState ≠ .playing := fun plays => by
  obtain ⟨y, hy, playing⟩ := (playing_iff c).1 plays
  exact still (Option.some.inj (session.symm.trans hy) ▸ playing)

/-- R192: a LIVE strike in a wait, before any wait ends. -/
def expects (k : Nat) : Controller := { c with player := { c.player with expected := leaveKey k c.player.expected } }

theorem guideStrike_waiting {c : Controller} {x : Session} (session : c.player.session = some x) (waits : x.phase = .waiting)
    (k : Nat) : c.guideStrike k =
      if k ∈ c.player.expected then
        if leaveKey k c.player.expected = [] then (c.expects k).endWait x else c.expects k
      else c.report (.guideMiss k c.player.expected.length) := by
  have still : c.playerState ≠ .playing := session_still session (by rw [waits]; exact nofun)
  rw [guideStrike, bringUp_still still, session]
  dsimp only
  split
  · simp only [List.contains_iff_mem, List.isEmpty_iff]
    rfl
  · next plays => cases waits.symm.trans plays
  · next paused => cases waits.symm.trans paused

theorem guideStrike_playing {c : Controller} {x : Session} (session : c.player.session = some x) (playing : x.phase = .playing)
    (k : Nat) : c.guideStrike k = (c.setSession (some (c.brought x))).takeReached := by
  rw [guideStrike, bringUp_playing session playing]
  dsimp only [setSession]
  split
  · next waits => cases playing.symm.trans waits
  · rfl
  · rfl

theorem player_setSession (x : Option Session) : (c.setSession x).player = { c.player with session := x } := rfl

/-- R192, R193: the session that a wait leaves as it ends. -/
def resumedSession (x : Session) : Session := { x with phase := .playing, since := c.now }

/-- R195: the end of a wait, reported, before what the take time has reached. -/
def waitEnded (x : Session) : Controller :=
  (c.setSession (some (c.resumedSession x))).reportState (c.resumedSession x) .playing

theorem endWait_eq (x : Session) : c.endWait x = (c.waitEnded x).takeReached := rfl

theorem waitEnded_player (x : Session) :
    (c.waitEnded x).player = { c.player with session := some (c.resumedSession x) } := by
  rw [waitEnded, reportState, report_player]
  rfl

theorem waitEnded_session (x : Session) : (c.waitEnded x).player.session = some (c.resumedSession x) := by
  rw [waitEnded_player]

theorem endWait_caughtUp (x : Session) : (c.endWait x).CaughtUp :=
  takeReached_caughtUp_of (c.waitEnded_session x) rfl

/-- R195: the end of a wait is reported where the class is enabled and the queue has room. -/
theorem endWait_queued (x : Session) (on : c.link.mask.getLsbD 5 = true) (room : c.link.queue.length < 64) :
    { time := c.now, report := .playerState x.slot (x.time / 1000) .playing } ∈ (c.endWait x).link.queue :=
  (takeReached_body _).queued
    (report_queued (c := c.setSession (some (c.resumedSession x)))
      (r := .playerState x.slot (x.time / 1000) .playing) on room) (by simp)

/-- R192, R193: a wait that ends before a record that is not reached leaves the Player playing, its due timer computed afresh. -/
theorem endWait_nothing {c : Controller} {x : Session} (loop : x.loop = none) (none : c.player.expected = [])
    (ahead : ∃ r, (c.records x.slot)[x.cursor]? = some r ∧ x.time < r.time * 1000) :
    ∃ d, c.endWait x = (c.waitEnded x).setSession (some { c.resumedSession x with due := some d }) := by
  obtain ⟨r, next, before⟩ := ahead
  have takes : (c.waitEnded x).takes = c.takes := (report_frame _ _).takes (by simp)
  have nothing : (c.waitEnded x).NothingDue (c.resumedSession x) := by
    refine ⟨loop, ?_, r, ?_, before⟩
    · rw [waitEnded_player]
      exact none
    · rw [records_congr takes]
      exact next
  exact ⟨_, takeReached_nothingDue (c.waitEnded_session x) rfl nothing⟩

end Controller

theorem leaveKey_eq_nil {k : Nat} {ks : List Nat} : leaveKey k ks = [] ↔ ∀ j ∈ ks, j = k := by
  simp [leaveKey]

/-- Settles O53: the members of the two sets, and a LIVE strike by the state of the Player. -/
theorem guidedChords : Obligations.GuidedChords := by
  refine ⟨?form, ?strike⟩
  case form =>
    intro c x r strike guided rs chord c'
    have formed : c' = c.formWait x r.subject r.time := Controller.applyRecord_guided strike guided
    have chords (i : Nat) (q : TakeRec) : chord i q ↔ x.cursor ≤ i ∧ rs[i]? = some q ∧ c.InChord x r.time i q := by
      simp only [chord, Controller.InChord, Session.holdsBack_eq_false, List.contains_eq_mem, decide_eq_false_iff_not]
    rw [formed]
    refine ⟨c.formWait_frame _ _ _, rfl, fun k => ?_, fun i => ?_⟩
    · refine (mem_foldl_joinKey Prod.snd k _ _).trans ?_
      rw [mem_joinKey, or_comm (a := k = r.subject), or_assoc]
      refine or_congr_right (or_congr_right ⟨?_, ?_⟩)
      · rintro ⟨⟨i, j⟩, mem, rfl⟩
        obtain ⟨q, le, at_, taken, key⟩ := (c.mem_found x r.time i j).1 mem
        exact ⟨i, q, (chords i q).2 ⟨le, at_, taken⟩, key⟩
      · rintro ⟨i, q, taken, key⟩
        obtain ⟨le, at_, taken⟩ := (chords i q).1 taken
        exact ⟨(i, k), (c.mem_found x r.time i k).2 ⟨q, le, at_, taken, key⟩, rfl⟩
    · refine (mem_foldl_joinKey Prod.fst i _ _).trans (or_congr_right ⟨?_, ?_⟩)
      · rintro ⟨⟨i, j⟩, mem, rfl⟩
        obtain ⟨q, le, at_, taken, -⟩ := (c.mem_found x r.time i j).1 mem
        exact ⟨q, (chords i q).2 ⟨le, at_, taken⟩⟩
      · rintro ⟨q, taken⟩
        obtain ⟨le, at_, taken⟩ := (chords i q).1 taken
        exact ⟨(i, q.subject), (c.mem_found x r.time i q.subject).2 ⟨q, le, at_, taken, rfl⟩, rfl⟩
  case strike =>
    intro c k c'
    have frame : Controller.Frame [.pool, .takes, .recorder, .player, .link] c c' := c.guideStrike_frame k
    refine ⟨fun x session waits => ?_, fun still => c.guideStrike_of_still still k, ?playing⟩
    · have rule : c' = _ := Controller.guideStrike_waiting session waits k
      refine ⟨fun out => rule.trans (if_neg out), fun mem ⟨j, hj, ne⟩ => ?_, fun mem all => ⟨frame, ?_⟩⟩
      · exact rule.trans ((if_pos mem).trans (if_neg fun nil => ne (leaveKey_eq_nil.1 nil j hj)))
      · have nil : leaveKey k c.player.expected = [] := leaveKey_eq_nil.2 all
        have ends : c' = (c.expects k).endWait x := rule.trans ((if_pos mem).trans (if_pos nil))
        rw [ends]
        refine ⟨Controller.endWait_caughtUp _ x, (c.expects k).endWait_queued x, fun ahead loop => ?_⟩
        obtain ⟨d, e⟩ := Controller.endWait_nothing (c := c.expects k) loop nil ahead
        refine ⟨d, ?_⟩
        rw [e, Controller.player_setSession, Controller.waitEnded_player, Controller.expects, nil]
        rfl
    case playing =>
      intro x session playing y
      refine ⟨frame, ?_⟩
      have rule : c' = (c.setSession (some (c.brought x))).takeReached := Controller.guideStrike_playing session playing k
      rw [rule]
      exact ⟨Controller.takeReached_caughtUp_of rfl playing, fun nothing =>
        ⟨_, Controller.takeReached_nothingDue (c := c.setSession (some (c.brought x))) rfl playing nothing⟩⟩

end Sys2Proof.Machine
end

section
/-! Stopping, pausing and resuming the Player (R183, R185, R186). -/

namespace Sys2Proof.Machine

theorem Note.fade_fading {n m : Note} {t : Time} (h : n.fade t = some m) : m.fading = true := by
  rw [fade_eq] at h
  split_ifs at h with fading
  · exact Option.some.inj h ▸ fading
  all_goals exact Option.some.inj h ▸ rfl

namespace Controller

variable (c : Controller)

/-- What does not touch the pool leaves every voice. -/
theorem voice_of_frame {bs : List Block} {a b : Controller} (f : Frame bs a b) (h : Block.pool ∉ bs) (i : Nat) :
    b.voice i = a.voice i := by
  rw [voice, voice, f.pool h]

/-- R183: every PLAYBACK voice is FADING afterwards. -/
theorem fadePlayback_fading {i : Nat} {n : Note} (h : c.fadePlayback.voice i = some n) (playback : n.source = .playback) :
    n.fading = true := by
  rw [fadePlayback, fadeVoices, mapVoices_voice] at h
  obtain ⟨m, -, hm⟩ := Option.bind_eq_some_iff.1 h
  split at hm
  · exact Note.fade_fading hm
  · next other =>
    obtain rfl := Option.some.inj hm
    exact absurd (beq_iff_eq.2 playback) other

theorem fadePlayback_live {i : Nat} {n : Note} (h : c.voice i = some n) (live : n.source = .live) :
    c.fadePlayback.voice i = some n := by
  rw [fadePlayback, fadeVoices, mapVoices_voice, h]
  exact if_neg (by simp [live])

theorem reevaluatePlayback_live {i : Nat} {n : Note} (h : c.voice i = some n) (live : n.source = .live) :
    (c.reevaluateSource .playback).voice i = some n := by
  rw [reevaluateSource, reevaluate, mapVoices_voice, h]
  exact if_neg (by simp [live])

/-- R121: every SOUNDING PLAYBACK voice is on its rate afterwards. -/
theorem reevaluatePlayback_rate {i : Nat} {n : Note} (h : (c.reevaluateSource .playback).voice i = some n)
    (sounding : n.fading = false) (playback : n.source = .playback) :
    (n.rateClass, n.rate) = (c.reevaluateSource .playback).rateFor .playback n.key := by
  rw [reevaluateSource, c.reevaluate_rateFor, ← playback]
  exact c.reevaluate_rate h sounding fun m source _ => beq_iff_eq.2 (source.trans playback)

/-! ### A SYNC recording that the Player ends (R169) -/

theorem syncStop_none {c : Controller} (h : c.syncRecording = false) (ms : Nat) : c.syncStop ms = c := by
  rw [syncRecording] at h
  rw [syncStop]
  cases job : c.recorder.job with
  | none => rfl
  | some j =>
    rw [job] at h
    dsimp only
    split
    · next sync => exact absurd (beq_iff_eq.2 sync) (Bool.eq_false_iff.1 h)
    · rfl

theorem syncStop_stops {c : Controller} {j : RecJob} (job : c.recorder.job = some j) (sync : j.mode = .sync) (ms : Nat) :
    c.syncStop ms = c.recStop j .playerEnd ms := by
  rw [syncStop, job]
  dsimp only
  rw [sync]

/-! ### PLAY_STOP (R183) -/

/-- R183, R195: the Player stopped and its stop reported. -/
def halted (x : Session) : Controller := c.stopPlayer.reportState x .stopped

theorem halted_frame (x : Session) : Frame [.pool, .player, .link] c (c.halted x) :=
  ((((c.fadePlayback_frame.widen (by simp)).trans ((setPlayPedals_frame _ _ _ _).widen (by simp))).trans
    ((setSession_frame _ _).widen (by simp))).trans ((reportState_frame _ _ _).widen (by simp)))

theorem halted_player (x : Session) : (c.halted x).player = { c.player with
    session := none, damper := 0, sostenuto := 0, soft := 0, engaged := false, keyDown := [], held := [], expected := []
    consumed := [] } := by
  rw [halted, reportState, report_player, ← c.fadePlayback_frame.player (by simp)]
  rfl

theorem halted_voice (x : Session) (i : Nat) : (c.halted x).voice i = c.fadePlayback.voice i :=
  voice_of_frame (a := c.stopPlayer) (reportState_frame _ _ _) (by simp) i

theorem halted_queued (x : Session) (on : c.link.mask.getLsbD 5 = true) (room : c.link.queue.length < 60) :
    { time := c.now, report := .playerState x.slot (x.time / 1000) .stopped } ∈ (c.halted x).link.queue := by
  have tells : Tells 1 c c.stopPlayer :=
    (c.mapVoices_tells _).trans (n := 1) (m := 0) (Tells.of_link (a := c.fadePlayback) (b := c.stopPlayer) rfl)
  have now : c.stopPlayer.now = c.now := congrArg StageClock.time (c.fadePlayback_frame.clock (by simp))
  exact tells.queuedNow (r := .playerState x.slot (x.time / 1000) .stopped) now on (by omega)

end Controller

theorem playStop_none {c : Controller} (h : c.player.session = none) : playStop c = (c, { code := .already, fields := [] }) := by
  have still : c.bringUp = c := by rw [Controller.bringUp, h]
  rw [playStop, still, h]
  rfl

theorem playStop_stops {c : Controller} {x : Session} (h : c.bringUp.player.session = some x) : playStop c =
    ((c.bringUp.halted x).syncStop (x.time / 1000), { code := .ok, fields := [] }) := by
  rw [playStop, h]
  rfl

/-! ### PLAY_PAUSE and PLAY_RESUME (R185, R186) -/

namespace Controller

variable (c : Controller)

/-- R185, R186, R195: a state of play entered and reported, the PLAYBACK voices on their rates. -/
def enters (x : Session) (d : PlayerDetail) : Controller :=
  ((c.setSession (some x)).reportState x d).reevaluateSource .playback

theorem enters_frame (x : Session) (d : PlayerDetail) : Frame [.pool, .player, .link] c (c.enters x d) :=
  (((c.setSession_frame _).widen (by simp)).trans ((reportState_frame _ _ _).widen (by simp))).trans
    ((reevaluateSource_frame _ _).widen (by simp))

theorem enters_player (x : Session) (d : PlayerDetail) : (c.enters x d).player = { c.player with session := some x } := by
  rw [enters, (reevaluateSource_frame _ _).player (by simp), reportState, report_player]
  rfl

theorem enters_session (x : Session) (d : PlayerDetail) : (c.enters x d).player.session = some x := by
  rw [enters_player]

theorem enters_live (x : Session) (d : PlayerDetail) {i : Nat} {n : Note} (h : c.voice i = some n) (live : n.source = .live) :
    (c.enters x d).voice i = some n :=
  reevaluatePlayback_live _
    ((voice_of_frame (a := c.setSession (some x)) (reportState_frame _ _ _) (by simp) i).trans h) live

theorem enters_rate (x : Session) (d : PlayerDetail) {i : Nat} {n : Note} (h : (c.enters x d).voice i = some n)
    (sounding : n.fading = false) (playback : n.source = .playback) :
    (n.rateClass, n.rate) = (c.enters x d).rateFor .playback n.key :=
  reevaluatePlayback_rate _ h sounding playback

theorem enters_queued (x : Session) (d : PlayerDetail) (on : c.link.mask.getLsbD 5 = true) (room : c.link.queue.length < 64) :
    { time := c.now, report := .playerState x.slot (x.time / 1000) d } ∈ (c.enters x d).link.queue :=
  (reevaluate_keeps (skip := []) _ _).queued
    (report_queued (c := c.setSession (some x)) (r := .playerState x.slot (x.time / 1000) d) on room) (by simp)

/-- R185: in PAUSED every PLAYBACK voice is frozen. -/
theorem rateFor_paused {c : Controller} {x : Session} {w : Bool} (session : c.player.session = some x)
    (paused : x.phase = .paused w) (k : Nat) : c.rateFor .playback k = (.frozen, 0) := by
  refine if_pos ⟨rfl, ?_⟩
  rw [playerState, session]
  dsimp only
  rw [paused]

/-- The due timer moves no rate. -/
theorem dueSet_rateFor {c : Controller} {x : Session} (session : c.player.session = some x) :
    (c.dueSet x).rateFor = c.rateFor := by
  have state : (c.dueSet x).playerState = c.playerState := by
    rw [playerState, playerState, session]
    rfl
  funext src k
  rw [rateFor, rateFor, state]
  rfl

end Controller

theorem playPause_none {c : Controller} (h : c.player.session = none) : playPause c = (c, { code := .badState, fields := [] }) := by
  have still : c.bringUp = c := by rw [Controller.bringUp, h]
  rw [playPause, still, h]
  rfl

theorem playPause_paused {c : Controller} {x : Session} {w : Bool} (h : c.bringUp.player.session = some x)
    (paused : x.phase = .paused w) : playPause c = (c.bringUp, { code := .already, fields := [] }) := by
  rw [playPause, h]
  dsimp only
  rw [paused]
  rfl

/-- R185: the session that a pause leaves. -/
def Session.pausedFrom (x : Session) : Session := { x with phase := .paused (x.phase == .waiting), due := none }

theorem playPause_pauses {c : Controller} {x : Session} (h : c.bringUp.player.session = some x)
    (plays : x.phase = .playing ∨ x.phase = .waiting) : playPause c =
      (c.bringUp.enters x.pausedFrom (.paused (x.phase == .waiting)), { code := .ok, fields := [] }) := by
  rw [playPause, h]
  dsimp only
  split
  · next paused =>
    rw [paused] at plays
    rcases plays with plays | plays <;> cases plays
  · rfl
  · rfl

theorem playResume_none {c : Controller} (h : c.player.session = none) : playResume c = (c, { code := .badState, fields := [] }) := by
  rw [playResume, h]
  rfl

theorem playResume_plays {c : Controller} {x : Session} (h : c.player.session = some x)
    (plays : x.phase = .playing ∨ x.phase = .waiting) :
    playResume c = (c.bringUp.takeReached, { code := .already, fields := [] }) := by
  rw [playResume, h]
  dsimp only
  rcases plays with plays | plays <;> rw [plays] <;> rfl

theorem playResume_waits {c : Controller} {x : Session} (h : c.player.session = some x) (paused : x.phase = .paused true) :
    playResume c = (c.enters { x with phase := .waiting } (.waiting c.player.expected), { code := .ok, fields := [] }) := by
  rw [playResume, h]
  dsimp only
  rw [paused]
  rfl

theorem playResume_resumes {c : Controller} {x : Session} (h : c.player.session = some x) (paused : x.phase = .paused false) :
    playResume c = ((c.enters (c.resumedSession x) .playing).takeReached, { code := .ok, fields := [] }) := by
  rw [playResume, h]
  dsimp only
  rw [paused]
  rfl

/-- Settles O50: each request by the state of play that it finds. -/
theorem stopPauseAndResume : Obligations.StopPauseAndResume := by
  intro tag s sv c u pl
  refine ⟨fun none => ⟨.of_rule rfl sv (playStop_none none) rfl rfl, .of_rule rfl sv (playPause_none none) rfl rfl,
    .of_rule rfl sv (playResume_none none) rfl rfl⟩, ?plays⟩
  intro x session ms
  have player : u.player = { pl with session := some x } := by
    rw [← session]
    exact c.bringUp_player
  have up : Controller.Frame [.player] c u := c.bringUp_frame
  have now : u.now = c.now := congrArg StageClock.time (up.clock (by simp))
  have link : u.link = c.link := up.link (by simp)
  have kept (i : Nat) : u.voice i = c.voice i := Controller.voice_of_frame up (by simp) i
  obtain ⟨y, found, phase, -, -, -, still, -⟩ := Controller.bringUp_session session
  have stands (h : x.phase ≠ .playing) : x = y ∧ u = c := by
    refine ⟨still (phase ▸ h), Controller.bringUp_still (Controller.session_still found (phase ▸ h))⟩
  refine ⟨?stop, fun ⟨w, paused⟩ => .of_rule rfl sv (playPause_paused session paused) rfl rfl, fun plays => ⟨?again, ?pause⟩,
    fun paused => ?waits, ?resumes⟩
  case stop =>
    obtain ⟨h, hh⟩ : ∃ h, h = u.halted x := ⟨_, rfl⟩
    have halted : Controller.Frame [.pool, .player, .link] u h := hh ▸ u.halted_frame x
    have stop := h.syncStop_frame ms
    have voice (i : Nat) : (h.syncStop ms).voice i = u.fadePlayback.voice i := by
      rw [Controller.voice_of_frame stop (by simp), hh, u.halted_voice]
    have job : h.recorder.job = c.recorder.job := by rw [halted.recorder (by simp), up.recorder (by simp)]
    have takes : h.takes = c.takes := by rw [halted.takes (by simp), up.takes (by simp)]
    refine ⟨h.syncStop ms, .of_rule rfl sv (hh ▸ playStop_stops session) rfl rfl,
      ((up.widen (by simp)).trans (halted.widen (by simp))).trans (stop.widen (by simp)), ?_,
      fun i n hn playback => u.fadePlayback_fading (voice i ▸ hn) playback, fun i n hn live => ?_, fun free => ?_,
      fun j hj sync => ?_, fun on room => ?_⟩
    · rw [stop.player (by simp), hh, u.halted_player, player]
    · rw [voice]
      exact u.fadePlayback_live ((kept i).trans hn) live
    · have idle : h.syncRecording = false := by
        rw [Controller.syncRecording, job]
        exact free
      rw [Controller.syncStop_none idle]
      exact ⟨takes, by rw [halted.recorder (by simp), up.recorder (by simp)]⟩
    · rw [Controller.syncStop_stops (job.trans hj) sync, h.recStop_take, Controller.records_congr takes]
      exact ⟨h.recStop_job j ms _, rfl⟩
    · have said := u.halted_queued x (link ▸ on) (link ▸ room)
      rw [now, ← hh] at said
      exact (h.syncStop_keeps (skip := []) ms).queued said (by simp)
  case again => exact .of_rule rfl sv (playResume_plays found (phase ▸ plays)) rfl rfl
  case pause =>
    have entered := u.enters_session x.pausedFrom (.paused (x.phase == .waiting))
    refine ⟨_, .of_rule rfl sv (playPause_pauses session plays) rfl rfl,
      (up.widen (by simp)).trans (u.enters_frame _ _), ?_, fun i n hn sounding playback => ?_, fun i n hn live =>
      u.enters_live _ _ ((kept i).trans hn) live, fun on room => ?_⟩
    · rw [u.enters_player, player]
      rfl
    · rw [u.enters_rate _ _ hn sounding playback]
      exact Controller.rateFor_paused entered rfl n.key
    · rw [← now]
      exact u.enters_queued x.pausedFrom _ (link ▸ on) (link ▸ room)
  case waits =>
    obtain ⟨rfl, -⟩ := stands (by rw [paused]; exact nofun)
    exact ⟨_, .of_rule rfl sv (playResume_waits found paused) rfl rfl, c.enters_frame _ _, c.enters_player _ _,
      fun i n hn sounding playback => c.enters_rate _ _ hn sounding playback⟩
  case resumes =>
    intro paused due
    obtain ⟨rfl, -⟩ := stands (by rw [paused]; exact nofun)
    obtain ⟨b, hb⟩ : ∃ b, b = c.enters (c.resumedSession x) .playing := ⟨_, rfl⟩
    have frame : Controller.Frame [.pool, .player, .link] c b := hb ▸ c.enters_frame _ _
    have entered : b.player = { pl with session := some (c.resumedSession x) } := hb ▸ c.enters_player _ _
    have playing : b.player.session = some (c.resumedSession x) := by rw [entered]
    refine ⟨b.takeReached, .of_rule rfl sv (hb ▸ playResume_resumes found paused) rfl rfl,
      (frame.widen (by simp)).trans b.takeReached_frame, Controller.takeReached_caughtUp_of playing rfl,
      fun notDue loop before none => ?_⟩
    have takes := frame.takes (by simp)
    have taken : b.Taken (c.resumedSession x) := by
      refine ⟨fun r hr => Session.not_reaches_iff.2 (.inl (Nat.lt_of_not_le fun reached => notDue ⟨r, ?_, reached⟩)),
        fun l hl => ?_, ?_⟩
      · rw [Controller.records_congr takes] at hr
        exact hr
      · cases loop.symm.trans hl
      · rw [entered]
        exact none
    have goesOn : b.atEnd (c.resumedSession x) = false := by
      refine Bool.eq_false_iff.2 fun ends => Nat.not_le.2 before ?_
      rw [← Controller.length_congr takes]
      exact ((b.atEnd_iff rfl).1 ends).2.1
    have rule := Controller.takeReached_dueSet playing rfl taken goesOn
    rw [rule]
    refine ⟨takes, frame.recorder (by simp), ⟨b.dueDeadline (c.resumedSession x), ?_⟩, fun i n hn sounding playback => ?_⟩
    · rw [Controller.dueSet, Controller.player_setSession, entered]
      rfl
    · have rate := c.enters_rate (c.resumedSession x) .playing (hb ▸ hn) sounding playback
      rw [← hb] at rate
      rw [rate, Controller.dueSet_rateFor playing]

end Sys2Proof.Machine
end

section
/-! The tempo and the hands of the Player (R176 to R178, R193). -/

namespace Sys2Proof.Machine

theorem bne_eq_decide (a b : Nat) : (a != b) = decide (a ≠ b) := by
  rw [Bool.eq_iff_iff]
  simp

namespace Controller

variable (c : Controller)

/-- R175: after whatever the take time has reached, the Player is caught up; outside PLAYING there is nothing to catch up with. -/
theorem takeReached_always_caughtUp : c.takeReached.CaughtUp := by
  by_cases plays : c.playerState = .playing
  · exact c.takeReached_caughtUp plays
  · rw [c.takeReached_of_not_playing plays]
    exact caughtUp_of_not_playing fun x session playing => plays ((playing_iff c).2 ⟨x, session, playing⟩)

/-- R118 to R121: what the rates depend on, of the Player its pedals, its sets and whether it is PAUSED. -/
theorem rateFor_congr_paused {a b : Controller} (pool : b.pool = a.pool) (keys : b.keys = a.keys) (pedals : b.pedals = a.pedals)
    (down : b.player.keyDown = a.player.keyDown) (heldSet : b.player.held = a.player.held)
    (damper : b.player.damper = a.player.damper) (paused : b.playerState = .paused ↔ a.playerState = .paused) :
    b.rateFor = a.rateFor := by
  have entry : b.decayEntry = a.decayEntry := funext fun k => by simp only [decayEntry, pool]
  have up : b.damperUp = a.damperUp := funext₂ fun src k => by cases src <;> simp only [damperUp, key, keys, down]
  have held : b.inSostenuto = a.inSostenuto := funext₂ fun src k => by
    cases src <;> simp only [inSostenuto, pedals, heldSet]
  have value : b.damperValue = a.damperValue := funext fun src => by
    cases src <;> simp only [damperValue, pedal, pedals, damper]
  funext src k
  simp only [rateFor, paused, entry, up, held, value, pool]

theorem paused_iff {c : Controller} {x : Session} (session : c.player.session = some x) :
    c.playerState = .paused ↔ ∃ w, x.phase = .paused w := by
  rw [playerState, session]
  cases phase : x.phase <;> simp [phase]

/-! ### PLAY_TEMPO (R178) -/

/-- R178: the tempo in force. -/
def atTempo (t : Nat) : Controller := { c with player := { c.player with tempo := t } }

end Controller

theorem limitedTempo_eq (t : Nat) : (if t < 25 then 25 else if 200 < t then 200 else t) = max 25 (min 200 t) := by
  split_ifs <;> omega

theorem playTempo_eq (t : Nat) (c : Controller) : playTempo t c =
    if max 25 (min 200 t) = c.bringUp.player.tempo then
      (c.bringUp.takeReached,
        { code := .already, fields := tempoFields c.bringUp.takeReached (max 25 (min 200 t) != t) })
    else ((c.bringUp.atTempo (max 25 (min 200 t))).takeReached,
      { code := .ok, fields := tempoFields (c.bringUp.atTempo (max 25 (min 200 t))).takeReached (max 25 (min 200 t) != t) }) := by
  rw [playTempo, limitedTempo_eq]
  rfl

theorem tempo_of_settings {p q : Player} (h : q.settings = p.settings) : q.tempo = p.tempo := congrArg Prod.fst h

/-- R178: the fields of a reply to PLAY_TEMPO, once the tempo is in force. -/
theorem tempoFields_eq {c : Controller} {n t : Nat} (tempo : c.player.tempo = n) : tempoFields c (n != t) =
    bytesLE 2 n ++ flagByte (decide (n ≠ t)) ++ optLE 3 (c.player.session.map fun x => x.time / 1000) := by
  rw [tempoFields, tempo, bne_eq_decide]

/-! ### PLAY_HANDS (R177, R193) -/

/-- R177: the settings of the hands given. -/
structure HandSet where
  split : Nat
  muteLeft : Bool
  muteRight : Bool
  guide : GuideHand
  window : Nat

/-- R176: a key that the settings take out of play, its hand muted or guided. -/
def HandSet.out (h : HandSet) (k : Nat) : Bool :=
  (if decide (k < h.split) then h.muteLeft else h.muteRight) ||
    (match h.guide with | .none => false | .both => true | .left => decide (k < h.split) | .right => !decide (k < h.split))

/-- The settings in force. -/
def Player.hands (p : Player) : HandSet := ⟨p.splitKey, p.muteLeft, p.muteRight, p.guide, p.chordWindow⟩

/-- R177: the settings in force after a request. -/
def Player.withHands (p : Player) (h : HandSet) : Player :=
  { p with
    splitKey := h.split, muteLeft := h.muteLeft, muteRight := h.muteRight, guide := h.guide, chordWindow := h.window }

theorem Player.out_withHands (p : Player) (h : HandSet) (k : Nat) :
    ((p.withHands h).mutes k || (p.withHands h).guides k) = h.out k := by
  have absorb (a b : Bool) : (a || (!a && b)) = (a || b) := by cases a <;> rfl
  refine (absorb _ _).trans ?_
  rfl

namespace Controller

variable (c : Controller)

/-- R177: the hands given, before any key leaves the key-down set. -/
def withHands (h : HandSet) : Controller := { c with player := c.player.withHands h }

/-- R177: the hands given, the keys now muted or guided out of the key-down set. -/
def lowered (h : HandSet) : Controller :=
  { c with player := { c.player.withHands h with keyDown := c.player.keyDown.filter fun k => !h.out k } }

theorem dropHands_none {c : Controller} (h : HandSet) (none : c.player.session = none) :
    (c.withHands h).dropHands = c.withHands h := by
  have none' : (c.withHands h).player.session = .none := none
  rw [dropHands, none']

theorem dropHands_some {c : Controller} {x : Session} (h : HandSet) (session : c.player.session = some x) :
    (c.withHands h).dropHands =
      (c.lowered h).reevaluateKeys .playback (c.player.keyDown.filter h.out) := by
  have session' : (c.withHands h).player.session = some x := session
  have out : (fun k => (c.withHands h).player.mutes k || (c.withHands h).player.guides k) = h.out :=
    funext (c.player.out_withHands h)
  have kept : (fun k => !((c.withHands h).player.mutes k || (c.withHands h).player.guides k)) = fun k => !h.out k :=
    funext fun k => congrArg (! ·) (c.player.out_withHands h k)
  rw [dropHands, session']
  dsimp only
  rw [out, kept]
  rfl

theorem dropHands_frame : Frame [.pool, .player, .link] c c.dropHands := by
  unfold dropHands
  split
  · exact .refl _ _
  · exact ((c.player_frame _).widen (by simp)).trans ((reevaluateKeys_frame _ _ _).widen (by simp))

theorem dropHands_settings : c.dropHands.player.settings = c.player.settings := by
  unfold dropHands
  split
  · rfl
  · rw [(reevaluateKeys_frame _ _ _).player (by simp)]
    rfl

theorem handsEndWait_none {c : Controller} (none : c.player.session = none) : c.handsEndWait = c := by
  rw [handsEndWait, none]

/-- R193: no key expected any more. -/
def unexpected : Controller := { c with player := { c.player with expected := [] } }

theorem handsEndWait_waiting {c : Controller} {x : Session} (session : c.player.session = some x) (waits : x.phase = .waiting) :
    c.handsEndWait = c.unexpected.endWait x := by
  rw [handsEndWait, session]
  dsimp only
  rw [waits]
  rfl

theorem handsEndWait_paused {c : Controller} {x : Session} (session : c.player.session = some x)
    (paused : x.phase = .paused true) : c.handsEndWait = c.unexpected.setSession (some { x with phase := .paused false }) := by
  rw [handsEndWait, session]
  dsimp only
  rw [paused]
  rfl

theorem handsEndWait_else {c : Controller} {x : Session} (session : c.player.session = some x)
    (phase : x.phase = .playing ∨ x.phase = .paused false) : c.handsEndWait = c.takeReached := by
  rw [handsEndWait, session]
  dsimp only
  rcases phase with phase | phase <;> rw [phase]

theorem endWait_settings (x : Session) : (c.endWait x).player.settings = c.player.settings := by
  rw [endWait_eq, takeReached_settings, waitEnded_player]
  rfl

theorem handsEndWait_settings : c.handsEndWait.player.settings = c.player.settings := by
  cases session : c.player.session with
  | none => rw [handsEndWait_none session]
  | some x =>
    cases phase : x.phase with
    | waiting => exact handsEndWait_waiting session phase ▸ c.unexpected.endWait_settings x
    | playing => rw [handsEndWait_else session (.inl phase), takeReached_settings]
    | paused w =>
      cases w with
      | true => rw [handsEndWait_paused session phase]; rfl
      | false => rw [handsEndWait_else session (.inr phase), takeReached_settings]

theorem handsEndWait_frame : Frame playParts c c.handsEndWait := by
  have bare : Frame playParts c c.unexpected := (c.player_frame _).widen (by simp)
  unfold handsEndWait
  split
  · exact .refl _ _
  · split
    · exact bare.trans (endWait_frame _ _)
    · exact bare.trans ((setSession_frame _ _).widen (by simp))
    · exact c.takeReached_frame
    · exact c.takeReached_frame

/-! ### What stands while the hands change -/

/-- The take, the recording, the pool, the playback sets and the rates stand. -/
structure SamePlay (a b : Controller) : Prop where
  down : b.player.keyDown = a.player.keyDown
  held : b.player.held = a.player.held
  takes : b.takes = a.takes
  recorder : b.recorder = a.recorder
  pool : b.pool = a.pool
  rates : b.rateFor = a.rateFor

theorem SamePlay.refl (a : Controller) : SamePlay a a := ⟨rfl, rfl, rfl, rfl, rfl, rfl⟩

theorem dueSet_samePlay {c : Controller} {x : Session} (session : c.player.session = some x) : SamePlay c (c.dueSet x) :=
  ⟨rfl, rfl, rfl, rfl, rfl, dueSet_rateFor session⟩

theorem unexpected_samePlay {c : Controller} {x y : Session} (session : c.player.session = some x)
    (paused : (∃ w, y.phase = .paused w) ↔ ∃ w, x.phase = .paused w) : SamePlay c (c.unexpected.setSession (some y)) :=
  ⟨rfl, rfl, rfl, rfl, rfl, rateFor_congr_paused rfl rfl rfl rfl rfl rfl
    ((paused_iff (c := c.unexpected.setSession (some y)) rfl).trans (paused.trans (paused_iff session).symm))⟩

/-- R175: a Player of which nothing is due has at most its due timer computed. -/
theorem takeReached_samePlay {c : Controller} {x : Session} (session : c.player.session = some x)
    (nothing : x.phase = .playing → c.NothingDue x) : SamePlay c c.takeReached ∧
      (∃ d, c.takeReached.player.session = some { x with due := d } ∧ (x.phase ≠ .playing → d = x.due)) ∧
      c.takeReached.player.expected = c.player.expected := by
  by_cases playing : x.phase = .playing
  · rw [takeReached_nothingDue session playing (nothing playing)]
    exact ⟨dueSet_samePlay session, ⟨_, rfl, fun still => absurd playing still⟩, rfl⟩
  · rw [c.takeReached_of_not_playing (session_still session playing)]
    exact ⟨.refl c, ⟨x.due, session, fun _ => rfl⟩, rfl⟩

/-- R193: a wait that ends before a record not reached moves neither the pool nor a rate. -/
theorem endWait_samePlay {c : Controller} {x : Session} (session : c.player.session = some x) (waits : x.phase = .waiting)
    (loop : x.loop = none) (ahead : ∃ r, (c.records x.slot)[x.cursor]? = some r ∧ x.time < r.time * 1000) :
    SamePlay c (c.unexpected.endWait x) ∧ ∃ d, (c.unexpected.endWait x).player =
      { c.player with expected := [], session := some { x with phase := .playing, since := c.now, due := some d } } := by
  obtain ⟨d, e⟩ := endWait_nothing (c := c.unexpected) loop rfl ahead
  have player : (c.unexpected.endWait x).player =
      { c.player with expected := [], session := some { x with phase := .playing, since := c.now, due := some d } } := by
    rw [e, player_setSession, waitEnded_player]
    rfl
  have frame : Frame [.player, .link] c (c.unexpected.endWait x) := by
    rw [e]
    exact ((((c.player_frame _).widen (by simp)).trans ((setSession_frame _ _).widen (by simp))).trans
      ((reportState_frame _ _ _).widen (by simp))).trans ((setSession_frame _ _).widen (by simp))
  have unpaused : (c.unexpected.endWait x).playerState = .paused ↔ c.playerState = .paused := by
    rw [paused_iff session, paused_iff (c := c.unexpected.endWait x) (by rw [player]), waits]
    simp
  refine ⟨⟨by rw [player], by rw [player], frame.takes (by simp), frame.recorder (by simp), frame.pool (by simp), ?_⟩, d, player⟩
  exact rateFor_congr_paused (frame.pool (by simp)) (frame.keys (by simp)) (frame.pedals (by simp)) (by rw [player])
    (by rw [player]) (by rw [player]) unpaused

end Controller

theorem guideOf_code (g : GuideHand) : guideOf g.code = some g := by cases g <;> rfl

theorem guideOf_unknown {n : Nat} (h : 3 < n) : guideOf n = none := by
  obtain ⟨m, rfl⟩ := Nat.exists_eq_add_of_le' h
  rfl

/-- R177: the settings that PLAY_HANDS gives. -/
def givenHands (split mask : Nat) (g : GuideHand) (window : Nat) : HandSet :=
  { split := split, muteLeft := mask.testBit 0, muteRight := mask.testBit 1, guide := g, window := window }

/-- R193: everything but the chord window is as it was. -/
def sameHands (p : Player) (h : HandSet) : Prop :=
  p.splitKey = h.split ∧ p.muteLeft = h.muteLeft ∧ p.muteRight = h.muteRight ∧ p.guide = h.guide

theorem playHands_refused {split mask guide window : Nat} {c : Controller}
    (bad : split < 1 ∨ 89 < split ∨ 250 < window ∨ 3 < guide) : playHands split mask guide window c =
      (c.bringUp.takeReached, { code := .badValue, fields := handsFields c.bringUp.takeReached }) := by
  rw [playHands]
  dsimp only
  split
  · rfl
  · next g known =>
    refine if_pos ?_
    rcases bad with low | high | wide | unknown
    · exact .inl low
    · exact .inr (.inl high)
    · exact .inr (.inr wide)
    · cases (guideOf_unknown unknown).symm.trans known

theorem muteLeft_testBit (mask : Nat) : (mask % 2 == 1) = mask.testBit 0 := by
  rw [Nat.testBit_zero, Bool.eq_iff_iff]
  simp

theorem muteRight_testBit (mask : Nat) : (mask / 2 % 2 == 1) = mask.testBit 1 := by
  rw [Nat.testBit_succ, muteLeft_testBit]

section Accepted

variable {split mask guide window : Nat} {g : GuideHand} {c : Controller}

theorem playHands_same (known : g.code = guide) (low : 1 ≤ split) (high : split ≤ 89) (narrow : window ≤ 250)
    (same : sameHands c.bringUp.player (givenHands split mask g window)) (same' : c.bringUp.player.chordWindow = window) :
    playHands split mask guide window c =
      (c.bringUp.takeReached, { code := .already, fields := handsFields c.bringUp.takeReached }) := by
  subst known
  rw [playHands, guideOf_code]
  dsimp only
  rw [if_neg (by omega), muteLeft_testBit, muteRight_testBit]
  exact if_pos ⟨same, same'⟩

/-- R177: the answer to a request that gives the hands. -/
def handsAnswered (c : Controller) : Controller × Answer := (c, { code := .ok, fields := handsFields c })

/-- R193: what a request that is not ALREADY does after the key-down set. -/
theorem playHands_gives (known : g.code = guide) (low : 1 ≤ split) (high : split ≤ 89) (narrow : window ≤ 250)
    (other : ¬ (sameHands c.bringUp.player (givenHands split mask g window) ∧ c.bringUp.player.chordWindow = window))
    {c1 : Controller} (w : Controller) (hw : w = (c.bringUp.withHands (givenHands split mask g window)).dropHands)
    (same : sameHands c.bringUp.player (givenHands split mask g window) → c1 = w.takeReached)
    (changed : ¬ sameHands c.bringUp.player (givenHands split mask g window) → c1 = w.handsEndWait) :
    playHands split mask guide window c = handsAnswered c1 := by
  subst known
  rw [playHands, guideOf_code]
  dsimp only
  rw [if_neg (by omega), muteLeft_testBit, muteRight_testBit]
  refine (if_neg other).trans ?_
  by_cases hands : sameHands c.bringUp.player (givenHands split mask g window)
  · rw [same hands, hw]
    exact congrArg handsAnswered (if_pos hands)
  · rw [changed hands, hw]
    exact congrArg handsAnswered (if_neg hands)

end Accepted

end Sys2Proof.Machine
end

section
/-! PLAY_TEMPO and PLAY_HANDS, whole (R176 to R178, R193). -/

namespace Sys2Proof.Machine

namespace Controller

/-- R177: the Player and the voices once the hands are given, before a wait ends. -/
theorem dropHands_lowers {u : Controller} {x : Session} (h : HandSet) (session : u.player.session = some x) :
    (u.withHands h).dropHands.player = { u.player.withHands h with keyDown := u.player.keyDown.filter fun k => !h.out k } ∧
      Frame [.pool, .player, .link] u (u.withHands h).dropHands ∧ Tells 1 u (u.withHands h).dropHands ∧
      ∀ i n, (u.withHands h).dropHands.voice i = some n → n.fading = false → n.source = .playback →
        n.key ∈ u.player.keyDown → h.out n.key = true →
        (n.rateClass, n.rate) = (u.withHands h).dropHands.rateFor .playback n.key := by
  have given : Frame [.player] u (u.withHands h) := u.player_frame _
  refine ⟨?_, (given.widen (by simp)).trans (dropHands_frame _), ?_, fun i n hn sounding playback down out => ?_⟩
  · rw [dropHands_some h session, (reevaluateKeys_frame _ _ _).player (by simp)]
    rfl
  · rw [dropHands_some h session]
    exact (Tells.of_link (n := 0) (a := u) (b := u.lowered h) rfl).trans (reevaluate_tells _ _)
  · rw [dropHands_some h session] at hn ⊢
    have gone : n.key ∈ u.player.keyDown.filter h.out := List.mem_filter.2 ⟨down, out⟩
    rw [reevaluateKeys, reevaluate_rateFor, ← playback]
    refine (u.lowered h).reevaluate_rate hn sounding fun m source key => ?_
    simp only [source, key, playback, List.contains_iff_mem.2 gone, beq_self_eq_true, Bool.and_self]

end Controller

/-- Settles O52: the tempo by its limited value, the hands by what they take out of play and the state of the Player. -/
theorem tempoAndHands : Obligations.TempoAndHands := by
  intro tag s sv c u v moves
  have up : Controller.Frame [.player] c u := c.bringUp_frame
  have player : u.player = { c.player with session := u.player.session } := c.bringUp_player
  have tempo : u.player.tempo = c.player.tempo := by rw [player]
  refine ⟨u.takeReached_frame, u.takeReached_of_not_playing, u.takeReached_caughtUp, fun y session playing =>
    Controller.bringUp_playing session playing, ?tempo, ?hands⟩
  case tempo =>
    intro t limited fields
    have rule := playTempo_eq t c
    have inForce (b : Controller) (h : b.player.tempo = limited) : tempoFields b (limited != t) = fields b := tempoFields_eq h
    refine ⟨fun same => ?_, fun other => ?_⟩
    · have same' : limited = u.player.tempo := same.trans tempo.symm
      have kept : v.player.tempo = limited := (tempo_of_settings u.takeReached_settings).trans same'.symm
      rw [if_pos same', inForce v kept] at rule
      exact .of_rule rfl sv rule rfl rfl
    · have other' : ¬ limited = u.player.tempo := fun e => other (e.trans tempo)
      have kept : (u.atTempo limited).takeReached.player.tempo = limited := tempo_of_settings (u.atTempo limited).takeReached_settings
      rw [if_neg other', inForce _ kept] at rule
      refine ⟨(u.atTempo limited).takeReached, .of_rule rfl sv rule rfl rfl,
        ((up.trans (u.player_frame _)).widen (by simp [moves])).trans (Controller.takeReached_frame _), kept,
        Controller.takeReached_always_caughtUp _, (u.atTempo limited).takeReached_of_not_playing,
        fun x session playing nothing => ⟨_, Controller.takeReached_nothingDue (c := u.atTempo limited) session playing nothing⟩⟩
  case hands =>
    intro split mask guide window replies fields
    refine ⟨fun bad => .of_rule rfl sv (playHands_refused bad) rfl rfl, ?good⟩
    intro g known low high narrow ml mr hands left out
    obtain ⟨h, hh⟩ : ∃ h, h = givenHands split mask g window := ⟨_, rfl⟩
    have same_iff : sameHands u.player h ↔ hands := by
      rw [hh, player]
      rfl
    have window_eq : u.player.chordWindow = c.player.chordWindow := by rw [player]
    have outs : h.out = out := by
      rw [hh]
      funext k
      cases g <;> rfl
    refine ⟨fun same narrow' => ?_, fun other => ?_⟩
    · exact .of_rule rfl sv (playHands_same known low high narrow (hh ▸ same_iff.2 same) (window_eq.trans narrow')) rfl rfl
    obtain ⟨w, hw⟩ : ∃ w, w = (u.withHands h).dropHands := ⟨_, rfl⟩
    obtain ⟨c1, same1, changed1⟩ : ∃ c1, (hands → c1 = w.takeReached) ∧ (¬ hands → c1 = w.handsEndWait) := by
      by_cases same : hands
      · exact ⟨_, fun _ => rfl, fun no => absurd same no⟩
      · exact ⟨_, fun yes => absurd yes same, fun _ => rfl⟩
    have rule : playHands split mask guide window c = handsAnswered c1 :=
      playHands_gives known low high narrow (fun ⟨a, b⟩ => other ⟨same_iff.1 (hh ▸ a), window_eq.symm.trans b⟩) w (hh ▸ hw)
        (fun a => same1 (same_iff.1 (hh ▸ a))) fun a => changed1 fun yes => a (hh ▸ same_iff.2 yes)
    have frameW : Controller.Frame [.pool, .player, .link] u w :=
      hw ▸ ((u.player_frame _).widen (by simp)).trans (Controller.dropHands_frame (u.withHands h))
    have settingsW : w.player.settings = (c.player.tempo, split, ml, mr, g, window) := by
      rw [hw, Controller.dropHands_settings, ← tempo, hh]
      rfl
    have settings : c1.player.settings = (c.player.tempo, split, ml, mr, g, window) := by
      by_cases same : hands
      · rw [same1 same, w.takeReached_settings, settingsW]
      · rw [changed1 same, w.handsEndWait_settings, settingsW]
    have frame1 : Controller.Frame moves w c1 := by
      by_cases same : hands
      · exact same1 same ▸ w.takeReached_frame
      · exact changed1 same ▸ w.handsEndWait_frame
    have downU : u.player.keyDown = c.player.keyDown := by rw [player]
    have heldU : u.player.held = c.player.held := by rw [player]
    refine ⟨c1, .of_rule rfl sv rule rfl rfl, ((up.widen (by simp [moves])).trans (frameW.widen (by simp [moves]))).trans frame1,
      congrArg Prod.snd settings, congrArg Prod.fst settings, fun none => ?_, fun x session => ?_⟩
    · have whole : w = u.withHands h := hw.trans (Controller.dropHands_none h none)
      have none' : w.player.session = .none := by rw [whole]; exact none
      have still : w.playerState ≠ .playing := fun plays => by
        obtain ⟨z, hz, -⟩ := (playing_iff w).1 plays
        cases none'.symm.trans hz
      have stands : c1 = w := by
        by_cases same : hands
        · rw [same1 same, w.takeReached_of_not_playing still]
        · rw [changed1 same, Controller.handsEndWait_none none']
      rw [stands]
      refine ⟨?_, none'⟩
      rw [whole]
      exact downU
    · obtain ⟨playerW, -, tells, rates⟩ := Controller.dropHands_lowers h session
      rw [← hw] at playerW tells rates
      have sessionW : w.player.session = some x := by rw [playerW]; exact session
      have takesW : w.takes = u.takes := frameW.takes (by simp)
      have downW : w.player.keyDown = c.player.keyDown.filter fun k => !out k := by rw [playerW, downU, outs]
      have heldW : w.player.held = c.player.held := by
        rw [playerW]
        exact heldU
      have expectedW : w.player.expected = u.player.expected := by rw [playerW]; rfl
      have expectedU : u.player.expected = c.player.expected := by rw [player]
      have nothingW (nothing : u.NothingDue x) : w.NothingDue x := by
        obtain ⟨loop, none, next⟩ := nothing
        exact ⟨loop, expectedW.trans none, by rw [Controller.records_congr takesW]; exact next⟩
      have stands {b : Controller} (alike : Controller.SamePlay w b) :
          b.player.keyDown = c.player.keyDown.filter (fun k => !out k) ∧ b.takes = c.takes ∧ b.recorder = c.recorder ∧
            b.player.held = c.player.held ∧
            ∀ i n, b.voice i = some n → n.fading = false → n.source = .playback → n.key ∈ c.player.keyDown →
              out n.key = true → (n.rateClass, n.rate) = b.rateFor .playback n.key := by
        refine ⟨alike.down.trans downW, alike.takes.trans (takesW.trans (up.takes (by simp))),
          alike.recorder.trans ((frameW.recorder (by simp)).trans (up.recorder (by simp))), alike.held.trans heldW,
          fun i n hn sounding playback down gone => ?_⟩
        have voice : w.voice i = some n := by
          rw [Controller.voice, ← alike.pool]
          exact hn
        rw [alike.rates]
        exact rates i n voice sounding playback (downU ▸ down) (outs ▸ gone)
      have reached (nothing : x.phase = .playing → u.NothingDue x) :=
        Controller.takeReached_samePlay sessionW fun playing => nothingW (nothing playing)
      have goesOn (phase : hands ∨ x.phase = .playing ∨ x.phase = .paused false) : c1 = w.takeReached := by
        by_cases same : hands
        · exact same1 same
        · exact (changed1 same).trans (Controller.handsEndWait_else sessionW (phase.resolve_left same))
      refine ⟨fun playing => ?_, fun nothing phase => ?_, fun nothing phase => ?_, fun other paused => ?_, fun other waits => ?_⟩
      · rw [goesOn (.inr (.inl playing))]
        exact w.takeReached_always_caughtUp
      · by_cases wait : ¬ hands ∧ x.phase = .paused true
        · obtain ⟨other, paused⟩ := wait
          rw [changed1 other, Controller.handsEndWait_paused sessionW paused]
          exact stands (Controller.unexpected_samePlay sessionW
            ⟨fun _ => ⟨true, paused⟩, fun _ => ⟨false, rfl⟩⟩)
        · rw [goesOn ?_]
          · exact stands (reached nothing).1
          · by_cases same : hands
            · exact .inl same
            · refine .inr ?_
              cases ph : x.phase with
              | playing => exact .inl rfl
              | waiting => exact absurd ph (phase.resolve_left same)
              | paused b =>
                cases b with
                | true => exact absurd ⟨same, ph⟩ wait
                | false => exact .inr rfl
      · obtain ⟨-, ⟨d, session1, due⟩, expected1⟩ := reached nothing
        rw [goesOn phase]
        exact ⟨d, session1, due, expected1.trans (expectedW.trans expectedU)⟩
      · rw [changed1 other, Controller.handsEndWait_paused sessionW paused]
        exact ⟨rfl, rfl⟩
      · rw [changed1 other, Controller.handsEndWait_waiting sessionW waits]
        have link : u.link = c.link := up.link (by simp)
        refine ⟨w.unexpected.endWait_caughtUp x, fun on room => ?_, fun loop ahead => ?_⟩
        · have now : w.now = c.now :=
            (congrArg StageClock.time (frameW.clock (by simp))).trans (congrArg StageClock.time (up.clock (by simp)))
          have said := w.unexpected.endWait_queued x (by
            show w.link.mask.getLsbD 5 = true
            rw [tells.mask, link]
            exact on) (by
            show w.link.queue.length < 64
            have := tells.grows
            rw [link] at this
            omega)
          rw [← now]
          exact said
        · obtain ⟨alike, d, player1⟩ := Controller.endWait_samePlay sessionW waits loop (by
            rw [Controller.records_congr (takesW.trans (up.takes (by simp)))]
            exact ahead)
          obtain ⟨-, takes1, recorder1, -, voices1⟩ := stands alike
          refine ⟨takes1, recorder1, voices1, d, ?_⟩
          have now : w.now = c.now :=
            (congrArg StageClock.time (frameW.clock (by simp))).trans (congrArg StageClock.time (up.clock (by simp)))
          rw [player1, playerW, now, outs, hh, player]
          rfl

end Sys2Proof.Machine
end

section
/-! The Player set at a place apart from its records: PLAY_START, PLAY_SEEK and the loop (R182, R187 to R189). -/

namespace Sys2Proof.Machine

/-- R182: the snapshot of a pedal before a time. -/
theorem pedalBefore_eq (rs : List TakeRec) (t q : Nat) : pedalBefore rs t q =
    ((rs.filter fun r => decide (r.kind = .pedal ∧ r.subject = q ∧ r.time < t)).getLast?.map TakeRec.value).getD 0 := by
  have test : (fun r : TakeRec => r.kind == .pedal && r.subject == q && decide (r.time < t)) =
      fun r => decide (r.kind = .pedal ∧ r.subject = q ∧ r.time < t) := by
    funext r
    rw [Bool.eq_iff_iff]
    simp [and_assoc]
  rw [pedalBefore, test]
  cases (rs.filter fun r => decide (r.kind = .pedal ∧ r.subject = q ∧ r.time < t)).getLast? <;> rfl

/-- R189: a loop armed afresh at a time in ms. -/
theorem Loop.rearm_ms (l : Loop) (p : Nat) :
    l.rearm (p * 1000) = { l with armed := decide ((l.count = 0 ∨ l.passes < l.count) ∧ p < l.stop) } := by
  have armed : (l.active && decide (p * 1000 < l.stop * 1000)) =
      decide ((l.count = 0 ∨ l.passes < l.count) ∧ p < l.stop) := by
    rw [Bool.eq_iff_iff]
    simp [active]
  rw [rearm, armed]

/-- An armed loop that has been armed afresh ends after that time. -/
theorem Loop.rearm_armed {l : Loop} {t : Nat} (h : (l.rearm t).armed = true) : t < l.stop * 1000 := by
  rw [rearm, Bool.and_eq_true, decide_eq_true_eq] at h
  exact h.2

namespace Controller

variable (c : Controller)

/-! ### Standing at a place (R182, R187) -/

/-- R182, R187: the session that stands at P ms. -/
def movedSession (x : Session) (p : Nat) : Session :=
  { x with
    cursor := indexAt (c.records x.slot) p, time := p * 1000, remainder := 0, since := c.now, due := none
    loop := x.loop.map fun l => l.rearm (p * 1000) }

/-- R182: the pedals from the snapshot at P ms, the sets empty. -/
def atSnapshot (sl : Slot) (p : Nat) : Controller :=
  c.setPlayPedals (pedalBefore (c.records sl) p 0) (pedalBefore (c.records sl) p 1) (pedalBefore (c.records sl) p 2)

theorem moveTo_eq (x : Session) (p : Nat) :
    c.moveTo x p = (c.atSnapshot x.slot p).setSession (some (c.movedSession x p)) := rfl

/-- R182, R187: where no record has time P, nothing is reached at P but an end of the take. -/
theorem moved_taken {c b : Controller} {x : Session} {p : Nat} (takes : b.takes = c.takes)
    (free : ∀ r ∈ c.records x.slot, r.time ≠ p) (none : b.player.expected = []) : b.Taken (c.movedSession x p) := by
  refine ⟨fun r hr => Session.not_reaches_iff.2 (.inl ?_), fun l hl armed => ?_, none⟩
  · rw [records_congr takes] at hr
    have later := getElem?_takeWhile_length (p := fun q : TakeRec => decide (q.time < p)) (l := c.records x.slot) hr
    have ne := free r (List.mem_of_getElem? hr)
    have : p ≤ r.time := Nat.le_of_not_lt (of_decide_eq_false later)
    show p * 1000 < r.time * 1000
    omega
  · obtain ⟨m, -, rfl⟩ := Option.map_eq_some_iff.1 hl
    exact Loop.rearm_armed armed

theorem moved_goesOn {c b : Controller} {x : Session} {p : Nat} (takes : b.takes = c.takes) (playing : x.phase = .playing)
    (inside : p < c.length x.slot) : b.atEnd (c.movedSession x p) = false := by
  refine Bool.eq_false_iff.2 fun ends => ?_
  obtain ⟨-, reached, -⟩ := (b.atEnd_iff (x := c.movedSession x p) playing).1 ends
  rw [length_congr takes] at reached
  have reached : c.length x.slot * 1000 ≤ p * 1000 := reached
  omega

/-- R175: the deadline of a session without a loop. -/
theorem dueDeadline_eq {x : Session} (loop : x.loop = none) : c.dueDeadline x =
    after c.now (min 1000000000 (divUp (100 * (((c.records x.slot)[x.cursor]?.map TakeRec.time).getD (c.length x.slot) * 1000
      - x.time) - x.remainder) c.player.tempo)) := by
  have targets : c.targets x = [((c.records x.slot)[x.cursor]?.map TakeRec.time).getD (c.length x.slot) * 1000] := by
    rw [targets, loop]
    cases (c.records x.slot)[x.cursor]? with
    | none => rfl
    | some r =>
      have free : x.holdsBack r.time = false := by rw [Session.holdsBack, loop]
      dsimp only
      rw [free]
      rfl
  rw [dueDeadline, targets]
  rfl

theorem divUp_eq (a b : Nat) : divUp a b = (a + (b - 1)) / b := by
  rw [divUp]
  cases b with
  | zero => rw [Nat.div_zero, Nat.div_zero]
  | succ b => rfl

/-! ### PLAY_START (R182) -/

/-- R182: the session of a start. -/
def startSession (sl : Slot) : Session :=
  { phase := .playing, slot := sl, cursor := 0, time := 0, remainder := 0, since := c.now, due := none, loop := none }

/-- R182, R195: the Player started at P ms and reported, before what P has reached. -/
def startedAt (sl : Slot) (p : Nat) : Controller :=
  (c.atSnapshot sl p).enters (c.movedSession (c.startSession sl) p) .playing

end Controller

theorem playStart_unknown {n : Nat} (h : 1 < n) (p : Nat) (c : Controller) :
    playStart n p c = (c, { code := .badValue, fields := [] }) := by
  rw [playStart, slotOf_unknown h]
  rfl

/-- R182: the answer to a start that is accepted. -/
def startAnswered (c : Controller) : Controller × Answer :=
  (c, { code := .accepted, fields := optLE 1 (c.player.session.map fun x => x.slot.code) ++ playFields c })

/-- R182: the checks of PLAY_START in their order, and what is accepted. -/
theorem playStart_eq (sl : Slot) (p : Nat) (c : Controller) : playStart sl.code p c =
    if c.playerState ≠ .stopped then (c, { code := .badState, fields := [] })
    else if c.recorderUses sl = true then (c, { code := .inUse, fields := [Config.userCode .recorder] })
    else if (c.take sl).isNone = true then (c, { code := .badState, fields := [] })
    else if c.length sl < p then (c, { code := .badValue, fields := [] })
    else startAnswered (c.startedAt sl p).takeReached := by
  rw [playStart, slotOf_code]
  rfl

theorem stopped_iff (c : Controller) : c.playerState = .stopped ↔ c.player.session = none := by
  rw [Controller.playerState]
  cases c.player.session with
  | none => simp
  | some x => cases phase : x.phase <;> simp [phase]

/-- Settles O49: the checks in their order; the session stands at P, where nothing is reached but what has time P. -/
theorem playStartStandsAtItsPosition : Obligations.PlayStartStandsAtItsPosition := by
  intro tag n p s sv c replies pl
  refine ⟨fun out => .of_rule rfl sv (playStart_unknown out p c) rfl rfl, ?known⟩
  rintro sl rfl rs pedal cursor
  have ans {c1 : Controller} {code : ResultCode} {shown : List Byte}
      (rule : playStart sl.code p c = (c1, { code := code, fields := shown })) : replies c1 code shown :=
    .of_rule rfl sv rule rfl rfl
  have rule := playStart_eq sl p c
  have idle (none : pl.session = .none) : ¬ c.playerState ≠ .stopped := not_not_intro ((stopped_iff c).2 none)
  have unused {b : Bool} (h : b = false) : ¬ b = true := Bool.eq_false_iff.1 h
  have taken {t : Option Take} (h : t ≠ .none) : ¬ t.isNone = true := fun e => h (Option.isNone_iff_eq_none.1 e)
  refine ⟨fun busy => ans (rule.trans (if_pos (mt (stopped_iff c).1 busy))),
    fun none used => ans (rule.trans ((if_neg (idle none)).trans (if_pos used))),
    fun none free empty => ans (rule.trans ((if_neg (idle none)).trans ((if_neg (unused free)).trans (if_pos ?_)))),
    fun none free held beyond => ans (rule.trans ((if_neg (idle none)).trans ((if_neg (unused free)).trans
      ((if_neg (taken held)).trans (if_pos beyond))))), fun none free held within => ?accepted⟩
  · rw [empty]
    rfl
  case accepted =>
    have accepted := rule.trans ((if_neg (idle none)).trans ((if_neg (unused free)).trans
      ((if_neg (taken held)).trans (if_neg (Nat.not_lt.2 within)))))
    obtain ⟨b, hb⟩ : ∃ b, b = c.startedAt sl p := ⟨_, rfl⟩
    obtain ⟨x, hx⟩ : ∃ x, x = c.movedSession (c.startSession sl) p := ⟨_, rfl⟩
    rw [← hb, startAnswered, playFields, ← List.append_assoc, ← List.append_assoc] at accepted
    have set : Controller.Frame [.player] c (c.atSnapshot sl p) := c.setPlayPedals_frame _ _ _
    have frame : Controller.Frame [.pool, .player, .link] c b :=
      hb ▸ (set.widen (by simp)).trans (Controller.enters_frame _ _ _)
    have player : b.player = { (c.atSnapshot sl p).player with session := some x } := by
      rw [hb, hx]
      exact Controller.enters_player _ _ _
    have session : b.player.session = some x := by rw [player]
    have playing : x.phase = .playing := by rw [hx]; rfl
    refine ⟨b.takeReached, ans accepted, (frame.widen (by simp)).trans b.takeReached_frame,
      Controller.takeReached_caughtUp_of session playing, fun on room => ?_, fun apart _ inside _ => ?_⟩
    · have said : { time := c.now, report := .playerState sl (p * 1000 / 1000) .playing } ∈ b.link.queue :=
        hb ▸ (c.atSnapshot sl p).enters_queued (c.movedSession (c.startSession sl) p) .playing on room
      rw [Nat.mul_div_cancel p (by decide)] at said
      exact b.takeReached_body.queued said (by simp)
    · have takes : b.takes = c.takes := frame.takes (by simp)
      have rule1 : b.takeReached = b.dueSet x := by
        have none : b.player.expected = [] := by rw [player]; rfl
        refine Controller.takeReached_dueSet session playing ?_ ?_
        · rw [hx]
          exact Controller.moved_taken takes apart none
        · rw [hx]
          exact Controller.moved_goesOn takes rfl inside
      rw [rule1]
      refine ⟨takes, frame.recorder (by simp), b.dueDeadline x, ?_, ?_⟩
      · rw [Controller.dueSet, Controller.player_setSession, player, hx]
        simp only [pedal, ← pedalBefore_eq]
        rfl
      · have tempo : b.player.tempo = pl.tempo := by rw [player]; rfl
        have now : b.now = c.now := congrArg StageClock.time (frame.clock (by simp))
        rw [Controller.dueDeadline_eq b (by rw [hx]; rfl), now, tempo, Controller.records_congr takes,
          Controller.length_congr takes, Controller.divUp_eq, hx]
        rfl

end Sys2Proof.Machine
end

section
/-! PLAY_SEEK and PLAY_LOOP (R187 to R189). -/

namespace Sys2Proof.Machine

namespace Controller

variable (c : Controller)

theorem syncRecording_congr {a b : Controller} (h : b.recorder = a.recorder) : b.syncRecording = a.syncRecording := by
  rw [syncRecording, syncRecording, h]

/-- What the take time reaches leaves a session without a loop so. -/
theorem takeReached_loopless {c : Controller} {x : Session} (session : c.player.session = some x) (loop : x.loop = none) :
    c.takeReached.player.session.bind Session.loop = none := by
  by_cases playing : x.phase = .playing
  · obtain ⟨y, after, loop', -, -⟩ := runBatch_session session
    have loopless : y.loop = none := loop'.trans loop
    have stays : jumpDue y = none := by
      cases jump : jumpDue y with
      | none => rfl
      | some l => cases loopless.symm.trans (jumpDue_eq_some.1 jump).2.1
    rw [takeReached_stays session playing after stays, endOrDue, after]
    dsimp only
    split
    · rw [naturalEnd_session]
      rfl
    · rw [setDue, after]
      dsimp only
      split <;> exact loopless
  · rw [c.takeReached_of_not_playing (session_still session playing), session]
    exact loop

/-! ### PLAY_SEEK (R187) -/

/-- R187: the PLAYBACK voices fading and the Player at P ms, in a state of play. -/
def sought (x : Session) (ph : PlayPhase) (p : Nat) : Controller := c.fadePlayback.moveTo { x with phase := ph } p

/-- R187: the session that a seek leaves before what it finds there. -/
def soughtSession (x : Session) (ph : PlayPhase) (p : Nat) : Session := c.movedSession { x with phase := ph } p

theorem sought_frame (x : Session) (ph : PlayPhase) (p : Nat) : Frame [.pool, .player, .link] c (c.sought x ph p) :=
  (c.fadePlayback_frame.widen (by simp)).trans ((moveTo_frame _ _ _).widen (by simp))

theorem sought_voice (x : Session) (ph : PlayPhase) (p i : Nat) : (c.sought x ph p).voice i = c.fadePlayback.voice i :=
  voice_of_frame (moveTo_frame _ _ _) (by simp) i

theorem sought_player (x : Session) (ph : PlayPhase) (p : Nat) : (c.sought x ph p).player =
    { (c.atSnapshot x.slot p).player with session := some (c.soughtSession x ph p) } := by
  have f := c.fadePlayback_frame
  have records : c.fadePlayback.records = c.records := records_congr (f.takes (by simp))
  have now : c.fadePlayback.now = c.now := congrArg StageClock.time (f.clock (by simp))
  have player : c.fadePlayback.player = c.player := f.player (by simp)
  rw [sought, moveTo_eq, player_setSession, movedSession, atSnapshot, atSnapshot, setPlayPedals, setPlayPedals, soughtSession,
    movedSession, records, now, player]

theorem sought_session (x : Session) (ph : PlayPhase) (p : Nat) :
    (c.sought x ph p).player.session = some (c.soughtSession x ph p) := by
  rw [sought_player]

/-- R187, R195: a seek out of a wait is reported. -/
def soughtFrom (x : Session) (p : Nat) : Controller :=
  if x.phase = .waiting then (c.sought x .playing p).reportState (c.soughtSession x .playing p) .playing
  else c.sought x .playing p

theorem soughtFrom_frame (x : Session) (p : Nat) : Frame [.link] (c.sought x .playing p) (c.soughtFrom x p) := by
  unfold soughtFrom
  split
  · exact reportState_frame _ _ _
  · exact .refl _ _

theorem seek_paused {x : Session} {w : Bool} (paused : x.phase = .paused w) (p : Nat) :
    c.seek x p = c.sought x (.paused false) p := by
  rw [seek, paused]
  rfl

theorem seek_plays {x : Session} (plays : x.phase = .playing ∨ x.phase = .waiting) (p : Nat) :
    c.seek x p = (c.soughtFrom x p).takeReached := by
  have session : (c.fadePlayback.moveTo { x with phase := .playing } p).player.session = some (c.soughtSession x .playing p) :=
    c.sought_session x .playing p
  rw [seek, soughtFrom]
  rcases plays with playing | waiting
  · rw [playing]
    rfl
  · rw [waiting]
    dsimp only
    rw [session]
    rfl

/-- R187: the pedals, the sets and the voices that a seek leaves. -/
structure Emptied (a : Controller) (sl : Slot) (p : Nat) (b : Controller) : Prop where
  takes : b.takes = a.takes
  recorder : b.recorder = a.recorder
  player : ∃ x, b.player = { (a.atSnapshot sl p).player with session := x }
  fading : ∀ i n, b.voice i = some n → n.source = .playback → n.fading = true

theorem sought_emptied (x : Session) (ph : PlayPhase) (p : Nat) : Emptied c x.slot p (c.sought x ph p) := by
  have f := c.sought_frame x ph p
  refine ⟨f.takes (by simp), f.recorder (by simp), ⟨_, c.sought_player x ph p⟩, fun i n hn playback => ?_⟩
  rw [sought_voice] at hn
  exact c.fadePlayback_fading hn playback

theorem Emptied.through {a b d : Controller} {sl : Slot} {p : Nat} (h : Emptied a sl p b) (f : Frame [.link] b d) :
    Emptied a sl p d := by
  obtain ⟨x, player⟩ := h.player
  refine ⟨(f.takes (by simp)).trans h.takes, (f.recorder (by simp)).trans h.recorder,
    ⟨x, (f.player (by simp)).trans player⟩, fun i n hn => ?_⟩
  rw [voice_of_frame f (by simp)] at hn
  exact h.fading i n hn

theorem Emptied.dueSet {a b : Controller} {sl : Slot} {p : Nat} (h : Emptied a sl p b) (x : Session) :
    Emptied a sl p (b.dueSet x) := by
  obtain ⟨y, player⟩ := h.player
  refine ⟨h.takes, h.recorder, ⟨some { x with due := some (b.dueDeadline x) }, ?_⟩, h.fading⟩
  rw [Controller.dueSet, player_setSession, player]

/-- R187: a seek to a place where no record stands, short of the end of the take, has only its due timer computed. -/
theorem seek_apart {c : Controller} {x : Session} {p : Nat} (plays : x.phase = .playing ∨ x.phase = .waiting)
    (free : ∀ r ∈ c.records x.slot, r.time ≠ p) (inside : p < c.length x.slot) :
    c.seek x p = (c.soughtFrom x p).dueSet (c.soughtSession x .playing p) := by
  have frame := c.soughtFrom_frame x p
  have takes : (c.soughtFrom x p).takes = c.takes :=
    (frame.takes (by simp)).trans ((c.sought_frame _ _ _).takes (by simp))
  have player := (frame.player (by simp)).trans (c.sought_player x .playing p)
  rw [c.seek_plays plays]
  exact takeReached_dueSet (by rw [player]) rfl
    (moved_taken (x := { x with phase := .playing }) takes free (by rw [player]; rfl))
    (moved_goesOn (x := { x with phase := .playing }) takes rfl inside)

end Controller

/-- R187: the answer to a seek. -/
def seekAnswered (c : Controller) : Controller × Answer := (c, { code := .ok, fields := playFields c })

section Seek

variable {c : Controller} {x : Session}

theorem playSeek_none (h : c.bringUp.player.session = none) (p : Nat) :
    playSeek p c = (c.bringUp, { code := .badState, fields := [] }) := by
  rw [playSeek, h]
  rfl

theorem playSeek_eq (h : c.bringUp.player.session = some x) (p : Nat) : playSeek p c =
    if c.bringUp.syncRecording = true then (c.bringUp.takeReached, { code := .badState, fields := [] })
    else if c.bringUp.length x.slot < p then (c.bringUp.takeReached, { code := .badValue, fields := [] })
    else seekAnswered (c.bringUp.seek x p) := by
  rw [playSeek, h]
  rfl

end Seek

/-! ### PLAY_LOOP (R188) -/

/-- R188: the loop that a request sets. -/
def Controller.givenLoop (c : Controller) (x : Session) (ls le count : Nat) : Loop :=
  { start := ls, stop := le, count := count, passes := 0, damper := pedalBefore (c.records x.slot) ls 0
    sostenuto := pedalBefore (c.records x.slot) ls 1, soft := pedalBefore (c.records x.slot) ls 2, armed := false }

/-- R189: a loop of which no pass is done is armed where the take time lies before its end. -/
theorem Controller.givenLoop_rearm (c : Controller) (x : Session) (ls le count : Nat) :
    (c.givenLoop x ls le count).rearm x.time = { c.givenLoop x ls le count with armed := decide (x.time < le * 1000) } := by
  have active : (c.givenLoop x ls le count).active = true := by
    rw [Loop.active, givenLoop]
    cases count <;> simp
  rw [Loop.rearm, active, Bool.true_and]
  rfl

/-- R188: the answer to PLAY_LOOP, once what the take time has reached is taken. -/
def loopAnswered (code : ResultCode) (c : Controller) : Controller × Answer :=
  (c.takeReached, { code := code, fields := loopFields c.takeReached })

section Loops

variable {c : Controller} {x : Session}

theorem playLoop_none (h : c.bringUp.player.session = none) (ls le count : Nat) :
    playLoop ls le count c = loopAnswered .badState c.bringUp := by
  rw [playLoop, h]
  rfl

theorem playLoop_sync (h : c.bringUp.player.session = some x) (sync : c.bringUp.syncRecording = true) (ls le count : Nat) :
    playLoop ls le count c = loopAnswered .badState c.bringUp := by
  rw [playLoop, h]
  exact if_pos sync

theorem playLoop_removes (h : c.bringUp.player.session = some x) (free : c.bringUp.syncRecording = false) (ls count : Nat) :
    playLoop ls 0 count c = if x.loop = none then loopAnswered .already c.bringUp
      else loopAnswered .ok (c.bringUp.setSession (some { x with loop := none })) := by
  rw [playLoop, h]
  refine (if_neg (Bool.eq_false_iff.1 free)).trans ((if_pos rfl).trans ?_)
  cases x.loop <;> rfl

theorem playLoop_refused {ls le count : Nat} (h : c.bringUp.player.session = some x) (free : c.bringUp.syncRecording = false)
    (some : le ≠ 0) (bad : le ≤ ls ∨ c.bringUp.length x.slot < le ∨ 99 < count) :
    playLoop ls le count c = loopAnswered .badValue c.bringUp := by
  rw [playLoop, h]
  exact (if_neg (Bool.eq_false_iff.1 free)).trans ((if_neg some).trans (if_pos bad))

/-- R188: the loop in force is the one that the request names. -/
theorem any_loop_iff (loop : Option Loop) (ls le count : Nat) :
    (loop.any fun l => l.start == ls && l.stop == le && l.count == count) = true ↔
      ∃ l, loop = some l ∧ l.start = ls ∧ l.stop = le ∧ l.count = count := by
  cases loop <;> simp [and_assoc]

theorem playLoop_sets {ls le count : Nat} (h : c.bringUp.player.session = some x) (free : c.bringUp.syncRecording = false)
    (some : le ≠ 0) (good : ¬ (le ≤ ls ∨ c.bringUp.length x.slot < le ∨ 99 < count)) : playLoop ls le count c =
      if (x.loop.any fun l => l.start == ls && l.stop == le && l.count == count) = true then loopAnswered .already c.bringUp
      else loopAnswered .ok
        (c.bringUp.setSession (.some { x with loop := .some ((c.bringUp.givenLoop x ls le count).rearm x.time) })) := by
  rw [playLoop, h]
  exact (if_neg (Bool.eq_false_iff.1 free)).trans ((if_neg some).trans (if_neg good))

end Loops

/-- Settles O51: a seek by the state of play, the loop by the checks in their order; what is reached by the take time. -/
theorem seekAndLoop : Obligations.SeekAndLoop := by
  intro tag s sv c u v moves looped
  have up : Controller.Frame [.player] c u := c.bringUp_frame
  have takes : u.takes = c.takes := up.takes (by simp)
  have records : u.records = c.records := Controller.records_congr takes
  have length : u.length = c.length := Controller.length_congr takes
  have now : u.now = c.now := congrArg StageClock.time (up.clock (by simp))
  have sync : u.syncRecording = c.syncRecording := Controller.syncRecording_congr (up.recorder (by simp))
  have stopped (none : u.player.session = none) : v = u := u.takeReached_of_not_playing fun plays => by
    obtain ⟨z, hz, -⟩ := (playing_iff u).1 plays
    cases none.symm.trans hz
  have answered {ls le count : Nat} {code : ResultCode} {b : Controller} (rule : playLoop ls le count c = loopAnswered code b) :
      Replies (.playLoop tag ls le count) 0xBD#8 tag s b.takeReached code (looped b.takeReached) :=
    .of_rule rfl sv (rule.trans (by rw [loopAnswered, loopFields_eq] <;> rfl)) rfl rfl
  refine ⟨fun p ls le count refused => ?refused, u.takeReached_frame, u.takeReached_of_not_playing, u.takeReached_caughtUp, ?known⟩
  case refused =>
    cases session : u.player.session with
    | none =>
      refine ⟨?_, answered (playLoop_none session ls le count)⟩
      rw [stopped session]
      exact .of_rule rfl sv (playSeek_none session p) rfl rfl
    | some x =>
      have busy : u.syncRecording = true := sync.trans (refused.resolve_left (by rw [session]; exact nofun))
      exact ⟨.of_rule rfl sv ((playSeek_eq session p).trans (if_pos busy)) rfl rfl,
        answered (playLoop_sync session busy ls le count)⟩
  intro x session idle rs snapshot active
  have free : u.syncRecording = false := sync.trans idle
  have seeks (p : Nat) := (playSeek_eq session p).trans (if_neg (Bool.eq_false_iff.1 free))
  have snap (t q : Nat) : pedalBefore (u.records x.slot) t q = snapshot t q := by
    rw [records]
    exact pedalBefore_eq rs t q
  refine ⟨fun p beyond => .of_rule rfl sv ((seeks p).trans (if_pos (length ▸ beyond))) rfl rfl, fun p within => ?seek,
    fun ls count loopless => ?already, fun ls le count some bad => answered (playLoop_refused session free some (length ▸ bad)),
    fun ls le count l some order inside few loop start stop number => ?same, fun ls le count change => ?change⟩
  case seek =>
    have rule := (seeks p).trans (if_neg (Nat.not_lt.2 (length ▸ within)))
    rw [seekAnswered, playFields] at rule
    refine ⟨u.seek x p, .of_rule rfl sv rule rfl rfl, ?_, fun no yes => ?_, ?placed⟩
    · by_cases plays : x.phase = .playing ∨ x.phase = .waiting
      · rw [u.seek_plays plays]
        exact ((up.widen (by simp [moves])).trans (((u.sought_frame _ _ _).trans
          ((u.soughtFrom_frame x p).widen (by simp))).widen (by simp [moves]))).trans (Controller.takeReached_frame _)
      · obtain ⟨w, paused⟩ : ∃ w, x.phase = .paused w := by
          cases phase : x.phase with
          | playing => exact absurd (.inl phase) plays
          | waiting => exact absurd (.inr phase) plays
          | paused w => exact ⟨w, rfl⟩
        rw [u.seek_paused paused]
        exact (up.widen (by simp [moves])).trans ((u.sought_frame _ _ _).widen (by simp [moves]))
    · have plays : x.phase = .playing ∨ x.phase = .waiting := by
        cases phase : x.phase with
        | playing => exact .inl rfl
        | waiting => exact .inr rfl
        | paused w => cases w with
          | true => exact absurd phase yes
          | false => exact absurd phase no
      rw [u.seek_plays plays]
      exact Controller.takeReached_always_caughtUp _
    case placed =>
      intro at' emptied
      have placed (ph : PlayPhase) (due : Option Time) : at' { u.soughtSession x ph p with due := due } := by
        refine ⟨rfl, rfl, rfl, now, ?_, ?_⟩
        · show indexAt (u.records x.slot) p = _
          rw [records]
          rfl
        · show (x.loop.map fun l => l.rearm (p * 1000)) = _
          simp only [Loop.rearm_ms]
          rfl
      have emptied_of (h : Controller.Emptied u x.slot p (u.seek x p)) : emptied := by
        obtain ⟨y, player⟩ := h.player
        refine ⟨h.takes.trans takes, h.recorder.trans (up.recorder (by simp)), ?_, ?_, ?_, ?_, ?_, ?_, h.fading⟩
        · rw [player, ← snap, ← snap, ← snap]
          rfl
        · rw [player, ← snap]
          rfl
        all_goals
          rw [player]
          rfl
      refine ⟨fun w paused => ?_, fun plays apart inside _ => ?_⟩
      · have whole := u.seek_paused paused p
        refine ⟨emptied_of (whole ▸ u.sought_emptied x _ p), u.soughtSession x (.paused false) p, ?_, rfl, rfl,
          placed (.paused false) none⟩
        rw [whole, u.sought_session]
      · have whole : u.seek x p = _ := Controller.seek_apart plays (records ▸ apart) (length ▸ inside)
        refine ⟨emptied_of ?_, { u.soughtSession x .playing p with
          due := some ((u.soughtFrom x p).dueDeadline (u.soughtSession x .playing p)) }, ?_, rfl, placed .playing _⟩
        · rw [whole]
          exact ((u.sought_emptied x .playing p).through (u.soughtFrom_frame x p)).dueSet _
        · rw [whole]
          rfl
  case already =>
    have rule := answered ((playLoop_removes session free ls count).trans (if_pos loopless))
    have shown : looped v = absent 9 := by
      dsimp only [looped]
      rw [Controller.takeReached_loopless session loopless]
    rw [← shown]
    exact rule
  case same =>
    have good : ¬ (le ≤ ls ∨ u.length x.slot < le ∨ 99 < count) := by
      rw [length]
      omega
    exact answered ((playLoop_sets session free some good).trans
      (if_pos ((any_loop_iff x.loop ls le count).2 ⟨l, loop, start, stop, number⟩)))
  case change =>
    intro loop
    obtain ⟨b, hb⟩ : ∃ b, b = u.setSession (some { x with loop := loop }) := ⟨_, rfl⟩
    have rule : playLoop ls le count c = loopAnswered .ok b := by
      rcases change with ⟨rfl, held⟩ | ⟨some, order, inside, few, differs⟩
      · exact ((playLoop_removes session free ls count).trans (if_neg held)).trans (by rw [hb]; rfl)
      · have good : ¬ (le ≤ ls ∨ u.length x.slot < le ∨ 99 < count) := by
          rw [length]
          omega
        have other : ¬ (x.loop.any fun l => l.start == ls && l.stop == le && l.count == count) = true := fun same => by
          obtain ⟨l, hl, same⟩ := (any_loop_iff x.loop ls le count).1 same
          exact differs l hl same
        have set : Option.some ((u.givenLoop x ls le count).rearm x.time) = loop := by
          rw [u.givenLoop_rearm, Controller.givenLoop, snap, snap, snap]
          exact (if_neg some).symm
        rw [hb, ← set]
        exact (playLoop_sets session free some good).trans (if_neg other)
    have frame : Controller.Frame [.player] c b := hb ▸ up.trans (u.setSession_frame _)
    have session1 : b.player.session = some { x with loop := loop } := by rw [hb]; rfl
    refine ⟨b.takeReached, answered rule, (frame.widen (by simp [moves])).trans b.takeReached_frame,
      fun still => ?_, fun _ => b.takeReached_always_caughtUp, fun playing ahead none => ?_⟩
    · rw [b.takeReached_of_not_playing (Controller.session_still session1 still), hb]
    · obtain ⟨r, next, before⟩ := ahead
      have next1 : (b.records x.slot)[x.cursor]? = some r := by
        rw [Controller.records_congr (frame.takes (by simp))]
        exact next
      have taken : b.Taken { x with loop := loop } := by
        refine ⟨fun q hq => ?_, fun l hl armed => ?_, by rw [hb]; exact none⟩
        · obtain rfl := Option.some.inj (next1.symm.trans hq)
          exact Session.not_reaches_iff.2 (.inl before)
        · have hl : loop = some l := hl
          by_cases zero : le = 0
          · rw [show loop = _ from if_pos zero] at hl
            cases hl
          · rw [show loop = _ from if_neg zero] at hl
            obtain rfl := Option.some.inj hl
            exact of_decide_eq_true armed
      rw [Controller.takeReached_dueSet session1 playing taken (b.atEnd_of_record next1)]
      refine ⟨frame.takes (by simp), frame.recorder (by simp), frame.pool (by simp), b.dueDeadline { x with loop := loop }, ?_⟩
      rw [Controller.dueSet, hb]
      rfl

end Sys2Proof.Machine
end

section
/-! The due timer's expiry: the due records one after another, the natural end and the loop jump (R175, R179 to R181, R184, R190). -/

namespace Sys2Proof.Machine

/-! ### What a batch makes of the dampers and the pedals (R180, R181) -/

/-- R180: the playback key-down set after a record, no hand guided. -/
def damperStep (muted : Nat → Bool) (ks : List Nat) (r : TakeRec) : List Nat :=
  if muted r.subject then ks
  else match r.kind with
    | .strike | .damperUp => joinKey r.subject ks
    | .damperDown => leaveKey r.subject ks
    | .pedal | .mark => ks

/-- R181: the value of pedal p after a record. -/
def pedalStep (p old : Nat) (r : TakeRec) : Nat := if r.kind = .pedal ∧ r.subject = p then r.value else old

/-- The value that the last PEDAL record of a list gives. -/
theorem foldl_pedalStep (p old : Nat) (rs : List TakeRec) : rs.foldl (pedalStep p) old =
    ((rs.filter fun r => decide (r.kind = .pedal ∧ r.subject = p)).getLast?.map TakeRec.value).getD old := by
  induction rs generalizing old with
  | nil => rfl
  | cons r rs ih =>
    rw [List.foldl_cons, ih, pedalStep]
    by_cases h : r.kind = .pedal ∧ r.subject = p
    · rw [List.filter_cons_of_pos (p := fun r : TakeRec => decide (r.kind = .pedal ∧ r.subject = p)) (decide_eq_true h),
        List.getLast?_cons, if_pos h]
      cases (rs.filter fun r => decide (r.kind = .pedal ∧ r.subject = p)).getLast? <;> rfl
    · rw [List.filter_cons_of_neg (by simpa using h), if_neg h]

namespace Controller

variable (c : Controller)

theorem guides_of_none {c : Controller} (h : c.player.guide = .none) (k : Nat) : c.player.guides k = false := by
  rw [Player.guides, h]
  exact Bool.and_false _

/-- R191: without a guide no record touches the expectation or the consumed set. -/
theorem applyRecord_unguided {c : Controller} (h : c.player.guide = .none) (x : Session) (r : TakeRec) :
    (c.applyRecord x r).player.expected = c.player.expected ∧ (c.applyRecord x r).player.consumed = c.player.consumed := by
  unfold applyRecord
  split
  · split_ifs with _ guided
    · exact ⟨rfl, rfl⟩
    · exact absurd guided (by simp [guides_of_none h])
    · rw [(poolStrike_frame _ _ _ _).player (by simp), raiseDamper_player]
      exact ⟨rfl, rfl⟩
  · split_ifs
    · exact ⟨rfl, rfl⟩
    · rw [raiseDamper_player]
      exact ⟨rfl, rfl⟩
  · split_ifs
    · exact ⟨rfl, rfl⟩
    · rw [lowerDamper_player]
      exact ⟨rfl, rfl⟩
  · unfold playPedal
    split
    · rw [(reevaluateSource_frame _ _).player (by simp)]
      exact ⟨rfl, rfl⟩
    · rw [playSostenuto_player]
      split_ifs <;> exact ⟨rfl, rfl⟩
    · exact ⟨rfl, rfl⟩
  · rw [report_player]
    exact ⟨rfl, rfl⟩

/-- R180: what a record makes of the key-down set, no hand guided. -/
theorem applyRecord_keyDown {c : Controller} (h : c.player.guide = .none) (x : Session) (r : TakeRec) :
    (c.applyRecord x r).player.keyDown = damperStep c.player.mutes c.player.keyDown r := by
  have unguided := guides_of_none h r.subject
  unfold applyRecord damperStep
  rw [unguided, Bool.or_false]
  cases r.kind with
  | strike =>
    by_cases muted : c.player.mutes r.subject = true
    · simp [muted]
    · simp only [muted]
      exact (congrArg Player.keyDown ((poolStrike_frame _ _ _ _).player (by simp))).trans (by rw [raiseDamper_player]; rfl)
  | damperUp =>
    by_cases muted : c.player.mutes r.subject = true
    · simp [muted]
    · simp only [muted]
      exact congrArg Player.keyDown (c.raiseDamper_player _)
  | damperDown =>
    by_cases muted : c.player.mutes r.subject = true
    · simp [muted]
    · simp only [muted]
      exact congrArg Player.keyDown (c.lowerDamper_player _)
  | pedal =>
    have kept : (c.playPedal r.subject r.value).player.keyDown = c.player.keyDown := by
      unfold playPedal
      split
      · rw [(reevaluateSource_frame _ _).player (by simp)]
      · rw [playSostenuto_player]
        split_ifs <;> rfl
      · rfl
    exact kept.trans (ite_self _).symm
  | mark => exact (congrArg Player.keyDown (c.report_player _)).trans (ite_self _).symm

/-- The values of the playback pedals. -/
def playPedals : Nat × Nat × Nat := (c.player.damper, c.player.sostenuto, c.player.soft)

theorem raiseDamper_pedals (k : Nat) : (c.raiseDamper k).playPedals = c.playPedals := by
  rw [playPedals, raiseDamper_player]
  rfl

theorem lowerDamper_pedals (k : Nat) : (c.lowerDamper k).playPedals = c.playPedals := by
  rw [playPedals, lowerDamper_player]
  rfl

theorem playSostenuto_pedals (v : Nat) : (c.playSostenuto v).playPedals = (c.player.damper, v, c.player.soft) := by
  rw [playPedals, playSostenuto_player]
  split_ifs <;> rfl

/-- R181: what a record makes of the playback pedals. -/
theorem applyRecord_pedals {c : Controller} (h : c.player.guide = .none) (x : Session) (r : TakeRec)
    (known : r.kind = .pedal → r.subject ≤ 2) : (c.applyRecord x r).playPedals =
      (pedalStep 0 c.player.damper r, pedalStep 1 c.player.sostenuto r, pedalStep 2 c.player.soft r) := by
  have unguided := guides_of_none h r.subject
  have other (ne : r.kind ≠ .pedal) :
      (pedalStep 0 c.player.damper r, pedalStep 1 c.player.sostenuto r, pedalStep 2 c.player.soft r) = c.playPedals := by
    simp [pedalStep, ne, playPedals]
  unfold applyRecord
  rw [unguided, Bool.or_false]
  cases kind : r.kind with
  | strike =>
    rw [other (by rw [kind]; exact nofun)]
    by_cases muted : c.player.mutes r.subject = true
    · simp [muted]
    · simp only [muted]
      exact (congrArg (fun p : Player => (p.damper, p.sostenuto, p.soft)) ((poolStrike_frame _ _ _ _).player (by simp))).trans
        (c.raiseDamper_pedals _)
  | damperUp =>
    rw [other (by rw [kind]; exact nofun)]
    by_cases muted : c.player.mutes r.subject = true
    · simp [muted]
    · simp only [muted]
      exact c.raiseDamper_pedals _
  | damperDown =>
    rw [other (by rw [kind]; exact nofun)]
    by_cases muted : c.player.mutes r.subject = true
    · simp [muted]
    · simp only [muted]
      exact c.lowerDamper_pedals _
  | mark =>
    rw [other (by rw [kind]; exact nofun)]
    exact congrArg (fun p : Player => (p.damper, p.sostenuto, p.soft)) (c.report_player _)
  | pedal =>
    have low := known kind
    have pedal (p old : Nat) : pedalStep p old r = if r.subject = p then r.value else old := by simp [pedalStep, kind]
    rw [pedal, pedal, pedal]
    dsimp only
    match subject : r.subject, low with
    | 0, _ =>
      exact congrArg (fun p : Player => (p.damper, p.sostenuto, p.soft)) ((reevaluateSource_frame _ _).player (by simp))
    | 1, _ => exact c.playSostenuto_pedals _
    | 2, _ => rfl

/-! ### The batch, no hand guided -/

theorem guide_of_settings {p q : Player} (h : q.settings = p.settings) : q.guide = p.guide :=
  congrArg (fun s => s.2.2.2.2.1) h

theorem passRecord_expected {c : Controller} (h : c.player.guide = .none) (x : Session) (r : TakeRec) :
    (c.passRecord x r).player.expected = c.player.expected := by
  unfold passRecord
  split
  · rfl
  · have moved := applyRecord_unguided (c := c.setSession (some { x with cursor := x.cursor + 1 })) h
      { x with cursor := x.cursor + 1 } r
    exact moved.1

theorem applyBatch_expected (rs : List TakeRec) {c : Controller} (h : c.player.guide = .none) :
    (applyBatch rs c).player.expected = c.player.expected := by
  induction rs generalizing c with
  | nil => rfl
  | cons r rs ih =>
    cases session : c.player.session with
    | none => rw [applyBatch, session]
    | some x =>
      by_cases reached : x.reaches r = true
      · rw [applyBatch_passes session reached, ih ((guide_of_settings (c.passRecord_session x r).2).trans h)]
        exact passRecord_expected h x r
      · rw [applyBatch_stands session (Bool.eq_false_iff.2 reached)]

theorem passRecord_fresh {c : Controller} (none : c.player.consumed = []) (x : Session) (r : TakeRec) :
    c.passRecord x r =
      (c.setSession (some { x with cursor := x.cursor + 1 })).applyRecord { x with cursor := x.cursor + 1 } r := by
  rw [passRecord, none]
  rfl

/-- R179 to R181: the dampers and the pedals follow the records taken, one after another. -/
theorem applyBatch_follows (rs : List TakeRec) {c : Controller} {x : Session} (session : c.player.session = some x)
    (guide : c.player.guide = .none) (none : c.player.consumed = [])
    (known : ∀ r ∈ rs.takeWhile x.reaches, r.kind = .pedal → r.subject ≤ 2) :
    (applyBatch rs c).player.keyDown = (rs.takeWhile x.reaches).foldl (damperStep c.player.mutes) c.player.keyDown ∧
      (applyBatch rs c).playPedals =
        ((rs.takeWhile x.reaches).foldl (pedalStep 0) c.player.damper,
          (rs.takeWhile x.reaches).foldl (pedalStep 1) c.player.sostenuto,
          (rs.takeWhile x.reaches).foldl (pedalStep 2) c.player.soft) := by
  induction rs generalizing c x with
  | nil => exact ⟨rfl, rfl⟩
  | cons r rs ih =>
    by_cases reached : x.reaches r = true
    · obtain ⟨c1, hc1⟩ : ∃ c1, c1 = c.setSession (some { x with cursor := x.cursor + 1 }) := ⟨_, rfl⟩
      have guide1 : c1.player.guide = .none := by rw [hc1]; exact guide
      rw [List.takeWhile_cons_of_pos reached] at known ⊢
      obtain ⟨session', settings⟩ := c.passRecord_session x r
      have passed := passRecord_fresh none x r
      rw [← hc1] at passed
      have consumed : (c.passRecord x r).player.consumed = [] := by
        rw [passed, (applyRecord_unguided guide1 _ r).2, hc1]
        exact none
      have down : (c.passRecord x r).player.keyDown = damperStep c.player.mutes c.player.keyDown r := by
        rw [passed, applyRecord_keyDown guide1, hc1]
        rfl
      have pedals : (c.passRecord x r).playPedals =
          (pedalStep 0 c.player.damper r, pedalStep 1 c.player.sostenuto r, pedalStep 2 c.player.soft r) := by
        rw [passed, applyRecord_pedals guide1 _ r (known r (List.mem_cons_self ..)), hc1]
        rfl
      obtain ⟨keyDown', pedals'⟩ := ih (c := c.passRecord x r) (x := { x with cursor := x.cursor + 1 }) session'
        ((guide_of_settings settings).trans guide) consumed fun q hq => known q (List.mem_cons_of_mem _ hq)
      simp only [playPedals, Prod.mk.injEq] at pedals
      obtain ⟨damper, sostenuto, soft⟩ := pedals
      rw [applyBatch_passes session reached, keyDown', pedals', down, Player.mutes_congr settings, damper, sostenuto, soft]
      exact ⟨rfl, rfl⟩
    · rw [applyBatch_stands session (Bool.eq_false_iff.2 reached), List.takeWhile_cons_of_neg reached]
      exact ⟨rfl, rfl⟩

/-- A batch that takes one record. -/
theorem applyBatch_lone {rs : List TakeRec} {r : TakeRec} {c : Controller} {x : Session} (session : c.player.session = some x)
    (lone : rs.takeWhile x.reaches = [r]) : applyBatch rs c = c.passRecord x r := by
  cases rs with
  | nil => cases lone
  | cons q rs =>
    by_cases reached : x.reaches q = true
    · rw [List.takeWhile_cons_of_pos reached, List.cons.injEq] at lone
      obtain ⟨rfl, rest⟩ := lone
      rw [applyBatch_passes session reached]
      have session' := (c.passRecord_session x q).1
      cases rs with
      | nil => rfl
      | cons p rs =>
        refine applyBatch_stands session' (Bool.eq_false_iff.2 fun passes => ?_) rs
        have passes : x.reaches p = true := passes
        rw [List.takeWhile_cons_of_pos passes] at rest
        cases rest
    · rw [List.takeWhile_cons_of_neg reached] at lone
      cases lone

/-- R113, R180: an unmuted STRIKE record that is taken alone sounds. -/
theorem applyRecord_sounds {c : Controller} (guide : c.player.guide = .none) (sized : c.Sized) (ok : c.PoolOk) (x : Session)
    {r : TakeRec} (strike : r.kind = .strike) (unmuted : c.player.mutes r.subject = false) :
    ∃ i n, (c.applyRecord x r).voice i = some n ∧ n.source = .playback ∧ n.key = r.subject ∧ n.level = r.value ∧
      n.fading = false ∧ n.start = c.now := by
  obtain ⟨b, hb⟩ : ∃ b, b = c.raiseDamper r.subject := ⟨_, rfl⟩
  have sounds : c.applyRecord x r = b.poolStrike .playback r.subject r.value := by
    rw [applyRecord, strike, hb]
    dsimp only
    rw [unmuted, guides_of_none guide]
    rfl
  have kept : Keeps [.playSets] c b := hb ▸ c.raiseDamper_body _
  have sizedB : b.Sized :=
    ⟨kept .keyTable (by simp) sized.keys, kept .acoustic (by simp) sized.acoustic, kept .silent (by simp) sized.silent,
      kept .rounds (by simp) sized.rounds, kept .units (by simp) sized.units, kept .pedalTable (by simp) sized.pedals,
      kept .voices (by simp) sized.voices, kept .decay (by simp) sized.decay⟩
  obtain ⟨-, -, i, n, voice, -, sounding, source, key, level, -, start, -⟩ :=
    strikeTakesOneVoice b .playback r.subject r.value sizedB (kept .pool (by simp) ok)
  have now : b.now = c.now := by
    rw [hb]
    exact congrArg StageClock.time ((c.raiseDamper_frame _).clock (by simp))
  rw [sounds]
  exact ⟨i, n, voice, source, key, level, sounding, start.trans now⟩

/-! ### The natural end (R184) -/

/-- R184: the Player STOPPED at its end, before a SYNC recording ends. -/
def ended (x : Session) : Controller :=
  (((c.setPlayPedals 0 0 0).setSession none).reevaluateSource .playback).report (.playEnd x.slot (x.time / 1000))

theorem naturalEnd_eq (x : Session) : c.naturalEnd x = (c.ended x).syncStop (x.time / 1000) := rfl

theorem ended_frame (x : Session) : Frame [.pool, .player, .link] c (c.ended x) :=
  ((((c.setPlayPedals_frame _ _ _).widen (by simp)).trans ((setSession_frame _ _).widen (by simp))).trans
    ((reevaluateSource_frame _ _).widen (by simp))).trans ((report_frame _ _).widen (by simp))

theorem ended_queued (x : Session) (on : c.link.mask.getLsbD 5 = true) (room : c.link.queue.length < 60) :
    { time := c.now, report := .playEnd x.slot (x.time / 1000) } ∈ (c.ended x).link.queue := by
  obtain ⟨b, hb⟩ : ∃ b, b = (c.setPlayPedals 0 0 0).setSession none := ⟨_, rfl⟩
  have tells : Tells 1 c (b.reevaluateSource .playback) :=
    (Tells.of_link (n := 0) (a := c) (b := b) (by rw [hb]; rfl)).trans (b.reevaluate_tells _)
  have clock : (b.reevaluateSource .playback).clock = c.clock := by
    rw [(reevaluateSource_frame _ _).clock (by simp), hb]
    rfl
  have said := tells.queuedNow (r := .playEnd x.slot (x.time / 1000)) (congrArg StageClock.time clock) on (by omega)
  rw [ended, ← hb]
  exact said

/-- R184, R197: the Player emptied, its settings kept. -/
theorem emptied_of_settings {p q : Player} (h : q.settings = p.settings) :
    { q with
      session := none, damper := 0, sostenuto := 0, soft := 0, engaged := false, keyDown := [], held := [], expected := []
      consumed := [] } =
    { p with
      session := none, damper := 0, sostenuto := 0, soft := 0, engaged := false, keyDown := [], held := [], expected := []
      consumed := [] } := by
  simp only [Player.settings, Prod.mk.injEq] at h
  obtain ⟨tempo, split, left, right, guide, window⟩ := h
  simp only [tempo, split, left, right, guide, window]

theorem naturalEnd_emptied (x : Session) : (c.naturalEnd x).player =
    { c.player with
      session := none, damper := 0, sostenuto := 0, soft := 0, engaged := false, keyDown := [], held := [], expected := []
      consumed := [] } := by
  rw [naturalEnd_player]
  rfl

end Controller
end Sys2Proof.Machine
end

section
/-! DUE_TIMER_EXPIRY (R175). -/

namespace Sys2Proof.Machine

namespace Controller

variable {c : Controller} {x : Session}

theorem dueTimerExpiry_due {d : Time} (active : c.clock.suspended = false) (session : c.player.session = some x)
    (playing : x.phase = .playing) (due : x.due = some d) (late : (c.now - d).toNat < 2147483648) :
    c.dueTimerExpiry = (c.setSession (some (c.brought x))).takeReached := by
  have expired : c.expired x.due = true := by
    rw [due]
    exact expired_of_due active rfl late
  rw [dueTimerExpiry, session, ← bringUp_playing session playing]
  exact if_pos ⟨playing, expired⟩

/-- R175: no hand guided and no key expected, a batch ends without a wait. -/
theorem runBatch_unguided (session : c.player.session = some x) (guide : c.player.guide = .none)
    (none : c.player.expected = []) : c.runBatch = c.batched x ∧ (c.batched x).player.session = some (c.advanced x) ∧
      (c.batched x).player.expected = [] := by
  have unexpected : (c.batched x).player.expected = [] := (applyBatch_expected _ guide).trans none
  obtain ⟨-, e⟩ | ⟨waits, -⟩ := runBatch_cases session
  · exact ⟨e, applyBatch_session _ session, unexpected⟩
  · exact absurd unexpected waits

/-- R175: no hand guided and no loop, the due records are taken, and then the end or the due timer follows. -/
theorem takeReached_unguided (session : c.player.session = some x) (playing : x.phase = .playing)
    (guide : c.player.guide = .none) (none : c.player.expected = []) (loop : x.loop = .none) :
    c.takeReached = (c.batched x).endOrDue := by
  obtain ⟨run, after, -⟩ := runBatch_unguided session guide none
  have stays : jumpDue (c.advanced x) = .none := by
    cases jump : jumpDue (c.advanced x) with
    | none => rfl
    | some l => cases loop.symm.trans (jumpDue_eq_some.1 jump).2.1
  rw [takeReached_stays session playing (by rw [run, after]) stays, run]

/-- R190: an armed loop at its end, no record at its start: the Player stands there, its due timer computed afresh. -/
theorem takeReached_loops {l : Loop} (session : c.player.session = some x) (playing : x.phase = .playing)
    (guide : c.player.guide = .none) (none : c.player.expected = []) (loop : x.loop = some l) (armed : l.armed = true)
    (ends : l.stop * 1000 ≤ x.time) (apart : ∀ r ∈ c.records x.slot, r.time ≠ l.start) (inside : l.start < c.length x.slot) :
    c.takeReached = ((c.batched x).jumped (c.advanced x) l).dueSet ((c.batched x).jumpedSession (c.advanced x) l) := by
  obtain ⟨run, after, -⟩ := runBatch_unguided session guide none
  have jump : jumpDue (c.advanced x) = some l := jumpDue_eq_some.2 ⟨playing, loop, armed, ends⟩
  obtain ⟨b, hb⟩ : ∃ b, b = (c.batched x).jumped (c.advanced x) l := ⟨_, rfl⟩
  obtain ⟨y, hy⟩ : ∃ y, y = (c.batched x).jumpedSession (c.advanced x) l := ⟨_, rfl⟩
  have session1 : b.player.session = some y := by rw [hb, hy]; exact (c.batched x).jumped_session _ l
  have takes : (c.batched x).takes = c.takes := (applyBatch_frame _ _).takes (by simp)
  have takes1 : b.takes = c.takes := by
    rw [hb, jumped, (report_frame _ _).takes (by simp)]
    exact ((c.batched x).fadePlayback_frame.takes (by simp)).trans takes
  have taken : b.Taken y := by
    refine ⟨fun r hr => Session.not_reaches_iff.2 (.inl ?_), fun m hm armed => ?_, ?_⟩
    · rw [records_congr takes1, hy, jumpedSession, records_congr takes] at hr
      have later := getElem?_takeWhile_length (p := fun q : TakeRec => decide (q.time < l.start)) (l := c.records x.slot) hr
      have ne := apart r (List.mem_of_getElem? hr)
      have : l.start ≤ r.time := Nat.le_of_not_lt (of_decide_eq_false later)
      rw [hy]
      show l.start * 1000 < r.time * 1000
      omega
    · rw [hy] at hm ⊢
      obtain rfl := Option.some.inj hm
      exact jumpedLoop_before armed
    · rw [hb, jumped, report_player]
      rfl
  have goesOn : b.atEnd y = false := by
    refine Bool.eq_false_iff.2 fun ends => ?_
    obtain ⟨-, reached, -⟩ := (b.atEnd_iff (x := y) (by rw [hy]; exact playing)).1 ends
    rw [length_congr takes1, hy] at reached
    have reached : c.length x.slot * 1000 ≤ l.start * 1000 := reached
    omega
  rw [takeReached_jumps session playing (by rw [run, after]) jump, run, loopJump_eq, ← hb, ← hy,
    runBatch_nothing session1 taken.records taken.nothingExpected]
  exact endOrDue_goesOn session1 (by rw [hy]; exact playing) goesOn

end Controller

/-- Settles O54: the batch record by record, then the end or the due timer; the jump of an armed loop. -/
theorem dueTimerTakesWhatIsReached : Obligations.DueTimerTakesWhatIsReached := by
  intro x d s run active session playing timer late c pl sum time rs due muted dampers pedalled ended
  obtain ⟨u, hu⟩ : ∃ u, u = c.setSession (some (c.brought x)) := ⟨_, rfl⟩
  obtain ⟨y, hy⟩ : ∃ y, y = c.brought x := ⟨_, rfl⟩
  have rule : c.dueTimerExpiry = u.takeReached := hu ▸ Controller.dueTimerExpiry_due active session playing timer late
  have up : Controller.Frame [.player] c u := hu ▸ c.setSession_frame _
  have player : u.player = { pl with session := some y } := by rw [hu, hy]; rfl
  have sessionU : u.player.session = some y := by rw [player]
  have playingY : y.phase = .playing := by rw [hy]; exact playing
  have settings : u.player.settings = pl.settings := by rw [player]; rfl
  have mutes : pl.mutes = muted := by
    funext k
    simp only [Player.mutes, Player.isLeft, muted, decide_eq_true_eq]
  refine ⟨u.takeReached, .of_run (f := Controller.dueTimerExpiry) rfl run rule, (up.widen (by simp)).trans u.takeReached_frame,
    Controller.takeReached_caughtUp_of sessionU playingY, ?plain, ?loops⟩
  case plain =>
    intro guide unexpected none loop known
    have guideU : u.player.guide = .none := by rw [player]; exact guide
    have expectedU : u.player.expected = [] := by rw [player]; exact unexpected
    have consumedU : u.player.consumed = [] := by rw [player]; exact none
    have loopY : y.loop = .none := by rw [hy]; exact loop
    have reaches : y.reaches = fun r => decide (r.time * 1000 ≤ time) := by
      funext r
      have free : y.holdsBack r.time = false := by rw [Session.holdsBack, loopY]
      rw [Session.reaches, Bool.eq_iff_iff]
      simp only [free, decide_eq_true_eq, and_true]
      rw [hy]
      exact Iff.rfl
    have list : (u.records y.slot).drop y.cursor = rs.drop x.cursor := by rw [hu, hy]; rfl
    have reached : u.reachedRecords y = due := by rw [Controller.reachedRecords, list, reaches]
    have advanced : u.advanced y = { x with
        cursor := x.cursor + due.length, time := time, remainder := sum % 100, since := c.now } := by
      rw [Controller.advanced, reached, hy]
      rfl
    obtain ⟨b, hb⟩ : ∃ b, b = u.batched y := ⟨_, rfl⟩
    obtain ⟨z, hz⟩ : ∃ z, z = u.advanced y := ⟨_, rfl⟩
    obtain ⟨-, sessionB, -⟩ := Controller.runBatch_unguided sessionU guideU expectedU
    rw [← hb, ← hz] at sessionB
    have frameB : Controller.Frame [.pool, .player, .link] u b := hb ▸ u.applyBatch_frame _
    have takesB : b.takes = c.takes := (frameB.takes (by simp)).trans (up.takes (by simp))
    have recorderB : b.recorder = c.recorder := (frameB.recorder (by simp)).trans (up.recorder (by simp))
    have whole : u.takeReached = b.endOrDue := hb ▸ Controller.takeReached_unguided sessionU playingY guideU expectedU loopY
    have playingZ : z.phase = .playing := by rw [hz]; exact playingY
    have atEnd : b.atEnd z = true ↔ ended := by
      have unarmed : z.armed = false := by rw [hz, Session.armed, advanced, loop]
      rw [b.atEnd_iff playingZ, and_iff_left unarmed, Controller.length_congr takesB, Controller.count,
        Controller.records_congr takesB, hz, advanced]
    rw [whole]
    refine ⟨fun goesOn => ?_, fun ends => ?_⟩
    · rw [Controller.endOrDue_goesOn sessionB playingZ (Bool.eq_false_iff.2 (mt atEnd.1 goesOn))]
      have known' : ∀ r ∈ ((u.records y.slot).drop y.cursor).takeWhile y.reaches, r.kind = .pedal → r.subject ≤ 2 := by
        rw [list, reaches]
        exact known
      obtain ⟨down, pedals⟩ := Controller.applyBatch_follows _ sessionU guideU consumedU known'
      have batch : Controller.applyBatch ((u.records y.slot).drop y.cursor) u = b := hb.symm
      rw [batch, list, reaches] at down pedals
      refine ⟨takesB, recorderB, ⟨b.dueDeadline z, ?_⟩, down.trans ?_, pedals.trans ?_, fun r lone strike unmuted sized ok => ?_⟩
      · rw [Controller.dueSet, hz, advanced]
        rfl
      · rw [Player.mutes_congr settings, player, mutes]
        rfl
      · simp only [foldl_pedalStep, player]
        rfl
      · have lone' : ((u.records y.slot).drop y.cursor).takeWhile y.reaches = [r] := by
          rw [list, reaches]
          exact lone
        obtain ⟨b0, hb0⟩ : ∃ b0, b0 = u.setSession (some { y with cursor := y.cursor + 1 }) := ⟨_, rfl⟩
        have applied : b = b0.applyRecord { y with cursor := y.cursor + 1 } r := by
          rw [hb0, ← Controller.passRecord_fresh consumedU, hb]
          exact Controller.applyBatch_lone sessionU lone'
        have base : Controller.Frame [.player] c b0 := hb0 ▸ up.trans (u.setSession_frame _)
        have player0 : b0.player.settings = pl.settings := by rw [hb0]; exact settings
        have quiet : b0.player.mutes r.subject = false := by
          rw [Player.mutes_congr player0, mutes]
          exact unmuted
        have size : b0.Sized := by
          have kept : Controller.Keeps [.playSets] c b0 := .of_player base
          exact ⟨kept .keyTable (by simp) sized.keys, kept .acoustic (by simp) sized.acoustic, kept .silent (by simp) sized.silent,
            kept .rounds (by simp) sized.rounds, kept .units (by simp) sized.units, kept .pedalTable (by simp) sized.pedals,
            kept .voices (by simp) sized.voices, kept .decay (by simp) sized.decay⟩
        have limits : b0.PoolOk := ok.of_pool_eq (base.pool (by simp))
        obtain ⟨i, n, voice, source, key, level, sounding, start⟩ := Controller.applyRecord_sounds
          ((Controller.guide_of_settings player0).trans guide) size limits { y with cursor := y.cursor + 1 } strike quiet
        rw [← applied] at voice
        exact ⟨i, n, voice, source, key, level, sounding, start.trans (congrArg StageClock.time (base.clock (by simp)))⟩
    · rw [Controller.endOrDue_ends sessionB (atEnd.2 ends)]
      have ms : z.time / 1000 = time / 1000 := by rw [hz, advanced]
      have slot : z.slot = x.slot := by rw [hz, advanced]
      have stop : Controller.Frame [.pool, .player, .link] b (b.ended z) := b.ended_frame z
      refine ⟨?_, fun j job sync _ => ?_, fun nothing on room => ?_⟩
      · have settingsB : b.player.settings = pl.settings := by rw [hb, Controller.batched, Controller.applyBatch_settings, settings]
        rw [b.naturalEnd_emptied z]
        exact Controller.emptied_of_settings settingsB
      · have jobE : (b.ended z).recorder.job = some j := by rw [stop.recorder (by simp), recorderB]; exact job
        rw [b.naturalEnd_eq z, Controller.syncStop_stops jobE sync, Controller.recStop_take,
          Controller.records_congr ((stop.takes (by simp)).trans takesB), ms]
        exact ⟨Controller.recStop_job _ j _ _, rfl⟩
      · have still : b = u := by
          have none' : ((u.records y.slot).drop y.cursor).takeWhile y.reaches = [] := by
            rw [list, reaches]
            exact nothing
          rw [hb, Controller.batched]
          cases rest : (u.records y.slot).drop y.cursor with
          | nil => rfl
          | cons r rest' =>
            refine Controller.applyBatch_stands sessionU (Bool.eq_false_iff.2 fun passes => ?_) rest'
            rw [rest, List.takeWhile_cons_of_pos passes] at none'
            cases none'
        have link : b.link = c.link := by rw [still]; exact up.link (by simp)
        have now : b.now = c.now := by rw [still]; exact congrArg StageClock.time (up.clock (by simp))
        have said := b.ended_queued z (link ▸ on) (link ▸ room)
        rw [now, slot, ms] at said
        rw [b.naturalEnd_eq z]
        exact ((b.ended z).syncStop_keeps (skip := []) _).queued said (by simp)
  case loops =>
    intro l guide unexpected loop armed ends _ apart inside
    have guideU : u.player.guide = .none := by rw [player]; exact guide
    have expectedU : u.player.expected = [] := by rw [player]; exact unexpected
    have loopY : y.loop = some l := by rw [hy]; exact loop
    have endsY : l.stop * 1000 ≤ y.time := by rw [hy]; exact ends
    have takesU : u.takes = c.takes := up.takes (by simp)
    have slotY : y.slot = x.slot := by rw [hy]; rfl
    have whole := Controller.takeReached_loops sessionU playingY guideU expectedU loopY armed endsY
      (by rw [Controller.records_congr takesU, slotY]; exact apart) (by rw [Controller.length_congr takesU, slotY]; exact inside)
    obtain ⟨b, hb⟩ : ∃ b, b = u.batched y := ⟨_, rfl⟩
    obtain ⟨z, hz⟩ : ∃ z, z = u.advanced y := ⟨_, rfl⟩
    rw [← hb, ← hz] at whole
    have frameB : Controller.Frame [.pool, .player, .link] u b := hb ▸ u.applyBatch_frame _
    have takesB : b.takes = c.takes := (frameB.takes (by simp)).trans takesU
    have jump : Controller.Frame [.pool, .player, .link] b (b.jumped z l) :=
      (((b.fadePlayback_frame.widen (by simp)).trans ((Controller.setPlayPedals_frame _ _ _ _).widen (by simp))).trans
        ((Controller.setSession_frame _ _).widen (by simp))).trans ((Controller.report_frame _ _).widen (by simp))
    have playerJ : (b.jumped z l).player = { (b.fadePlayback.setPlayPedals l.damper l.sostenuto l.soft).player with
        session := some (b.jumpedSession z l) } := by
      rw [Controller.jumped, Controller.report_player]
      rfl
    rw [whole]
    refine ⟨(jump.takes (by simp)).trans takesB,
      (jump.recorder (by simp)).trans ((frameB.recorder (by simp)).trans (up.recorder (by simp))), ?_, ?_, ?_, ?_, ?_,
      fun i n hn playback => ?_, (b.jumped z l).dueDeadline (b.jumpedSession z l), ?_⟩
    iterate 5
      rw [Controller.dueSet, Controller.player_setSession, playerJ]
      rfl
    · have voice : (b.jumped z l).voice i = b.fadePlayback.voice i :=
        Controller.voice_of_frame (a := (b.fadePlayback.setPlayPedals l.damper l.sostenuto l.soft).setSession
          (some (b.jumpedSession z l))) (Controller.report_frame _ _) (by simp) i
      exact b.fadePlayback_fading (voice ▸ hn) playback
    · have now : b.now = c.now :=
        (congrArg StageClock.time (frameB.clock (by simp))).trans (congrArg StageClock.time (up.clock (by simp)))
      have slotZ : z.slot = x.slot := by rw [hz]; exact slotY
      have loopJ : Controller.jumpedLoop l = { l with
          passes := l.passes + 1, armed := decide ((l.count = 0 ∨ l.passes + 1 < l.count) ∧ l.start < l.stop) } := by
        rw [Controller.jumpedLoop, Loop.rearm_ms]
      rw [Controller.dueSet, Controller.player_setSession, Controller.jumpedSession, Controller.records_congr takesB, slotZ, now,
        loopJ, hz, Controller.advanced, hy]
      rfl

end Sys2Proof.Machine
end

section
/-! Standby entry and the completion of wake (R26, R60, R79, R130, R142, R208, R210). -/

namespace Sys2Proof.Machine

namespace Controller

variable (c : Controller)

/-! ### The voices through a decision of the output -/

/-- R142: a decision of the output leaves a voice as it was, or frees it with all others. -/
theorem outputDecide_voice {i : Nat} {n : Note} (h : c.outputDecide.voice i = some n) : c.voice i = some n := by
  have freed (owed : c.phones.freeingOwed = true) : c.arriveOff.voice i = none := by
    have voices : c.arriveOff.pool.voices = c.pool.voices.map fun _ => none := by
      rw [arriveOff, if_pos owed, toneCheck_voices]
      rfl
    rw [voice, voices, List.getElem?_map]
    cases c.pool.voices[i]? <;> rfl
  unfold outputDecide at h
  split at h
  · split at h <;> exact h
  · split at h
    · exact h
    · exact h
    · split at h
      · next owed =>
        rw [freed owed] at h
        cases h
      · exact h
    · exact h

theorem outputDecide_off {c : Controller} (unwanted : c.outputWanted = false) (off : c.phones.output = .off)
    (owed : c.phones.freeingOwed = true) : c.outputDecide = c.arriveOff := by
  unfold outputDecide
  rw [if_neg (by rw [unwanted]; exact Bool.false_ne_true), off]
  exact if_pos owed

/-! ### Standby entry (R208) -/

/-- R208: the blocks placed for standby, the voices and the output apart. -/
def slept : Controller :=
  { c with
    link := { c.link with state := .standby }
    clock := { c.clock with suspended := true }
    keys := c.keys.map KeyRec.asleep
    pedals := c.pedals.asleep
    trim := c.trim.asleep }

/-- R130, R142: every voice fading and the freeing owed, before the output is decided. -/
def dimmed : Controller := (c.slept.fadeVoices fun _ => true).modPhones fun p => { p with freeingOwed := true }

theorem standbyEnter_eq : c.standbyEnter = c.dimmed.outputDecide := rfl

theorem slept_frame : Frame [.clock, .keys, .trim, .pedals, .link] c c.slept := fun x h => by
  cases x <;> first | exact rfl | exact absurd (by decide) h

theorem dimmed_frame : Frame [.pool, .phones, .link] c.slept c.dimmed :=
  ((c.slept.fadeVoices_frame _).widen (by simp)).trans ((modPhones_frame _ _).widen (by simp))

theorem dimmed_phones : c.dimmed.phones = { c.phones with freeingOwed := true } := by
  show { (c.slept.fadeVoices fun _ => true).phones with freeingOwed := true } = _
  rw [(c.slept.fadeVoices_frame _).phones (by simp)]
  rfl

theorem dimmed_unwanted : c.dimmed.outputWanted = false := by
  have state : c.dimmed.link.state = .standby := (c.slept.mapVoices_tells _).state
  rw [outputWanted, state]
  simp

theorem dimmed_fading {i : Nat} {n : Note} (h : c.dimmed.voice i = some n) : n.fading = true := by
  have h : (c.slept.fadeVoices fun _ => true).voice i = some n := h
  rw [fadeVoices, mapVoices_voice] at h
  obtain ⟨m, -, hm⟩ := Option.bind_eq_some_iff.1 h
  exact Note.fade_fading ((if_pos rfl).symm.trans hm)

/-- What follows the placing of the blocks touches the pool, the path and the reports. -/
theorem standbyEnter_after : Frame [.pool, .phones, .link] c.slept c.standbyEnter :=
  c.dimmed_frame.trans (outputDecide_frame _)

/-! ### The busy reasons (R208) -/

/-- R208: the rail stands where standby may begin. -/
def RailSettled (x : RailState) : Prop := x = .clear ∨ x = .engaged ∨ x = .fault ∨ x = .unplaced

theorem busyReason_eq : c.busyReason =
    if c.playerState ≠ .stopped then some .player else if c.recState ≠ .idle then some .recorder
    else if c.rail.state ∈ [RailState.clear, .engaged, .fault, .unplaced] then
      if c.trim.cal.isSome then some .calibration else none
    else some .rail := by
  rw [busyReason]
  cases c.rail.state <;> rfl

theorem railSettled_iff (x : RailState) : x ∈ [RailState.clear, .engaged, .fault, .unplaced] ↔ RailSettled x := by
  simp [RailSettled]

end Controller

theorem standbyRequest_refused {c : Controller} {reason : BusyReason} (h : c.busyReason = some reason) :
    standbyRequest c = (c, { code := .badState, fields := codeByte reason.code }) := by
  rw [standbyRequest, h]

theorem standbyRequest_enters {c : Controller} (h : c.busyReason = none) :
    standbyRequest c = (c.standbyEnter, { code := .ok, fields := [] }) := by
  rw [standbyRequest, h]
  rfl

/-- Settles O18: the busy reasons in their order, and the entry block by block. -/
theorem standbyChecksAndEntry : Obligations.StandbyChecksAndEntry := by
  intro tag s sv c settled refused
  have reason := c.busyReason_eq
  have settled_iff : c.rail.state ∈ [RailState.clear, .engaged, .fault, .unplaced] ↔ settled :=
    Controller.railSettled_iff c.rail.state
  have ans {r : BusyReason} (h : c.busyReason = some r) : refused r := .of_rule rfl sv (standbyRequest_refused h) rfl rfl
  refine ⟨fun plays => ans (reason.trans (if_pos plays)), fun player busy =>
    ans (reason.trans ((if_neg (not_not_intro player)).trans (if_pos busy))), fun player idle moves =>
    ans (reason.trans ((if_neg (not_not_intro player)).trans ((if_neg (not_not_intro idle)).trans
      (if_neg (mt settled_iff.1 moves))))), fun player idle stands cal =>
    ans (reason.trans ((if_neg (not_not_intro player)).trans ((if_neg (not_not_intro idle)).trans
      ((if_pos (settled_iff.2 stands)).trans (if_pos (Option.isSome_iff_ne_none.2 cal)))))), fun player idle stands free => ?_⟩
  have enters : c.busyReason = none := reason.trans ((if_neg (not_not_intro player)).trans ((if_neg (not_not_intro idle)).trans
    ((if_pos (settled_iff.2 stands)).trans (if_neg (by rw [free]; exact Bool.false_ne_true)))))
  have after := c.standbyEnter_after
  have trim : c.standbyEnter.trim = c.trim.asleep := after.trim (by simp)
  have phones : c.standbyEnter.phones = { c.phones with freeingOwed := true }.decided false := by
    rw [c.standbyEnter_eq, Controller.outputDecide_phones, c.dimmed_phones, c.dimmed_unwanted]
  refine ⟨c.standbyEnter, .of_rule rfl sv (standbyRequest_enters enters) rfl rfl,
    (c.slept_frame.widen (by simp)).trans (after.widen (by simp)), after.clock (by simp), ?_, after.keys (by simp),
    after.pedals (by simp), by rw [trim]; rfl, by rw [trim]; exact free, fun g => ?_, fun u hu => ?_, fun i n hn =>
    c.dimmed_fading (c.dimmed.outputDecide_voice hn), fun off => ?_, fun on => ?_, fun falling => ?_, fun rising => ?_⟩
  · exact (c.dimmed.outputDecide_tells.state).trans (c.slept.mapVoices_tells _).state
  · rw [Controller.roundTimer, trim]
    show ((c.trim.rounds.map fun _ => none)[g]?).join = none
    rw [List.getElem?_map]
    cases c.trim.rounds[g]? <;> rfl
  · rw [trim] at hu
    obtain ⟨_, -, rfl⟩ := List.mem_map.1 hu
    exact ⟨rfl, rfl⟩
  · have offD : c.dimmed.phones.output = .off := by rw [c.dimmed_phones]; exact off
    have owed : c.dimmed.phones.freeingOwed = true := by rw [c.dimmed_phones]
    rw [c.standbyEnter_eq, Controller.outputDecide_off c.dimmed_unwanted offD owed]
    refine ⟨?_, c.dimmed.arriveOff_empty owed, ?_⟩
    all_goals
      rw [Controller.arriveOff_phones]
      rfl
  all_goals
    rw [phones, HeadphonePath.decided]
    dsimp only
  · rw [on]
    exact ⟨rfl, rfl, rfl⟩
  · rw [falling]
    rfl
  · rw [rising]
    exact ⟨rfl, rfl⟩

/-! ### The completion of wake (R210) -/

namespace Controller

/-- The wake source and the wake timer stand. -/
structure SameWake (a b : Controller) : Prop where
  source : b.link.wakeSource = a.link.wakeSource
  timer : b.link.wakeTimer = a.link.wakeTimer

theorem SameWake.refl (a : Controller) : SameWake a a := ⟨rfl, rfl⟩

theorem SameWake.trans {a b c : Controller} (h : SameWake a b) (k : SameWake b c) : SameWake a c :=
  ⟨k.source.trans h.source, k.timer.trans h.timer⟩

theorem SameWake.of_link {a b : Controller} (h : b.link = a.link) : SameWake a b := ⟨by rw [h], by rw [h]⟩

variable (c : Controller)

theorem report_sameWake (r : Report) : SameWake c (c.report r) := by
  constructor
  all_goals
    rw [report_link]
    unfold Link.place
    split_ifs <;> rfl

theorem tryGrant_sameWake : SameWake c c.tryGrant := by
  obtain e | ⟨g, rest, -, -, e⟩ := c.tryGrant_cases
  · rw [e]
    exact .refl c
  · rw [e]
    exact (SameWake.of_link (a := c) (b := c.granted g rest) rfl).trans (report_sameWake _ _)

theorem toneCheck_sameWake : SameWake c c.toneCheck := by
  unfold toneCheck
  split
  · split
    · refine .trans ?_ (report_sameWake _ _)
      exact .of_link rfl
    · exact .refl c
  · exact .refl c

theorem arriveOff_sameWake : SameWake c c.arriveOff := by
  by_cases owed : c.phones.freeingOwed = true
  · rw [arriveOff, if_pos owed]
    refine .trans ?_ (toneCheck_sameWake _)
    exact .of_link rfl
  · rw [arriveOff, if_neg owed]
    exact .of_link rfl

theorem outputDecide_sameWake : SameWake c c.outputDecide := by
  unfold outputDecide
  split
  · split <;> exact .of_link rfl
  · split
    · exact .of_link rfl
    · exact .of_link rfl
    · split
      · exact c.arriveOff_sameWake
      · exact .refl c
    · exact .refl c

theorem railTest_cases : c.railTest = c ∨ c.rail.state = .waitQuiet ∧
    ∃ t, c.railTest = ((c.setRail (c.startedRail t)).railReport false).trimSync := by
  by_cases h : c.rail.state = .waitQuiet ∧ c.rail.target ≠ none ∧ c.motionOpen = true
  · obtain ⟨waits, target, isOpen⟩ := h
    obtain ⟨t, target⟩ := Option.ne_none_iff_exists'.1 target
    exact .inr ⟨waits, t, c.railTest_starts waits target isOpen⟩
  · exact .inl (c.railTest_stands h)

theorem railTest_sameWake : SameWake c c.railTest := by
  obtain e | ⟨-, t, e⟩ := c.railTest_cases
  · rw [e]
    exact .refl c
  · rw [e]
    have said : SameWake c ((c.setRail (c.startedRail t)).railReport false) :=
      (SameWake.of_link (a := c) (b := c.setRail (c.startedRail t)) rfl).trans (report_sameWake _ _)
    exact ⟨said.source, said.timer⟩

theorem railTest_tells : Tells 1 c c.railTest := by
  obtain e | ⟨-, t, e⟩ := c.railTest_cases
  · rw [e]
    exact .refl _ _
  · rw [e]
    have said : Tells 1 c ((c.setRail (c.startedRail t)).railReport false) :=
      (Tells.of_link (n := 0) (a := c) (b := c.setRail (c.startedRail t)) rfl).trans (report_tells _ _)
    exact ⟨said.state, said.mask, said.grows⟩

/-- A rail test touches no round timer. -/
theorem railTest_rounds : c.railTest.trim.rounds = c.trim.rounds := by
  obtain e | ⟨-, t, e⟩ := c.railTest_cases
  · rw [e]
  · have trim : ((c.setRail (c.startedRail t)).railReport false).trim = c.trim := (railReport_frame _ _).trim (by simp)
    rw [e]
    show ((c.setRail (c.startedRail t)).railReport false).trim.rounds = _
    rw [trim]

/-- R45: a unit that no condition suspends trims or idles. -/
theorem unitPhase_free {g : Nat} (free : c.unitSuspended g = false) : c.unitPhase g ≠ .suspended := by
  have chosen : c.chosenPhase g ≠ .suspended := by
    unfold chosenPhase
    split
    · exact nofun
    · split <;> exact nofun
  rw [unitPhase, free, if_neg Bool.false_ne_true]
  split
  · split
    · exact nofun
    · exact chosen
  · exact chosen
  · exact chosen

/-- R53: after a try of the grant, with no calibration in progress and the Link active, no group waits or the rail moves or settles. -/
theorem tryGrant_waits (active : c.link.state = .active) (free : c.tryGrant.trim.cal = none) : c.tryGrant.trim.fifo = [] ∨
    c.tryGrant.rail.state = .engaging ∨ c.tryGrant.rail.state = .disengaging ∨ c.tryGrant.rail.state = .settling := by
  cases fifo : c.trim.fifo with
  | nil =>
    left
    have stands : c.tryGrant = c := by rw [tryGrant, fifo]
    rw [stands, fifo]
  | cons g gs =>
    by_cases isOpen : c.grantOpen = true
    · obtain ⟨-, busy⟩ := c.tryGrant_grants fifo isOpen
      rw [calibrating, free] at busy
      cases busy
    · right
      have stands : c.tryGrant = c := by
        rw [tryGrant, fifo]
        exact if_neg isOpen
      rw [stands] at free ⊢
      by_contra still
      rw [not_or, not_or] at still
      exact isOpen (grantOpen_of free active still)

/-! ### The steps of the completion -/

/-- R210: the Link active, the clock running and the keys placed. -/
def woken : Controller :=
  { c with
    link := { c.link with state := .active, wakeSource := none, wakeTimer := none }
    clock := { c.clock with suspended := false }
    keys := c.keys.map fun r => KeyRec.awake r c.thresholds }

/-- R60, R142: the rounds started afresh, the grant tried, the freeing no longer owed and the output decided. -/
def resumed : Controller := (c.startRounds.tryGrant.modPhones fun p => { p with freeingOwed := false }).outputDecide

theorem wakeFinish_eq (src : WakeSource) : c.wakeFinish src = c.woken.resumed.railTest.trimSync.report (.awake src) := rfl

theorem resumed_frame : Frame [.trim, .pool, .phones, .link] c c.resumed :=
  (((c.startRounds_frame.widen (by simp)).trans ((tryGrant_frame _).widen (by simp))).trans
    ((modPhones_frame _ _).widen (by simp))).trans ((outputDecide_frame _).widen (by simp))

theorem resumed_trim : c.resumed.trim = c.startRounds.tryGrant.trim := (outputDecide_frame _).trim (by simp)

theorem resumed_state : c.resumed.link.state = c.link.state :=
  (outputDecide_tells _).state.trans (c.startRounds.tryGrant_tells).state

theorem resumed_sameWake : SameWake c c.resumed :=
  (SameWake.trans (.of_link (a := c) (b := c.startRounds) rfl) (tryGrant_sameWake _)).trans
    (SameWake.trans (.of_link (a := c.startRounds.tryGrant)
      (b := c.startRounds.tryGrant.modPhones fun p => { p with freeingOwed := false }) rfl) (outputDecide_sameWake _))

theorem resumed_timer {g : Nat} (hg : g < 11) : c.resumed.roundTimer g =
    some (after c.now (c.trim.interval * 1000000 + g * (c.trim.interval * 1000000) / 11)) := by
  obtain ⟨fifo, cal, trim⟩ := c.startRounds.tryGrant_trim
  rw [← c.startRounds_timer hg, roundTimer, roundTimer, c.resumed_trim, trim]

theorem resumed_phones : c.resumed.phones = { c.phones with freeingOwed := false }.decided
    (c.phones.enable && c.phones.jackPresent && c.link.state == LinkState.active && decide (0 < c.phones.master.setting)) := by
  have phones : c.startRounds.tryGrant.phones = c.phones := (tryGrant_frame _).phones (by simp)
  have state : c.startRounds.tryGrant.link.state = c.link.state := c.startRounds.tryGrant_tells.state
  rw [resumed, outputDecide_phones, outputWanted]
  show { c.startRounds.tryGrant.phones with freeingOwed := false }.decided
    (c.startRounds.tryGrant.phones.enable && c.startRounds.tryGrant.phones.jackPresent &&
      c.startRounds.tryGrant.link.state == LinkState.active && decide (0 < c.startRounds.tryGrant.phones.master.setting)) = _
  rw [phones, state]

theorem woken_key {k : Nat} (hk : 1 ≤ k ∧ k ≤ c.keys.length) : c.woken.key k = (c.key k).awake c.thresholds := by
  have inside : k - 1 < c.keys.length := by omega
  rw [key, key, List.getElem?_eq_getElem inside]
  show (((c.keys.map fun r => KeyRec.awake r c.thresholds))[k - 1]?).getD _ = _
  rw [List.getElem?_map, List.getElem?_eq_getElem inside]
  rfl

end Controller

/-- R26: the state and the mark of a key at the completion of wake. -/
theorem KeyRec.awake_state (r : KeyRec) (t : Thresholds) : (r.awake t).state =
    (if r.state ≠ .rest then r.state else if r.muted then .muted else if r.latestDepth < t.rest then .rest else .shallow) ∧
    (r.awake t).holdOff = (if r.state = .rest then decide ((r.awake t).state = .shallow) else r.holdOff) := by
  by_cases rest : r.state = .rest
  · have whole : r.awake t = { r with resumed := true }.reevaluated t := if_pos rest
    rw [if_neg (not_not_intro rest), if_pos rest, whole, reevaluated_state, reevaluated_holdOff, reevaluated_state]
    refine ⟨rfl, ?_⟩
    rw [Bool.eq_iff_iff]
    simp
  · have whole : r.awake t = { r with resumed := true } := if_neg rest
    rw [if_pos rest, if_neg rest, whole]
    exact ⟨rfl, rfl⟩

theorem wakeComplete_due {c : Controller} {src : WakeSource} {f : Nat} (waking : c.link.state = .waking)
    (source : c.link.wakeSource = some src) (timer : c.link.wakeTimer = some f) (late : f ≤ c.phones.frame) :
    c.wakeComplete = c.wakeFinish src := by
  rw [Controller.wakeComplete, waking, source]
  refine if_pos ?_
  rw [timer]
  exact decide_eq_true late

/-- Settles O20: the steps of the completion, each in its block. -/
theorem wakeCompletes : Obligations.WakeCompletes := by
  intro src f s run sized waking source timer late
  obtain ⟨w, hw⟩ : ∃ w, w = s.ctl.woken := ⟨_, rfl⟩
  obtain ⟨b, hb⟩ : ∃ b, b = w.resumed := ⟨_, rfl⟩
  have rule : s.ctl.wakeComplete = b.railTest.trimSync.report (.awake src) := by
    rw [wakeComplete_due waking source timer late, s.ctl.wakeFinish_eq, hb, hw]
  have woke : Controller.Frame [.clock, .keys, .link] s.ctl w := fun x h => by
    rw [hw]
    cases x <;> first | exact rfl | exact absurd (by decide) h
  have resumed : Controller.Frame [.trim, .pool, .phones, .link] w b := hb ▸ w.resumed_frame
  have test := b.railTest_frame
  have active : w.link.state = .active := by rw [hw]; rfl
  have activeB : b.link.state = .active := by rw [hb, w.resumed_state, active]
  have activeT : b.railTest.link.state = .active := b.railTest_tells.state.trans activeB
  have wake : Controller.SameWake w b.railTest := (hb ▸ w.resumed_sameWake).trans b.railTest_sameWake
  have phones : b.railTest.trimSync.phones = { s.ctl.phones with freeingOwed := false }.decided
      (s.ctl.phones.enable && s.ctl.phones.jackPresent && decide (0 < s.ctl.phones.master.setting)) := by
    show b.railTest.phones = _
    rw [test.phones (by simp), hb, w.resumed_phones, active, woke.phones (by simp)]
    simp
  have key (k : Nat) (low : 1 ≤ k) (high : k ≤ 88) :
      b.railTest.trimSync.key k = (s.ctl.key k).awake s.ctl.thresholds := by
    have keys : b.railTest.trimSync.keys = w.keys := (test.keys (by simp)).trans (resumed.keys (by simp))
    rw [Controller.key, keys, hw]
    exact s.ctl.woken_key ⟨low, by rw [sized.keys]; exact high⟩
  refine ⟨b.railTest.trimSync, .of_run (f := Controller.wakeComplete) rfl run rule,
    ((woke.widen (by simp)).trans (resumed.widen (by simp))).trans
      ((test.widen (by simp)).trans ((Controller.trimSync_frame _).widen (by simp))), ?_, activeT, ?_, ?_, ?_,
    fun k low high => ?_, fun k low high => ?_, fun g hg => ?_, fun g hg suspended => ?_, fun free => ?_, ?_⟩
  · show b.railTest.clock = _
    rw [test.clock (by simp), resumed.clock (by simp), hw]
    rfl
  · exact wake.source.trans (by rw [hw]; rfl)
  · exact wake.timer.trans (by rw [hw]; rfl)
  · rw [phones, HeadphonePath.decided]
    split
    · split <;> rfl
    · split
      · rfl
      · rfl
      · split <;> rfl
      · rfl
  · rw [key k low high]
    exact ((s.ctl.key k).awake_state s.ctl.thresholds).1
  · rw [key k low high]
    exact ((s.ctl.key k).awake_state s.ctl.thresholds).2
  · show (b.railTest.trim.rounds[g]?).join = _
    have timer := w.resumed_timer hg
    rw [← hb, Controller.roundTimer] at timer
    rw [b.railTest_rounds, timer, hw]
    rfl
  · rw [Controller.trimSync_unit _ hg] at suspended
    by_contra still
    rw [not_or] at still
    refine b.railTest.unitPhase_free ?_ suspended
    rw [Controller.unitSuspended, activeT]
    have motor : b.railTest.motorRunning = false := Bool.eq_false_iff.2 still.1
    have cal : b.railTest.calibrating g = false := Bool.eq_false_iff.2 still.2
    rw [motor, cal]
    rfl
  · obtain ⟨cal, fifo⟩ := b.railTest_cal
    have free : b.railTest.trim.cal = none := free
    have trim : b.trim = w.startRounds.tryGrant.trim := by rw [hb, w.resumed_trim]
    have rail : b.rail = w.startRounds.tryGrant.rail := by
      rw [resumed.rail (by simp), (Controller.tryGrant_frame _).rail (by simp)]
      rfl
    rw [cal, trim] at free
    rcases w.startRounds.tryGrant_waits active free with empty | moves
    · left
      show b.railTest.trim.fifo = []
      rw [fifo, trim, empty]
    · right
      rw [← rail] at moves
      have stands : b.railTest = b := by
        obtain e | ⟨waits, -⟩ := b.railTest_cases
        · exact e
        · rw [waits] at moves
          rcases moves with h | h | h <;> cases h
      show b.railTest.rail.state = _ ∨ b.railTest.rail.state = _ ∨ b.railTest.rail.state = _
      rw [stands]
      exact moves
  · rw [phones, HeadphonePath.decided]
    split
    · cases h : s.ctl.phones.output <;> simp [h]
    · cases h : s.ctl.phones.output <;> simp [h]

end Sys2Proof.Machine
end

section
/-! The other blocks at the two resets (R1, R5, R17, R27, R28, R37, R58, R61, R62, R77, R80, R105, R106, R143, R158, R171, R197, R206, R207). -/

namespace Sys2Proof.Machine

/-! ### The power-on reset (R207) -/

namespace Controller

theorem powerOn_roundTimer (clear engaged : Bool) {g : Nat} (hg : g < 11) :
    (powerOn clear engaged).roundTimer g = some (BitVec.ofNat 32 (8000000 + g * 8000000 / 11)) := by
  have rounds : (powerOn clear engaged).trim.rounds = (List.range 11).map fun g => some (firstRound 8000000 g) := rfl
  rw [roundTimer, rounds, List.getElem?_map, List.getElem?_range hg]
  rfl

theorem powerOn_passedOver (clear engaged : Bool) (g : Nat) : ((powerOn clear engaged).trimUnit g).passedOver = [] := by
  have units : (powerOn clear engaged).trim.units =
    { phase := .suspended, passedOver := [] } :: List.replicate 10 { phase := .idle, passedOver := [] } := rfl
  rw [trimUnit, units]
  cases g with
  | zero => rfl
  | succ g =>
    rw [List.getElem?_cons_succ, List.getElem?_replicate]
    split <;> rfl

theorem powerOn_pedal (clear engaged : Bool) {p : Nat} (hp : p < 3) : (powerOn clear engaged).pedal p = PedalRec.powerOn := by
  have recs : (powerOn clear engaged).pedals.recs = List.replicate 3 PedalRec.powerOn := rfl
  rw [pedal, recs, List.getElem?_replicate, if_pos hp]
  rfl

end Controller

/-- Settles O6: each block is the one that every power-on reset writes. -/
theorem powerOnEveryBlock : Obligations.PowerOnEveryBlock := by
  intro clear engaged s
  refine ⟨_, exec_powerOnReset clear engaged s, rfl, rfl, rfl, List.length_replicate, fun r hr => ?keys, fun name => ?curves,
    rfl, rfl, rfl, rfl, fun g hg => ⟨Controller.powerOn_roundTimer clear engaged hg, Controller.powerOn_passedOver clear engaged g⟩,
    fun p hp => Controller.powerOn_pedal clear engaged hp, rfl, rfl, rfl, rfl, ?rail, ?cause, rfl, rfl, rfl, rfl, rfl, rfl, rfl,
    rfl, rfl, rfl, rfl, rfl, rfl, rfl, rfl, rfl, rfl, rfl, rfl, rfl, rfl, rfl, rfl, rfl, rfl, rfl, rfl, rfl, rfl, rfl, rfl,
    rfl, rfl, rfl, rfl, rfl, rfl, rfl, rfl, rfl, rfl, rfl, rfl, rfl, rfl, rfl, rfl, rfl⟩
  case keys =>
    obtain rfl := List.eq_of_mem_replicate hr
    exact ⟨rfl, rfl, rfl, rfl, rfl, rfl, rfl, rfl, rfl, rfl, rfl, rfl, rfl, rfl, rfl, rfl, rfl⟩
  case curves => cases name <;> rfl
  case rail => cases clear <;> cases engaged <;> rfl
  case cause => rfl

/-! ### The soft reset (R206) -/

namespace KeyRec

/-- R28, R61: the record of a key at a soft reset before it is placed. -/
def cleared (r : KeyRec) : KeyRec :=
  { r with debt := 1, stale := false, flight := none, tLift := none, faultTimer := none, recovery := none, calLost := false }

theorem softReset_eq (r : KeyRec) (t : Thresholds) : r.softReset t =
    if r.state = .fault ∨ r.state = .uncal then r.cleared
    else if r.calLost = true then { r.cleared with state := .uncal } else r.cleared.reevaluated t := by
  unfold softReset
  dsimp only
  split
  · next fault => rw [if_pos (.inl fault)]; rfl
  · next uncal => rw [if_pos (.inr uncal)]; rfl
  all_goals next state =>
    have placed : ¬ (r.state = .fault ∨ r.state = .uncal) := by simp [state]
    rw [if_neg placed]
    rfl

/-- Re-evaluation places a key and takes its marks away; the rest of its record stands. -/
theorem reevaluated_rest (r : KeyRec) (t : Thresholds) : ∃ state holdOff, r.reevaluated t = { r with
    state := state, holdOff := holdOff, flight := none, tLift := none, sounded := false, liftSpent := false } := by
  unfold reevaluated
  dsimp only
  split_ifs <;> exact ⟨_, _, rfl⟩

/-- R28, R61: at a soft reset a key keeps its settings, its rest reading and its latest sample. -/
theorem softReset_record (r : KeyRec) (t : Thresholds) : ∃ state holdOff sounded liftSpent, r.softReset t =
    { r.cleared with state := state, holdOff := holdOff, sounded := sounded, liftSpent := liftSpent } := by
  rw [softReset_eq]
  split_ifs
  · exact ⟨_, _, _, _, rfl⟩
  · exact ⟨_, _, _, _, rfl⟩
  · obtain ⟨state, holdOff, e⟩ := r.cleared.reevaluated_rest t
    exact ⟨state, holdOff, false, false, e⟩

theorem softReset_state (r : KeyRec) (t : Thresholds) : (r.softReset t).state =
    if r.state = .fault then .fault else if r.state = .uncal ∨ r.calLost = true then .uncal
    else if r.muted then .muted else if r.latestDepth < t.rest then .rest else .shallow := by
  rw [softReset_eq]
  by_cases fault : r.state = .fault
  · rw [if_pos (.inl fault), if_pos fault]
    exact fault
  · rw [if_neg fault]
    by_cases uncal : r.state = .uncal
    · rw [if_pos (.inr uncal), if_pos (.inl uncal)]
      exact uncal
    · rw [if_neg (not_or.2 ⟨fault, uncal⟩)]
      by_cases lost : r.calLost = true
      · rw [if_pos lost, if_pos (.inr lost)]
      · rw [if_neg lost, if_neg (not_or.2 ⟨uncal, lost⟩), reevaluated_state]
        rfl

/-- R28: a key that is placed has its marks taken away, but for the hold-off of SHALLOW (R17). -/
theorem softReset_marks {r : KeyRec} (t : Thresholds) (fault : r.state ≠ .fault) (uncal : r.state ≠ .uncal)
    (kept : r.calLost = false) : (r.softReset t).holdOff = decide ((r.softReset t).state = .shallow) ∧
      (r.softReset t).sounded = false ∧ (r.softReset t).liftSpent = false := by
  have placed : r.softReset t = r.cleared.reevaluated t := by
    rw [softReset_eq, if_neg (not_or.2 ⟨fault, uncal⟩), if_neg (Bool.eq_false_iff.1 kept)]
  obtain ⟨state, holdOff, e⟩ := r.cleared.reevaluated_rest t
  rw [placed]
  refine ⟨?_, by rw [e], by rw [e]⟩
  rw [reevaluated_holdOff, Bool.eq_iff_iff]
  simp

end KeyRec

namespace Controller

variable (c : Controller)

/-- R206: the blocks at their values of a soft reset, before the rounds start. -/
def restarted (clear engaged : Bool) : Controller :=
  { c with
    player := c.player.softReset
    pool := { c.pool with voices := c.pool.voices.map fun _ => none, pendingTone := none }
    phones := HeadphonePath.atReset c.phones.frame c.phones.jackLevel
    rail := Rail.placed clear engaged c.rail.overLimit
    pedals := c.pedals.softReset
    keys := c.keys.map fun r => KeyRec.softReset r c.thresholds
    trim := c.trim.softReset
    link := Link.atReset true c.now }

theorem softReset_restarts (clear engaged : Bool) : c.softReset clear engaged =
    (c.closeWindow.recSoftReset.restarted clear engaged).startRounds.trimSync := rfl

theorem restarted_key (clear engaged : Bool) {k : Nat} (hk : 1 ≤ k ∧ k ≤ c.keys.length) :
    (c.restarted clear engaged).key k = (c.key k).softReset c.thresholds := by
  have inside : k - 1 < c.keys.length := by omega
  have keys : (c.restarted clear engaged).keys = c.keys.map fun r => KeyRec.softReset r c.thresholds := rfl
  rw [key, key, keys, List.getElem?_map, List.getElem?_eq_getElem inside]
  rfl

theorem restarted_pedal (clear engaged : Bool) {p : Nat} (hp : p < c.pedals.recs.length) :
    (c.restarted clear engaged).pedal p =
      { c.pedal p with lastReported := (c.pedal p).value, faultTimer := none, recovery := none } := by
  have recs : (c.restarted clear engaged).pedals.recs =
    c.pedals.recs.map fun r => { r.still with lastReported := r.value } := rfl
  rw [pedal, pedal, recs, List.getElem?_map, List.getElem?_eq_getElem hp]
  rfl

theorem restarted_passedOver (clear engaged : Bool) (g : Nat) : ((c.restarted clear engaged).trimUnit g).passedOver = [] := by
  have units : (c.restarted clear engaged).trim.units = c.trim.units.map fun _ => { phase := .idle, passedOver := [] } := rfl
  rw [trimUnit, units, List.getElem?_map]
  cases c.trim.units[g]? <;> rfl

/-! ### The Recorder at the soft reset (R171) -/

theorem recSoftReset_none {c : Controller} (h : c.recorder.job = none) : c.recSoftReset = c := by
  rw [recSoftReset, h]

theorem recSoftReset_some {c : Controller} {j : RecJob} (h : c.recorder.job = some j) :
    c.recSoftReset = c.recEnd j (c.stopLength j) := by
  rw [recSoftReset, h]

theorem recSoftReset_job : c.recSoftReset.recorder.job = none := by
  cases h : c.recorder.job with
  | none => rw [recSoftReset_none h, h]
  | some j =>
    rw [recSoftReset_some h]
    rfl

theorem recSoftReset_window : c.recSoftReset.takes.window = c.takes.window := by
  cases h : c.recorder.job with
  | none => rw [recSoftReset_none h]
  | some j => rw [recSoftReset_some h, c.recEnd_window]

theorem recSoftReset_other {sl : Slot} (unused : c.recorderUses sl = false) : c.recSoftReset.take sl = c.take sl := by
  cases h : c.recorder.job with
  | none => rw [recSoftReset_none h]
  | some j =>
    rw [recorderUses, h] at unused
    have ne : sl ≠ j.target := fun e => Bool.eq_false_iff.1 unused (beq_iff_eq.2 e.symm)
    rw [recSoftReset_some h]
    exact c.recEnd_other j _ ne

end Controller

/-- Settles O8: the blocks before the rounds start, and the Recorder's end before them. -/
theorem softResetEveryBlock : Obligations.SoftResetEveryBlock := by
  intro clear engaged s run due sized
  obtain ⟨w, hw⟩ : ∃ w, w = s.ctl.closeWindow := ⟨_, rfl⟩
  obtain ⟨b, hb⟩ : ∃ b, b = w.recSoftReset := ⟨_, rfl⟩
  have close : Controller.Frame [.takes] s.ctl w := hw ▸ s.ctl.closeWindow_frame
  have stop : Controller.Frame [.takes, .recorder] s.ctl b := by
    rw [hb, hw]
    exact s.ctl.closeWindow_recSoftReset_frame
  have whole : s.ctl.softReset clear engaged = (b.restarted clear engaged).startRounds.trimSync := by
    rw [s.ctl.softReset_restarts, hb, hw]
  have now : b.now = s.ctl.now := congrArg StageClock.time (stop.clock (by simp))
  have thresholds : b.thresholds = s.ctl.thresholds := stop.thresholds (by simp)
  have trim : b.trim = s.ctl.trim := stop.trim (by simp)
  have interval : b.trim.interval = s.ctl.trim.interval := congrArg TrimEngine.interval trim
  have pullIn : b.trim.pullIn = s.ctl.trim.pullIn := congrArg TrimEngine.pullIn trim
  have pedals : b.pedals = s.ctl.pedals := stop.pedals (by simp)
  have softCut : b.pedals.softCut = s.ctl.pedals.softCut := congrArg PedalUnit.softCut pedals
  have takes : (s.ctl.softReset clear engaged).take = b.take := by
    rw [whole]
    exact Controller.take_congr rfl
  have recorder : w.recorder = s.ctl.recorder := close.recorder (by simp)
  refine ⟨_, leaves_softReset run due clear engaged, ?_, ?_, ?_, ?_, fun k low high => ?key, ?_, ?_, ?_, ?_,
    fun g hg => ⟨?round, ?unit⟩, ?_, ?_, ?_, ?_, fun p hp => ?still, ?_, ?_, fun sl unused => ?other, fun j job => ?target, ?_,
    ?_, ?_, s.ctl.softReset_link clear engaged⟩
  case key =>
    intro r r'
    have record : r' = r.softReset s.ctl.thresholds := by
      have keys : b.keys = s.ctl.keys := stop.keys (by simp)
      have placed := b.restarted_key clear engaged (k := k) ⟨low, by rw [keys, sized.keys]; exact high⟩
      rw [thresholds, Controller.key, Controller.key, keys] at placed
      show (s.ctl.softReset clear engaged).key k = _
      rw [whole]
      exact placed
    rw [record]
    refine ⟨?_, ?_, ?_, ?_, ?_, ?_, ?_, ?_, ?_, ?_, ?_, ?_, ?_, ?_, r.softReset_state s.ctl.thresholds,
      KeyRec.softReset_marks s.ctl.thresholds⟩
    all_goals
      obtain ⟨state, holdOff, sounded, liftSpent, e⟩ := r.softReset_record s.ctl.thresholds
      rw [e]
      rfl
  case round =>
    have timer := (b.restarted clear engaged).startRounds_timer hg
    have restart : (b.restarted clear engaged).trim.interval = s.ctl.trim.interval := interval
    have now' : (b.restarted clear engaged).now = s.ctl.now := now
    rw [restart, now'] at timer
    rw [whole]
    exact timer
  case unit =>
    rw [whole, Controller.trimSync_unit _ hg]
    exact b.restarted_passedOver clear engaged g
  case still =>
    have placed := b.restarted_pedal clear engaged (p := p) (by rw [pedals, sized.pedals]; exact hp)
    have same : b.pedal p = s.ctl.pedal p := by rw [Controller.pedal, Controller.pedal, pedals]
    rw [same] at placed
    rw [whole]
    exact placed
  case other =>
    rw [takes, hb, ← hw]
    refine w.recSoftReset_other ?_
    rw [Controller.recorderUses, recorder]
    exact unused
  case target =>
    have jobW : w.recorder.job = some j := by rw [recorder]; exact job
    have time : w.recTime = s.ctl.recTime := Controller.recTime_congr (close.clock (by simp)) (close.player (by simp))
    rw [takes, hb, Controller.recSoftReset_some jobW, Controller.recEnd_take, stopLength_eq, time, hw]
  all_goals rw [whole]
  · exact (stop.inReset (by simp)).trans run
  · exact stop.clock (by simp)
  · exact thresholds
  · exact stop.curves (by simp)
  · exact interval
  · exact pullIn
  · rfl
  · rfl
  · rfl
  · rfl
  · rfl
  · exact softCut
  · exact congrArg (fun r : Rail => Rail.placed clear engaged r.overLimit) (stop.rail (by simp))
  · exact congrArg (fun p : HeadphonePath => HeadphonePath.atReset p.frame p.jackLevel) (stop.phones (by simp))
  · have window : b.takes.window = none := by
      rw [hb, w.recSoftReset_window, hw]
      exact s.ctl.closeWindow_window
    exact window
  · have job : b.recorder.job = none := hb ▸ w.recSoftReset_job
    show b.recState = .idle
    rw [Controller.recState, job]
  · exact congrArg Player.softReset (stop.player (by simp))

end Sys2Proof.Machine
end
